-- ==== Sys2Proof/Word.lean ====
section
/-! DEFINITION. The byte of both links, and the plainest arithmetic on it. -/

namespace Sys2Proof

/-- One byte of the Uplink or of the Dock Link. -/
abbrev Byte := BitVec 8

/-- The running millisecond count and every stamp taken from it (03 R37). -/
abbrev Stamp := BitVec 32

/-- The byte that a number below 256 is written as. -/
def byte (n : Nat) : Byte := BitVec.ofNat 8 n

/-- Time in ms from a stamp to the present count, which wraps (03 R37). -/
def since (now stamp : Stamp) : Nat := (now - stamp).toNat

end Sys2Proof
end

