-- ==== Sys2Proof/Syntax.lean ====
section
/-! DEFINITION. The commands of the block: one constructor of `Instr` for each row of `spec/opcode_table.json`, in the table's order, with the data that each comes with. -/

namespace Sys2Proof

/-- The four switch inputs (01 1.1). -/
inductive Input where
  | lid | fold | garage | presence
  deriving DecidableEq, Repr

/-- The electrical levels of the four switch pins, true for high (01 1.1). -/
structure Pins where
  lid : Bool
  fold : Bool
  garage : Bool
  presence : Bool
  deriving DecidableEq, Repr

/-- What the part senses at the end of a reset: the pins (01 R6), the first rail reading in mV and the first die temperature in °C (07 R126, R127). -/
structure ResetSense where
  pins : Pins
  rail : Int
  temp : Int
  deriving DecidableEq, Repr

/-- What the part senses at an entry to RUN from SETTLE: rail (07 R126), die temperature (07 R127), cell voltage and delivered current (08 R145). -/
structure WakeSense where
  rail : Int
  temp : Int
  cellV : Int
  cellI : Int
  deriving DecidableEq, Repr

/-- One constructor for each row of the table of operations and events. Rows RAW_CHANGE to SOFT_RESET are events.
Rows ECHO to PART_RESET_FULL are the host's commands: each carries the CHANNEL/TAG byte `ct` of its frame and the
command's fields, and stands for the reception of that whole frame (log 6). -/
inductive Instr where
  | rawChange (i : Input) (high : Bool)
  | debounceExpiry (i : Input)
  | lidSampleEvent (x y z : Int)
  | orientDwellExpiry
  | postureDwellExpiry
  | restartHoldExpiry
  | settleTimerDockExpiry
  | pollPeriodExpiry
  | identAttemptOpen
  | dockAnswer (bytes : List Byte)
  | answerStoppedShort
  | answerWindowExpiry
  | readyTimerExpiry
  | dockAttention
  | walkStepResume
  | powerRequestServe
  | pendingGrantApply
  | holdExpiry
  | spaceEvent
  | idleTimerIncrement
  | railReading (mv : Int)
  | shedTimerExpiry
  | temperatureReading (t : Int)
  | measurementEvent (mv ma : Int)
  | phaseLimitExpiry
  | sleepDwellExpiry
  | wakeTimerExpiry
  | complianceExpiry
  | cutWaitExpiry
  | cutPulseExpiry
  | pendingWakeServe
  | unlockWindowTimeout
  | dozeTimerExpiry
  | standbyTimerExpiry
  | deferredStandbyEntry
  | settleTimerExpiry (w : WakeSense)
  | uplinkActivity
  | commandFrameReceived (bytes : List Byte)
  | uplinkFrameDiscard (bytes : List Byte) (framingError : Bool)
  | interbyteTimeout
  | frameTransmitEnd
  | overflowReport
  | powerOnReset (r : ResetSense)
  | brownoutReset (r : ResetSense)
  | pinReset (r : ResetSense)
  | fullReset (rail temp : Int)
  | softReset (rail temp : Int)
  | echo (ct : Byte)
  | tableWritePosture (ct idx : Byte) (entry : List Byte)
  | tableWriteGateDir (ct idx : Byte) (entry : List Byte)
  | tableWriteGateEntry (ct idx : Byte) (entry : List Byte)
  | tableWriteSleepRule (ct idx : Byte) (entry : List Byte)
  | tableWriteChargeProfile (ct idx : Byte) (entry : List Byte)
  | tableRead (ct table idx : Byte)
  | hitsClear (ct first count : Byte)
  | configSet (ct num : Byte) (value : BitVec 32)
  | configGet (ct num : Byte)
  | statusRead (ct block page : Byte)
  | reportEnable (ct : Byte) (mask : BitVec 24)
  | dockStepIdentify (ct : Byte)
  | dockStepPower (ct : Byte)
  | dockStepQuiesce (ct : Byte)
  | dockStepWake (ct : Byte)
  | dockStepRelease (ct : Byte)
  | dockAuto (ct target : Byte)
  | passdown (ct : Byte) (bytes : List Byte)
  | gateRescan (ct : Byte)
  | gateFlush (ct : Byte)
  | rotationLock (ct value : Byte)
  | chargeControlStart (ct : Byte)
  | chargeControlStop (ct : Byte)
  | hostState (ct value : Byte)
  | policyUnlock (ct : Byte)
  | forceMode (ct mode : Byte)
  | areaMap (ct : Byte) (words : List (BitVec 16))
  | areaClear (ct area : Byte)
  | areaPeek (ct area : Byte) (index : BitVec 16) (count : Byte)
  | accessSet (ct channel group word : Byte)
  | accessFreeze (ct : Byte)
  | partResetSoft (ct : Byte)
  | partResetFull (ct : Byte)
  deriving DecidableEq, Repr

end Sys2Proof
end

