-- ==== Sys2Proof/Decode.lean ====
section
/-! DEFINITION. The command that a word spells by the table's bits. No row of `spec/opcode_table.json` has bits (every row's `fields` is empty), so no word spells a command; the Uplink's own frames are decoded by the receiver and the command rules of chapter 11 (`Machine/Uplink.lean`, `Machine/Commands.lean`). -/

namespace Sys2Proof

/-- The command a word of the table's bits spells: none, since the table gives no row bits. -/
def decodeTableWord (_nbits _w : Nat) : Option Instr := none

end Sys2Proof
end

