-- ==== Sys2Proof/Machine/Types.lean ====
section
/-! DEFINITION. The records of the twelve blocks, as their chapters name them. -/

namespace Sys2Proof.Machine

/-- A timer: stopped, or running with its remaining time in ms (00, Events and timers). -/
abbrev Timer := Option Nat

/-! ### SIB (01 1.1) -/

/-- One switch input: the level at its pin, its debounced state (true for ASSERTED), its debounce run. -/
structure SwitchInput where
  level : Bool
  asserted : Bool
  run : Timer
  deriving DecidableEq, Repr

structure Sib where
  lid : SwitchInput
  fold : SwitchInput
  garage : SwitchInput
  presence : SwitchInput
  deriving DecidableEq, Repr

/-! ### HAU (01 1.2 to 1.8) -/

/-- A three-axis vector, 1024 to one g. -/
structure Vec where
  x : Int
  y : Int
  z : Int
  deriving DecidableEq, Repr

inductive Quality where
  | good | held | hall | unknown
  deriving DecidableEq, Repr

/-- The condition of the base vector (01 1.4). -/
inductive BaseVector where
  | absent | awaiting | fresh | stale
  deriving DecidableEq, Repr

/-- The hinge record (01 R17). -/
structure Hinge where
  angle : Option Nat
  quality : Quality
  holds : Nat
  deriving DecidableEq, Repr

structure Hau where
  lid : Option Vec
  cond : BaseVector
  base : Option Vec
  /-- ms since the last accepted base sample -/
  age : Nat
  hinge : Hinge
  lastReported : Option Nat
  mirrorCount : Nat
  /-- the lid sample period in progress -/
  sampleTimer : Timer
  deriving DecidableEq, Repr

/-! ### ORU (02 2.1) -/

inductive Orient where
  | landscape | portrait | landscapeInv | portraitInv | flatUp | flatDown | unknown
  deriving DecidableEq, Repr

structure Oru where
  committed : Orient
  candidate : Option Orient
  dwell : Timer
  lock : Bool
  flat : Bool
  angle : Option Nat
  deriving DecidableEq, Repr

/-! ### PCL (03 3.2, 3.4) -/

inductive BaseCond where
  | detached | keyboard | cover
  deriving DecidableEq, Repr

/-- A posture table row. The sets' bit n is the n-th class or condition. -/
structure PostureRow where
  valid : Bool
  low : Nat
  high : Nat
  orients : BitVec 6
  bases : BitVec 3
  code : Nat
  deriving DecidableEq, Repr

structure Pcl where
  code : Nat
  row : Option Nat
  stamp : Stamp
  cand : Option Nat
  candRow : Option Nat
  dwell : Timer
  restart : Timer
  cond : BaseCond
  table : List PostureRow
  deriving DecidableEq, Repr

/-! ### DLC (04) -/

inductive DockState where
  | absent | settling | present | identifying | identified | powering | active | quiesced | waking | covered | faulted
  deriving DecidableEq, Repr

/-- A lifecycle step; `release` is never in flight (04 R73, R82). -/
inductive DockStep where
  | identify | power | quiesce | wake | release | recover
  deriving DecidableEq, Repr

inductive WalkTarget where
  | attach | wake | quiesce
  deriving DecidableEq, Repr

inductive Origin where
  | host | psc | policy
  deriving DecidableEq, Repr

structure Walk where
  target : WalkTarget
  origin : Origin
  deriving DecidableEq, Repr

/-- A power request of the PSC (04 R80). -/
inductive PowerReq where
  | quiesce | wake
  deriving DecidableEq, Repr

/-- The outcome of a slot (04 R58). -/
inductive Outcome where
  | valid | garbled | missing
  deriving DecidableEq, Repr

/-- The causes of a DOCK report (04 R82); the last seven but NO_ACK's group are the fault causes of 04 4.3. -/
inductive DockCause where
  | detached | released | noAck | ident | budget | power | link | overdraw | supply | base
  deriving DecidableEq, Repr

inductive DockEvent where
  | presence | settled | stepDone | stepFailed | recovery | recovered | newBase | fault | detached
  deriving DecidableEq, Repr

inductive BaseClass where
  | keyboard | keyboardTouchpad
  deriving DecidableEq, Repr

inductive Mount where
  | normal | rotated
  deriving DecidableEq, Repr

/-- The eight fields of an identification (04 R61); `tilt` is the mounting, absent when tilt present is no. -/
structure Ident where
  cls : BaseClass
  rev : Nat
  active : Nat
  quiesced : Nat
  tilt : Option Mount
  layout : Nat
  touchpad : Bool
  deriving DecidableEq, Repr

/-- The base record but for its grant, which is the SBU's dock grant (04 R61, R77). -/
inductive BaseRecord where
  | cover
  | keyboard (i : Ident)
  deriving DecidableEq, Repr

/-- The frame that the part sent to open a slot (04 4.1). -/
structure DockFrame where
  head : Byte
  payload : List Byte
  deriving DecidableEq, Repr

/-- The first slot that waits until the grant is applied (04 R63, R66, R72, R77). -/
inductive Await where
  | ident | run
  deriving DecidableEq, Repr

structure Dlc where
  state : DockState
  recov : Bool
  step : Option DockStep
  /-- the QUIESCE frame of the step in flight has been sent (04 R60) -/
  quiesceSent : Bool
  walk : Option Walk
  powerReq : Option PowerReq
  settle : Timer
  ready : Timer
  attempts : Nat
  outcomes : List Outcome
  missed : Nat
  overdraw : Nat
  cause : Option DockCause
  base : Option BaseRecord
  basePower : Bool
  slot : Option DockFrame
  slotTimer : Timer
  attemptTimer : Timer
  /-- ms since the last slot opened -/
  sinceOpen : Nat
  await : Option Await
  deriving DecidableEq, Repr

/-! ### IGT (05) -/

inductive GateAction where
  | pass | drop | hold | wake
  deriving DecidableEq, Repr

structure GateDir where
  present : Bool
  releaseOnEntry : Bool
  action : GateAction
  first : Nat
  count : Nat
  deriving DecidableEq, Repr

inductive GateClass where
  | key | point
  deriving DecidableEq, Repr

structure GateEntry where
  cls : GateClass
  low : Nat
  high : Nat
  action : GateAction
  note : Bool
  hits : Nat
  deriving DecidableEq, Repr

inductive PendOrigin where
  | base | synth
  deriving DecidableEq, Repr

/-- A release-pending mark: the key code it stands on and its origin (05 5.3). -/
structure Pending where
  code : Nat
  origin : PendOrigin
  deriving DecidableEq, Repr

inductive HeadState where
  | idle | rescanPaused | drainPaused
  deriving DecidableEq, Repr

/-- A head procedure that is running (05 R103). -/
inductive HeadProc where
  | rescan | drain
  deriving DecidableEq, Repr

structure Igt where
  dir : List GateDir
  entries : List GateEntry
  /-- the keys-down set, in set order -/
  keys : List Nat
  /-- the release-pending marks, in pending order -/
  pend : List Pending
  head : HeadState
  /-- the head procedure running inside a command; none between commands (the model's own, log 4) -/
  proc : Option HeadProc
  missing : Bool
  displaced : Bool
  expired : Bool
  idle : Nat
  /-- ms left of the idle timer's one-second interval -/
  idleLeft : Nat
  deriving DecidableEq, Repr

/-! ### FBF (06) -/

inductive AreaName where
  | input | hold | report | passdown | mirror
  deriving DecidableEq, Repr

structure Area where
  start : Nat
  len : Nat
  deriving DecidableEq, Repr

structure AreaMap where
  input : Area
  hold : Area
  report : Area
  passdown : Area
  mirror : Area
  deriving DecidableEq, Repr

/-- The kind of a stored frame (06 R113). -/
inductive StoredKind where
  | key | point | report | passdown | sample
  deriving DecidableEq, Repr

structure Stored where
  kind : StoredKind
  payload : List Byte
  deriving DecidableEq, Repr

/-- What a frame of the Hold area is (05 5.4): `paired` says that a release follows an open press of its code there. -/
inductive HoldBody where
  | press (code : Nat)
  | release (code : Nat) (paired : Bool)
  | point (bytes : List Byte)
  deriving DecidableEq, Repr

structure HoldFrame where
  body : HoldBody
  decided : Bool
  stamp : Stamp
  deriving DecidableEq, Repr

structure Fbf where
  map : AreaMap
  input : List Stored
  hold : List HoldFrame
  report : List Stored
  passdown : List Stored
  mirror : List Stored
  deriving DecidableEq, Repr

/-! ### SBU (07 7.1) -/

inductive RailState where
  | normal | warn | shed
  deriving DecidableEq, Repr

structure Sbu where
  requested : Nat
  grant : Nat
  pending : Bool
  capped : Bool
  iPhase : Nat
  penSet : Nat
  pause : Bool
  rail : Nat
  temp : Int
  railState : RailState
  shed : Timer
  railTimer : Timer
  tempTimer : Timer
  deriving DecidableEq, Repr

/-! ### PCC (08 8.1, 8.6) -/

inductive Phase where
  | none | idleDocked | probe | precharge | bulk | topup | done | resting | fault
  deriving DecidableEq, Repr

inductive ChargeCause where
  | prechargeTimeout | bulkTimeout | topupTimeout | cell
  deriving DecidableEq, Repr

structure Profile where
  vPreExit : Nat
  vFull : Nat
  vReg : Nat
  vRecharge : Nat
  iPre : Nat
  iBulk : Nat
  iTerm : Nat
  preLimit : Nat
  bulkLimit : Nat
  topLimit : Nat
  deriving DecidableEq, Repr

structure Pcc where
  phase : Phase
  prev : Phase
  paused : Bool
  penSet : Nat
  /-- elapsed ms in the phase, running while charging with a setpoint above 0 -/
  timer : Nat
  vCell : Option Nat
  iMeas : Option Nat
  /-- termination dwell: stopped, or running with its elapsed ms -/
  term : Option Nat
  cause : Option ChargeCause
  cycles : Nat
  measTimer : Timer
  profile : Profile
  deriving DecidableEq, Repr

/-! ### SPU (09) -/

inductive HostState where
  | running | advised | entering | sleeping | waking | off
  deriving DecidableEq, Repr

inductive WakeSource where
  | rule (i : Nat)
  | key
  deriving DecidableEq, Repr

inductive CutStage where
  | none | wait | pulse
  deriving DecidableEq, Repr

inductive ForceMode where
  | notifyThenCut | notifyOnly
  deriving DecidableEq, Repr

inductive LidCond where
  | any | closed | opened
  deriving DecidableEq, Repr

inductive PenCond where
  | any | inGarage | out
  deriving DecidableEq, Repr

inductive SleepAction where
  | adviseSleep | adviseWake | keepAwake
  deriving DecidableEq, Repr

structure SleepRule where
  enabled : Bool
  postures : BitVec 16
  bases : BitVec 3
  lid : LidCond
  pen : PenCond
  minIdle : Nat
  temp : Option Int
  dwell : Nat
  action : SleepAction
  deriving DecidableEq, Repr

/-- An open unlock window: the number and the reception time of its POLICY_UNLOCK frame (09 R171). -/
structure Unlock where
  seq : Nat
  time : Stamp
  deriving DecidableEq, Repr

structure Spu where
  host : HostState
  before : Option HostState
  governing : Option Nat
  dwell : Timer
  fired : Bool
  advising : Option Nat
  compliance : Timer
  stage : Nat
  cutStage : CutStage
  cutTimer : Timer
  pendingWake : Option WakeSource
  /-- in ms; the record shows whole seconds (log 43) -/
  wakeTimer : Timer
  wakeSrc : Option WakeSource
  forceMode : ForceMode
  unlock : Option Unlock
  rules : List SleepRule
  wakeReq : Bool
  pwrCut : Bool
  /-- command frames received since the reset (09 R171) -/
  rxSeq : Nat
  /-- reception time of the last of them -/
  lastRx : Stamp
  deriving DecidableEq, Repr

/-! ### PSC (10 10.1) -/

inductive PowerState where
  | run | doze | standby | settle
  deriving DecidableEq, Repr

inductive PowerSource where
  | lid | fold | garage | presence | dockAttention | uplink | host
  deriving DecidableEq, Repr

structure Psc where
  power : PowerState
  doze : Timer
  standby : Timer
  deferred : Bool
  settle : Timer
  wakeCause : Option PowerSource
  latched : List PowerSource
  /-- the first falling edge of this STANDBY has been handed over (10 R184) -/
  uplinkSeen : Bool
  deriving DecidableEq, Repr

/-! ### ULP (11) -/

inductive ResetCause where
  | powerOn | brownout | pin | fullCommand | softCommand
  deriving DecidableEq, Repr

inductive ResetKind where
  | soft | full
  deriving DecidableEq, Repr

inductive Access where
  | none | read | write
  deriving DecidableEq, Repr

/-- A received command frame (11 R188), with its number and reception time for the unlock window (09 R171). -/
structure RxFrame where
  ct : Byte
  payload : List Byte
  seq : Nat
  time : Stamp
  deriving DecidableEq, Repr

/-- A reply in the reply slot; `reset` is the reset that begins when it has gone (11 R197). -/
structure Reply where
  ct : Byte
  payload : List Byte
  reset : Option ResetKind
  deriving DecidableEq, Repr

inductive UpKind where
  | reply | report | input | sample
  deriving DecidableEq, Repr

/-- A frame taken for transmission, with the reset that its end begins (11 R197, R201). -/
structure UpFrame where
  kind : UpKind
  ct : Byte
  payload : List Byte
  reset : Option ResetKind
  deriving DecidableEq, Repr

/-- What the alternation mark names (11 R201). -/
inductive AltMark where
  | report | input
  deriving DecidableEq, Repr

structure Ulp where
  /-- bytes held from the SYNC of the frame in progress -/
  rx : List Byte
  queue : List RxFrame
  /-- the overrun replies that wait, in order of reception -/
  overruns : List Reply
  slot : Option Reply
  /-- the line: IDLE, or SENDING this copy -/
  line : Option UpFrame
  /-- a frame begun before the last reset and still being completed -/
  preReset : Option UpFrame
  alt : AltMark
  mask : BitVec 21
  lost : Nat
  platform : List Access
  driver : List Access
  freeze : Bool
  cause : ResetCause
  retained : Bool
  /-- a reset ordered by PART_RESET whose reply has gone -/
  resetDue : Option ResetKind
  /-- a command is being executed; no between commands (the model's own, log 4) -/
  executing : Bool
  deriving DecidableEq, Repr

/-! ### Configuration parameters 1 to 46 -/

structure Params where
  lidDebounce : Nat
  foldDebounce : Nat
  garageDebounce : Nat
  presenceDebounce : Nat
  lidPolarity : Nat
  foldPolarity : Nat
  garagePolarity : Nat
  presencePolarity : Nat
  lidMode : Nat
  foldMode : Nat
  garageMode : Nat
  presenceMode : Nat
  lidRate : Nat
  shift : Nat
  staleLimit : Nat
  mMin : Nat
  hingeOffset : Nat
  holdLimit : Nat
  angleStep : Nat
  mirrorN : Nat
  flatThreshold : Nat
  margin : Nat
  orientDwell : Nat
  hysteresis : Nat
  postureDwell : Nat
  restartHold : Nat
  settleTime : Nat
  pollPeriod : Nat
  quiescedPeriod : Nat
  attachPolicy : Nat
  gateHold : Nat
  bTotal : Nat
  tKnee : Nat
  tCut : Nat
  iMin : Nat
  warnLevel : Nat
  shedLevel : Nat
  autoCharge : Nat
  compliance : Nat
  cutPulse : Nat
  wakeTime : Nat
  dozeDelay : Nat
  wakeSettle : Nat
  dockFollows : Nat
  dockLines : Nat
  wakeMask : Nat
  deriving DecidableEq, Repr

end Sys2Proof.Machine
end

