-- ==== Sys2Proof/Machine/Signal.lean ====
section
/-! DEFINITION. What one block hands to another, or to itself, inside a command: the handovers that the cascade of a command runs. -/

namespace Sys2Proof.Machine

/-- The 21 kinds of report, in the order of their codes (11 R198). -/
inductive ReportKind where
  | start | posture | orient | angle | switch | dock | base | gateNote | gateMissing | holdSpill | rollover | charge
  | budget | sleepAdvice | adviceWithdrawn | sleepOverdue | forceCut | wakeAdvice | wakeFailed | power | overflow
  deriving DecidableEq, Repr

/-- What triggers an evaluation of the SPU, as far as 09 R162 asks. -/
inductive SpuTrigger where
  | host
  | ruleWrite (i : Nat)
  | other
  deriving DecidableEq, Repr

inductive Signal where
  /-- a block raises a report with these fields (11 R198, R199) -/
  | report (k : ReportKind) (fields : List Byte)
  /-- a frame has left the Report area (06 R114) -/
  | reportRemoved
  /-- space has appeared in the Input area (06 R114) -/
  | spaceEvent
  /-- the transmit arbiter may choose (11 R201) -/
  | arbiter
  /-- a command frame has been received whole with a valid CHECK (11 R188) -/
  | received (ct : Byte) (payload : List Byte)
  /-- the reply slot or the queue may be served (11 R189, R190) -/
  | serve
  /-- the reply of the command being executed (11 R190) -/
  | reply (r : Reply)
  /-- the upstream hold begins, ends (09 R172) -/
  | holdBegin
  | holdEnd
  /-- a debounced change of LID or FOLD reaches the HAU (01 R16) -/
  | hauHall
  /-- the ORU receives the smoothed lid vector (02 R24) -/
  | oruEval
  /-- the ORU commits its candidate (02 R30, R32); true for UNLOCK -/
  | oruCommit (unlock : Bool)
  /-- the hinge computation of a lid sample (01 R14) -/
  | hinge
  /-- the sample mirror of a lid sample (01 R21) -/
  | mirror
  /-- a trigger of the PCL (03 R41) -/
  | pclEval
  /-- the PCL commits its candidate (03 R46) -/
  | pclCommit
  /-- a commit signal to the IGT: the new code (03 R48) -/
  | igtCommit (code : Nat)
  /-- a trigger of the SPU (09 R161) -/
  | spuEval (t : SpuTrigger)
  /-- a wake request to the SPU (09 R165) -/
  | wakeRequest (src : WakeSource)
  /-- the governing rule's action is due (09 R162) -/
  | spuAction
  /-- the FORCE_CUT report has gone, or was refused (09 R169) -/
  | cutAssert
  /-- the dock state has changed: to the SBU the level asked for, to HAU, PCL, IGT and PSC (04 R77) -/
  | dockLevel (level : Nat)
  | hauDock (newBase : Bool)
  | pclDock
  | igtDeparture
  | pscRecheck
  /-- the SBU tells the DLC that the grant is applied; true when it changed (07 R129) -/
  | grantApplied (changed : Bool)
  /-- a debounced change of PRESENCE reaches the DLC (04 R62, R74) -/
  | dlcPresence (asserted : Bool)
  /-- the SBU revokes the grant (04 R76) -/
  | dlcRevoked
  /-- a RELEASE step, with the origin that its reports carry (04 R73) -/
  | dlcRelease (o : Option Origin)
  /-- a power request of the PSC (04 R80) -/
  | dlcPowerReq (q : PowerReq)
  /-- the DLC begins a step (04 R63, R66, R70, R72) -/
  | dlcBegin (st : DockStep)
  /-- a walk may take its next step (04 R79, R83) -/
  | walkNext
  /-- a stored power request may be served (04 R80) -/
  | servePower
  /-- a slot has closed: the next opens at once if its time has passed (04 R60) -/
  | openDue
  /-- the DLC starts a recovery (04 R67) -/
  | dlcRecover
  /-- a debounced change of GARAGE reaches the PCC (08 R140, R142) -/
  | pccGarage (asserted : Bool)
  /-- the phase timer stands at its limit after a profile write (08 R153) -/
  | pccLimit
  /-- one step of head processing (05 R103) -/
  | headStep
  /-- a frame judged WAKE is routed at its arrival, or admitted from the head, after its wake request (05 R93) -/
  | gateRoute (b : HoldBody)
  | headAdmit
  /-- what follows a change of the Hold area (05 R98, R101, R105); true when its head has changed -/
  | holdCheck (headChanged : Bool)
  /-- the host state has changed (09 R158, 10 R176, R177, R179, R182) -/
  | pscHost (old new : HostState)
  /-- the charge phase has changed, or a step has ended (10 R179) -/
  | pscDeferred
  /-- a wake event or wake condition reaches the PSC (10 R182, R183) -/
  | pscWake (src : PowerSource)
  /-- the wake conditions present at STANDBY entry are tested (10 R181) -/
  | pscLevels
  /-- RUN has been entered: the doze timer starts for a host that is SLEEPING or OFF (10 R177, R183) -/
  | pscDozeCheck
  deriving DecidableEq, Repr

end Sys2Proof.Machine
end

