-- ==== Sys2Proof/Config.lean ====
section
/-! DEFINITION. The values that the manual leaves to the part: free values, without a body. -/

namespace Sys2Proof.Config

/-- The silicon revision that ECHO and the START report carry (11 R192, R202): the manual gives no value. Log 11. -/
opaque siliconRevision : Byte

/-- The CHANNEL/TAG byte of REPORT, INPUT and SAMPLE frames: 11.8 gives the byte a meaning for commands and replies only. Log 12. -/
opaque unsolicitedChannelTag : Byte

/-- The code of the wake source KEY where a report or STATUS_READ carries a wake source, which is "a rule index or KEY" (09 9.1, R173): the manual gives no code. Log 13. -/
opaque wakeSourceKeyCode : Byte

end Sys2Proof.Config
end

