-- ==== Sys2Proof/Machine/Defaults.lean ====
section
/-! DEFINITION. Default tables, default parameters, and the value that each block's record takes at a reset. -/

namespace Sys2Proof.Machine

/-- The defaults of tables 1.9, 2.7, 3.10, 4.9, 5.7, 7.9, 8.9, 9.9 and 10.7. -/
def Params.default : Params where
  lidDebounce := 20
  foldDebounce := 20
  garageDebounce := 50
  presenceDebounce := 10
  lidPolarity := 0
  foldPolarity := 0
  garagePolarity := 0
  presencePolarity := 1
  lidMode := 1
  foldMode := 1
  garageMode := 1
  presenceMode := 1
  lidRate := 2
  shift := 2
  staleLimit := 100
  mMin := 512
  hingeOffset := 2880
  holdLimit := 50
  angleStep := 0
  mirrorN := 0
  flatThreshold := 300
  margin := 240
  orientDwell := 300
  hysteresis := 80
  postureDwell := 120
  restartHold := 1000
  settleTime := 50
  pollPeriod := 8
  quiescedPeriod := 100
  attachPolicy := 1
  gateHold := 500
  bTotal := 1500
  tKnee := 45
  tCut := 60
  iMin := 20
  warnLevel := 4600
  shedLevel := 4400
  autoCharge := 1
  compliance := 20
  cutPulse := 4000
  wakeTime := 10
  dozeDelay := 5
  wakeSettle := 4
  dockFollows := 1
  dockLines := 0
  wakeMask := 63

/-- A row of the default posture table; the sets are DETACHED 1, KEYBOARD 2, COVER 4. -/
def defaultRow (low high : Nat) (orients : BitVec 6) (bases : BitVec 3) (code : Nat) : PostureRow :=
  ⟨true, low, high, orients, bases, code⟩

/-- The default posture table (03 3.9). -/
def defaultPostures : List PostureRow :=
  [ defaultRow 0 160 63 6 1, defaultRow 0 5760 63 5 7, defaultRow 160 2640 63 2 2, defaultRow 2641 3120 63 2 3,
    defaultRow 3121 5200 4 2 5, defaultRow 3121 5200 63 2 4, defaultRow 5201 5760 63 2 6 ]
  ++ List.replicate 9 ⟨false, 0, 5760, 63, 7, 0⟩

/-- The default gate directory entry and gate entry (05 5.7). -/
def defaultDir : GateDir := ⟨true, false, .pass, 0, 0⟩

def defaultEntry : GateEntry := ⟨.key, 1, 1, .drop, false, 0⟩

/-- The default sleep rule: not enabled, every other field 0, ANY or absent (09 R175). -/
def defaultRule : SleepRule := ⟨false, 0, 0, .any, .any, 0, none, 0, .adviseSleep⟩

/-- The default charge profile (08 8.6). -/
def Profile.default : Profile := ⟨3000, 4100, 4200, 4000, 20, 150, 15, 30, 120, 60⟩

/-- The default area map (06 6.3). -/
def AreaMap.default : AreaMap := ⟨⟨0, 1024⟩, ⟨1024, 512⟩, ⟨1536, 1536⟩, ⟨3072, 512⟩, ⟨3584, 512⟩⟩

/-- The default access words in the group order of 11 R194: PLATFORM holds WRITE for all; DRIVER holds WRITE for GATE and USER, NONE for SYSTEM, READ for the others (11 R192). -/
def defaultPlatform : List Access := List.replicate 10 .write

def defaultDriver : List Access :=
  [.read, .write, .read, .read, .read, .read, .read, .read, .write, .none]

/-! ### Records after any reset -/

/-- 01 R22, with no hall asserted and the dock ABSENT; the hall case and the base vector are judged when the reset ends. The sample period in progress and the age are the model's choice (logs 27, 36). -/
def Hau.atReset : Hau where
  lid := none
  cond := .absent
  base := none
  age := 0
  hinge := ⟨none, .unknown, 0⟩
  lastReported := none
  mirrorCount := 0
  sampleTimer := some 10

/-- 02 R35, with the lock flag as given. -/
def Oru.atReset (lock : Bool) : Oru := ⟨.unknown, none, none, lock, false, none⟩

/-- 03 R55, before the first evaluation. -/
def Pcl.atReset (table : List PostureRow) : Pcl :=
  ⟨0, none, 0, none, none, none, none, .detached, table⟩

/-- 04 R85. -/
def Dlc.atReset : Dlc where
  state := .absent
  recov := false
  step := none
  quiesceSent := false
  walk := none
  powerReq := none
  settle := none
  ready := none
  attempts := 0
  outcomes := []
  missed := 0
  overdraw := 0
  cause := none
  base := none
  basePower := false
  slot := none
  slotTimer := none
  attemptTimer := none
  sinceOpen := 0
  await := none

/-- 05 R111. -/
def Igt.atReset (dir : List GateDir) (entries : List GateEntry) : Igt :=
  ⟨dir, entries, [], [], .idle, none, false, false, false, 0, 1000⟩

/-- 06 R124: a map, the reports that are kept, and every other area empty. -/
def Fbf.atReset (map : AreaMap) (report : List Stored) : Fbf := ⟨map, [], [], report, [], []⟩

/-- 07 R138, before the first readings (R126, R127). -/
def Sbu.atReset : Sbu where
  requested := 0
  grant := 0
  pending := false
  capped := false
  iPhase := 0
  penSet := 0
  pause := false
  rail := 0
  temp := 0
  railState := .normal
  shed := none
  railTimer := some 1
  tempTimer := some 100

/-- 08 R156 for a pen out of the garage. -/
def Pcc.atReset (profile : Profile) : Pcc :=
  ⟨.none, .none, false, 0, 0, none, none, none, none, 0, none, profile⟩

/-- 09 R175. The frame number and the time of the last frame are the model's choice (log 36). -/
def Spu.atReset (mode : ForceMode) (rules : List SleepRule) : Spu where
  host := .running
  before := none
  governing := none
  dwell := none
  fired := false
  advising := none
  compliance := none
  stage := 1
  cutStage := .none
  cutTimer := none
  pendingWake := none
  wakeTimer := none
  wakeSrc := none
  forceMode := mode
  unlock := none
  rules := rules
  wakeReq := false
  pwrCut := false
  rxSeq := 0
  lastRx := 0

/-- 10 R187. -/
def Psc.atReset : Psc := ⟨.run, none, none, false, none, none, [], false⟩

/-- 11 R202: the record of a reset of the given cause, before the START report; the fields after the mark are those that a soft reset keeps. -/
def Ulp.atReset (cause : ResetCause) (retained : Bool) (pre : Option UpFrame) (mask : BitVec 21) (lost : Nat)
    (platform driver : List Access) (freeze : Bool) : Ulp where
  rx := []
  queue := []
  overruns := []
  slot := none
  line := none
  preReset := pre
  alt := .report
  mask := mask
  lost := lost
  platform := platform
  driver := driver
  freeze := freeze
  cause := cause
  retained := retained
  resetDue := none
  executing := false

end Sys2Proof.Machine
end

