-- ==== Sys2Proof/Machine/State.lean ====
section
/-! DEFINITION. The state of the part, as plain data; the outcomes of a step other than the next state; the state after a power-on reset. -/

namespace Sys2Proof.Machine

/-- No command of the block stops it: every rule gives an effect or an answer. So there is no fault. -/
inductive Fault where
  deriving DecidableEq, Repr

/-- Why a command is turned away. -/
inductive Refusal where
  /-- raised by an arm of `exec` whose meaning is not written; no arm raises it. Safe: the model stops. -/
  | notModelled (mnemonic : String)
  deriving DecidableEq, Repr

/-- Everything the manual gives the part: the twelve blocks' records, the parameters, the running millisecond count (03 R37), and the queue of commands that wait. -/
structure State where
  sib : Sib
  hau : Hau
  oru : Oru
  pcl : Pcl
  dlc : Dlc
  igt : Igt
  fbf : Fbf
  sbu : Sbu
  pcc : Pcc
  spu : Spu
  psc : Psc
  ulp : Ulp
  par : Params
  ms : Stamp
  /-- the commands that wait, first in, first out -/
  pending : List Instr
  deriving DecidableEq, Repr

/-- The state right after a power-on reset, with every switch deasserted at its pin, a rail reading of 5000 mV and a die temperature of 25 °C (log 8), taken after the blocks' first acts:
the START report is on the line (11 R202, R201; log 9) and the PCL has made its first evaluation (03 R55), which chose row 1 of the default table. -/
def State.reset : State where
  sib := ⟨⟨true, false, none⟩, ⟨true, false, none⟩, ⟨true, false, none⟩, ⟨false, false, none⟩⟩
  hau := Hau.atReset
  oru := Oru.atReset false
  pcl := { Pcl.atReset defaultPostures with cand := some 7, candRow := some 1, dwell := some 120 }
  dlc := Dlc.atReset
  igt := Igt.atReset (List.replicate 16 defaultDir) (List.replicate 128 defaultEntry)
  fbf := Fbf.atReset AreaMap.default []
  sbu := { Sbu.atReset with rail := 5000, temp := 25 }
  pcc := Pcc.atReset Profile.default
  spu := Spu.atReset .notifyThenCut (List.replicate 16 defaultRule)
  psc := Psc.atReset
  ulp :=
    { Ulp.atReset .powerOn false none (BitVec.allOnes 21) 0 defaultPlatform defaultDriver false with
      line := some ⟨.report, Config.unsolicitedChannelTag, [1, 0, 0, 0, 0, 0, 0, Config.siliconRevision], none⟩
      alt := .input }
  par := Params.default
  ms := 0
  pending := []

end Sys2Proof.Machine
end

