-- ==== Sys2Proof/Machine/Ops.lean ====
section
/-! DEFINITION. The named operations that several blocks share: timers and the passing of time, the switch inputs' configuration, the queue areas, the upstream hold, the CRC of both links. -/

namespace Sys2Proof.Machine

/-- What a block answers to an event: its new state and what it hands on, in order. -/
abbrev Act := State × List Signal

/-- Do one thing, then another on the state it left. -/
def Act.andThen (a : Act) (f : State → Act) : Act :=
  ((f a.1).1, a.2 ++ (f a.1).2)

/-- Hand nothing on. -/
def quiet (s : State) : Act := (s, [])

/-! ### Time -/

/-- `d` ms pass for a timer; its expiry is a command of its own (00, Events and timers; log 1). -/
def Timer.pass (d : Nat) (t : Timer) : Timer := t.map (· - d)

/-- Restart a running or stopped timer with a period. -/
def Timer.start (period : Nat) : Timer := some period

def Sib.pass (d : Nat) (b : Sib) : Sib :=
  { lid := { b.lid with run := b.lid.run.pass d }
    fold := { b.fold with run := b.fold.run.pass d }
    garage := { b.garage with run := b.garage.run.pass d }
    presence := { b.presence with run := b.presence.run.pass d } }

/-- The base vector's age counts while a sample is held (01 R11); it is held to 32 bits. -/
def Hau.pass (d : Nat) (b : Hau) : Hau :=
  { b with
    age := if b.cond = .fresh ∨ b.cond = .stale then min (b.age + d) 4294967295 else b.age
    sampleTimer := b.sampleTimer.pass d }

def Oru.pass (d : Nat) (b : Oru) : Oru := { b with dwell := b.dwell.pass d }

def Pcl.pass (d : Nat) (b : Pcl) : Pcl := { b with dwell := b.dwell.pass d, restart := b.restart.pass d }

/-- The time since the last slot opened is compared with periods of at most 500 ms (04 R60), so it is held to 1000. -/
def Dlc.pass (d : Nat) (b : Dlc) : Dlc :=
  { b with
    settle := b.settle.pass d
    ready := b.ready.pass d
    slotTimer := b.slotTimer.pass d
    attemptTimer := b.attemptTimer.pass d
    sinceOpen := min (b.sinceOpen + d) 1000 }

def Igt.pass (d : Nat) (b : Igt) : Igt := { b with idleLeft := b.idleLeft - d }

def Sbu.pass (d : Nat) (b : Sbu) : Sbu :=
  { b with shed := b.shed.pass d, railTimer := b.railTimer.pass d, tempTimer := b.tempTimer.pass d }

/-- The charging phases (07 7.4, 08 8.1). -/
def Phase.charging : Phase → Bool
  | .precharge | .bulk | .topup => true
  | .none | .idleDocked | .probe | .done | .resting | .fault => false

/-- A session exists (08 8.1). -/
def Phase.session : Phase → Bool
  | .none | .idleDocked => false
  | .probe | .precharge | .bulk | .topup | .done | .resting | .fault => true

/-- The phase timer advances in a charging phase with a setpoint above 0 (08 R149). -/
def Pcc.pass (d : Nat) (b : Pcc) : Pcc :=
  { b with
    timer := if b.phase.charging ∧ 0 < b.penSet then min (b.timer + d) 65535000 else b.timer
    measTimer := b.measTimer.pass d }

def Spu.pass (d : Nat) (b : Spu) : Spu :=
  { b with
    dwell := b.dwell.pass d
    compliance := b.compliance.pass d
    cutTimer := b.cutTimer.pass d
    wakeTimer := b.wakeTimer.pass d }

def Psc.pass (d : Nat) (b : Psc) : Psc :=
  { b with doze := b.doze.pass d, standby := b.standby.pass d, settle := b.settle.pass d }

/-- `d` ms pass: the running count (03 R37), every running timer, every elapsed time. -/
def elapse (d : Nat) (s : State) : State :=
  { s with
    ms := s.ms + BitVec.ofNat 32 d
    sib := s.sib.pass d
    hau := s.hau.pass d
    oru := s.oru.pass d
    pcl := s.pcl.pass d
    dlc := s.dlc.pass d
    igt := s.igt.pass d
    sbu := s.sbu.pass d
    pcc := s.pcc.pass d
    spu := s.spu.pass d
    psc := s.psc.pass d }

/-- The expiry of a timer: the remaining time passes, then the event acts. A stopped timer does not expire (00, Events and timers), and nothing happens (log 2). -/
def onExpiry (t : Timer) (f : State → Act) (s : State) : Act :=
  match t with
  | none => quiet s
  | some r => f (elapse r s)

/-! ### Power and host state -/

/-- The part is in RUN or DOZE. -/
def State.awake (s : State) : Bool :=
  match s.psc.power with
  | .run | .doze => true
  | .standby | .settle => false

/-- The host states of the upstream hold (09 R172). -/
def HostState.held : HostState → Bool
  | .sleeping | .waking | .off => true
  | .running | .advised | .entering => false

/-- The upstream hold applies. -/
def State.held (s : State) : Bool := s.spu.host.held

/-! ### Switch inputs -/

def Sib.input (b : Sib) : Input → SwitchInput
  | .lid => b.lid
  | .fold => b.fold
  | .garage => b.garage
  | .presence => b.presence

def Sib.setInput (b : Sib) (i : Input) (v : SwitchInput) : Sib :=
  match i with
  | .lid => { b with lid := v }
  | .fold => { b with fold := v }
  | .garage => { b with garage := v }
  | .presence => { b with presence := v }

def Params.debounce (p : Params) : Input → Nat
  | .lid => p.lidDebounce
  | .fold => p.foldDebounce
  | .garage => p.garageDebounce
  | .presence => p.presenceDebounce

def Params.polarity (p : Params) : Input → Nat
  | .lid => p.lidPolarity
  | .fold => p.foldPolarity
  | .garage => p.garagePolarity
  | .presence => p.presencePolarity

/-- The event mode: 0 LEVEL, 1 EITHER_EDGE, 2 ASSERT_EDGE, 3 DEASSERT_EDGE (01 1.9). -/
def Params.mode (p : Params) : Input → Nat
  | .lid => p.lidMode
  | .fold => p.foldMode
  | .garage => p.garageMode
  | .presence => p.presenceMode

/-- The raw state of a pin level through a polarity: 0 ASSERTED_LOW, 1 ASSERTED_HIGH (01 R1). -/
def rawState (polarity : Nat) (level : Bool) : Bool := if polarity = 0 then !level else level

def inputSource : Input → PowerSource
  | .lid => .lid
  | .fold => .fold
  | .garage => .garage
  | .presence => .presence

/-! ### Dock -/

/-- The dock states that deliver base frames to the Input Gate (04 R59, 05 R97). -/
def DockState.delivers : DockState → Bool
  | .active | .quiesced | .waking => true
  | _ => false

/-- The level that the DLC asks for in its present state (04 R77). -/
def Dlc.level (d : Dlc) : Nat :=
  let demand (f : Ident → Nat) : Nat :=
    match d.base with
    | some (.keyboard i) => f i
    | _ => 0
  match d.state with
  | .identifying => if d.recov then demand Ident.active else 50
  | .identified => 50
  | .powering | .active | .waking => demand Ident.active
  | .quiesced => demand Ident.quiesced
  | .absent | .settling | .present | .covered | .faulted => 0

/-- The DLC is busy (04 R78). -/
def Dlc.busy (d : Dlc) : Bool := d.step.isSome || d.walk.isSome

/-! ### Queue areas (06) -/

/-- The size of a stored frame (06 R113). -/
def Stored.size (f : Stored) : Nat := f.payload.length + 4

/-- The payload of a frame of the Hold area: key code and 0 for a press, 1 for a release (11.8), or the touchpad report. -/
def HoldBody.payload : HoldBody → List Byte
  | .press c => [byte c, 0]
  | .release c _ => [byte c, 1]
  | .point bs => bs

def HoldFrame.size (f : HoldFrame) : Nat := f.body.payload.length + 4

def HoldBody.kind : HoldBody → StoredKind
  | .press _ | .release _ _ => .key
  | .point _ => .point

/-- The frame that a held frame becomes in the Input area. -/
def HoldBody.stored (b : HoldBody) : Stored := ⟨b.kind, b.payload⟩

/-- A KEY release as the Input area stores it. -/
def releaseFrame (code : Nat) : Stored := ⟨.key, [byte code, 1]⟩

/-- Occupancy: the sum of the sizes (06 R112). -/
def occupancy (l : List Stored) : Nat := (l.map Stored.size).sum

def holdOccupancy (l : List HoldFrame) : Nat := (l.map HoldFrame.size).sum

/-- Free space: the length minus the occupancy (06 R112). -/
def Fbf.inputFree (f : Fbf) : Nat := f.map.input.len - occupancy f.input

def Fbf.holdFree (f : Fbf) : Nat := f.map.hold.len - holdOccupancy f.hold

def Fbf.reportFree (f : Fbf) : Nat := f.map.report.len - occupancy f.report

def Fbf.passdownFree (f : Fbf) : Nat := f.map.passdown.len - occupancy f.passdown

def Fbf.mirrorFree (f : Fbf) : Nat := f.map.mirror.len - occupancy f.mirror

/-- Remove head frames until a size fits or the list is empty (06 R118). -/
def displace (len size : Nat) : List Stored → List Stored
  | [] => []
  | f :: rest => if size ≤ len - occupancy (f :: rest) then f :: rest else displace len size rest

/-- A SAMPLE frame put into the Mirror area by its displace-oldest policy (06 R118). -/
def Fbf.putMirror (b : Fbf) (payload : List Byte) : Fbf :=
  let f : Stored := ⟨.sample, payload⟩
  let kept := displace b.map.mirror.len f.size b.mirror
  if f.size ≤ b.map.mirror.len - occupancy kept then { b with mirror := kept ++ [f] } else { b with mirror := kept }

/-- A frame stored at the tail of the Input area. -/
def State.putInput (s : State) (f : Stored) : State :=
  { s with fbf := { s.fbf with input := s.fbf.input ++ [f] } }

/-- The input idle timer is set to 0 and its interval restarts (05 R108). -/
def State.clearIdle (s : State) : State :=
  { s with igt := { s.igt with idle := 0, idleLeft := 1000 } }

/-! ### CRC-8 (04 R58) -/

/-- One bit of the division by x^8 + x^2 + x + 1. -/
def crcBit (c : Byte) : Byte := if c.msb then (c <<< 1) ^^^ 7 else c <<< 1

/-- One byte, most significant bit first. -/
def crcByte (c b : Byte) : Byte :=
  crcBit (crcBit (crcBit (crcBit (crcBit (crcBit (crcBit (crcBit (c ^^^ b))))))))

/-- The CRC-8 of both links: initial value 0, no reflection, no final inversion. -/
def crc8 (bs : List Byte) : Byte := bs.foldl crcByte 0

end Sys2Proof.Machine
end

