-- ==== Sys2Proof/Machine/Coding.lean ====
section
/-! DEFINITION. The field coding that serves STATUS_READ and every report (11 R196), the codes of the enumerations (log 15), and the fields of each report. -/

namespace Sys2Proof.Machine

/-! ### Field kinds (11 R196) -/

def num1 (n : Nat) : List Byte := [byte n]

def num2 (n : Nat) : List Byte := [byte n, byte (n / 256)]

def num4 (n : Nat) : List Byte := [byte n, byte (n / 256), byte (n / 65536), byte (n / 16777216)]

/-- Signed numbers are two's complement. -/
def int1 (i : Int) : List Byte := num1 (BitVec.ofInt 8 i).toNat

def int2 (i : Int) : List Byte := num2 (BitVec.ofInt 16 i).toNat

def int4 (i : Int) : List Byte := num4 (BitVec.ofInt 32 i).toNat

def flagField (b : Bool) : List Byte := [if b then 1 else 0]

def optField {α : Type} (f : α → List Byte) : Option α → List Byte
  | none => [0]
  | some a => 1 :: f a

/-- A timer: 0 stopped or 1 running, then 4 bytes of remaining time, 0 when stopped. -/
def timerField : Timer → List Byte
  | none => 0 :: num4 0
  | some r => 1 :: num4 r

def listField {α : Type} (f : α → List Byte) (l : List α) : List Byte := byte l.length :: l.flatMap f

/-! ### Numbers read from bytes, least significant byte first -/

def le2 (a b : Byte) : Nat := a.toNat + 256 * b.toNat

def sle2 (a b : Byte) : Int := (BitVec.ofNat 16 (le2 a b)).toInt

def sle1 (a : Byte) : Int := a.toInt

/-! ### Codes of the enumerations -/

def inputCode : Input → Nat
  | .lid => 0
  | .fold => 1
  | .garage => 2
  | .presence => 3

def Quality.code : Quality → Nat
  | .good => 0
  | .held => 1
  | .hall => 2
  | .unknown => 3

def BaseVector.code : BaseVector → Nat
  | .absent => 0
  | .awaiting => 1
  | .fresh => 2
  | .stale => 3

def Orient.code : Orient → Nat
  | .landscape => 0
  | .portrait => 1
  | .landscapeInv => 2
  | .portraitInv => 3
  | .flatUp => 4
  | .flatDown => 5
  | .unknown => 6

def BaseCond.code : BaseCond → Nat
  | .detached => 0
  | .keyboard => 1
  | .cover => 2

def DockState.code : DockState → Nat
  | .absent => 0
  | .settling => 1
  | .present => 2
  | .identifying => 3
  | .identified => 4
  | .powering => 5
  | .active => 6
  | .quiesced => 7
  | .waking => 8
  | .covered => 9
  | .faulted => 10

/-- The step of a DOCK report, in the order of 04 R82. -/
def DockStep.code : DockStep → Nat
  | .identify => 0
  | .power => 1
  | .quiesce => 2
  | .wake => 3
  | .release => 4
  | .recover => 5

/-- The step in flight of STATUS_READ, in the order of 04 4.3, where none comes first. -/
def stepInFlightCode : Option DockStep → Nat
  | none => 0
  | some .identify => 1
  | some .power => 2
  | some .quiesce => 3
  | some .wake => 4
  | some .recover => 5
  | some .release => 0

def WalkTarget.code : WalkTarget → Nat
  | .attach => 1
  | .wake => 2
  | .quiesce => 3

def Origin.code : Origin → Nat
  | .host => 0
  | .psc => 1
  | .policy => 2

def PowerReq.code : PowerReq → Nat
  | .quiesce => 1
  | .wake => 2

def Outcome.code : Outcome → Nat
  | .valid => 0
  | .garbled => 1
  | .missing => 2

def DockEvent.code : DockEvent → Nat
  | .presence => 0
  | .settled => 1
  | .stepDone => 2
  | .stepFailed => 3
  | .recovery => 4
  | .recovered => 5
  | .newBase => 6
  | .fault => 7
  | .detached => 8

/-- The cause of a DOCK report, in the order of 04 R82. -/
def DockCause.code : DockCause → Nat
  | .detached => 0
  | .released => 1
  | .noAck => 2
  | .ident => 3
  | .budget => 4
  | .power => 5
  | .link => 6
  | .overdraw => 7
  | .supply => 8
  | .base => 9

/-- The fault cause of STATUS_READ, in the order of 04 4.3. -/
def DockCause.faultCode : DockCause → Nat
  | .budget => 1
  | .power => 2
  | .link => 3
  | .overdraw => 4
  | .supply => 5
  | .base => 6
  | .ident | .detached | .released | .noAck => 0

/-- The class as byte 0 of the IDENT payload, COVER 3 (11.8). -/
def BaseRecord.classCode : BaseRecord → Nat
  | .cover => 3
  | .keyboard i =>
    match i.cls with
    | .keyboard => 1
    | .keyboardTouchpad => 2

def Mount.code : Mount → Nat
  | .normal => 0
  | .rotated => 1

def GateAction.code : GateAction → Nat
  | .pass => 0
  | .drop => 1
  | .hold => 2
  | .wake => 3

def GateClass.code : GateClass → Nat
  | .key => 0
  | .point => 1

def PendOrigin.code : PendOrigin → Nat
  | .base => 0
  | .synth => 1

def HeadState.code : HeadState → Nat
  | .idle => 0
  | .rescanPaused => 1
  | .drainPaused => 2

/-- KEY press, KEY release, POINT (05 5.4). -/
def HoldBody.code : HoldBody → Nat
  | .press _ => 0
  | .release _ _ => 1
  | .point _ => 2

def StoredKind.code : StoredKind → Nat
  | .key => 0
  | .point => 1
  | .report => 2
  | .passdown => 3
  | .sample => 4

def AreaName.code : AreaName → Nat
  | .input => 0
  | .hold => 1
  | .report => 2
  | .passdown => 3
  | .mirror => 4

def RailState.code : RailState → Nat
  | .normal => 0
  | .warn => 1
  | .shed => 2

def Phase.code : Phase → Nat
  | .none => 0
  | .idleDocked => 1
  | .probe => 2
  | .precharge => 3
  | .bulk => 4
  | .topup => 5
  | .done => 6
  | .resting => 7
  | .fault => 8

def ChargeCause.code : ChargeCause → Nat
  | .prechargeTimeout => 0
  | .bulkTimeout => 1
  | .topupTimeout => 2
  | .cell => 3

def HostState.code : HostState → Nat
  | .running => 0
  | .advised => 1
  | .entering => 2
  | .sleeping => 3
  | .waking => 4
  | .off => 5

def CutStage.code : CutStage → Nat
  | .none => 0
  | .wait => 1
  | .pulse => 2

def ForceMode.code : ForceMode → Nat
  | .notifyThenCut => 0
  | .notifyOnly => 1

def LidCond.code : LidCond → Nat
  | .any => 0
  | .closed => 1
  | .opened => 2

def PenCond.code : PenCond → Nat
  | .any => 0
  | .inGarage => 1
  | .out => 2

def SleepAction.code : SleepAction → Nat
  | .adviseSleep => 0
  | .adviseWake => 1
  | .keepAwake => 2

def PowerState.code : PowerState → Nat
  | .run => 0
  | .doze => 1
  | .standby => 2
  | .settle => 3

def PowerSource.code : PowerSource → Nat
  | .lid => 0
  | .fold => 1
  | .garage => 2
  | .presence => 3
  | .dockAttention => 4
  | .uplink => 5
  | .host => 6

def ResetCause.code : ResetCause → Nat
  | .powerOn => 0
  | .brownout => 1
  | .pin => 2
  | .fullCommand => 3
  | .softCommand => 4

def Access.code : Access → Nat
  | .none => 0
  | .read => 1
  | .write => 2

def AltMark.code : AltMark → Nat
  | .report => 0
  | .input => 1

/-- A wake source: a rule index, or KEY, whose code the manual leaves open (log 13). -/
def wakeSourceField : WakeSource → List Byte
  | .rule i => num1 i
  | .key => [Config.wakeSourceKeyCode]

/-- ASSERTED 0, DEASSERTED 1 (log 15). -/
def switchStateField (asserted : Bool) : List Byte := [if asserted then 0 else 1]

/-- The codes of the report kinds (11 R198). -/
def ReportKind.code : ReportKind → Nat
  | .start => 1
  | .posture => 2
  | .orient => 3
  | .angle => 4
  | .switch => 5
  | .dock => 6
  | .base => 7
  | .gateNote => 8
  | .gateMissing => 9
  | .holdSpill => 10
  | .rollover => 11
  | .charge => 12
  | .budget => 13
  | .sleepAdvice => 14
  | .adviceWithdrawn => 15
  | .sleepOverdue => 16
  | .forceCut => 17
  | .wakeAdvice => 18
  | .wakeFailed => 19
  | .power => 20
  | .overflow => 21

/-! ### The fields of the reports, in the order of the table of the chapter that raises each -/

/-- SWITCH (01 R4). -/
def switchReport (i : Input) (asserted : Bool) : Signal :=
  .report .switch (num1 (inputCode i) ++ switchStateField asserted ++ switchStateField asserted)

/-- ANGLE (01 R20). -/
def angleReport (h : Hinge) (prev : Quality) : Signal :=
  .report .angle (optField num2 h.angle ++ num1 h.quality.code ++ num1 prev.code ++ num1 h.holds)

inductive OrientCause where
  | dwell | unlock | restart
  deriving DecidableEq, Repr

def OrientCause.code : OrientCause → Nat
  | .dwell => 0
  | .unlock => 1
  | .restart => 2

/-- ORIENT (02 R31), of the record after the change. -/
def orientReport (prev : Orient) (c : OrientCause) (o : Oru) : Signal :=
  .report .orient
    (num1 o.committed.code ++ num1 prev.code ++ num1 c.code ++ optField num2 o.angle ++ flagField o.flat)

/-- POSTURE (03 R47), of the record after the commit. -/
def postureReport (prev : Nat) (s : State) : Signal :=
  .report .posture
    (num1 s.pcl.code ++ num1 prev ++ optField num1 s.pcl.row ++ optField num2 s.hau.hinge.angle ++
      num1 s.hau.hinge.quality.code ++ num1 s.oru.committed.code ++ num1 s.pcl.cond.code)

/-- The optional fields of a base record, then the dock grant (04 R61). -/
def baseRecordFields (grant : Nat) : BaseRecord → List Byte
  | .cover => num1 3 ++ [0, 0, 0, 0, 0, 0, 0] ++ num2 grant
  | .keyboard i =>
    num1 (BaseRecord.keyboard i).classCode ++ (1 :: num1 i.rev) ++ (1 :: num2 i.active) ++ (1 :: num1 i.quiesced) ++
      (1 :: flagField i.tilt.isSome) ++ optField (fun m => num1 (Mount.code m)) i.tilt ++ (1 :: num1 i.layout) ++
      (1 :: flagField i.touchpad) ++ num2 grant

/-- BASE (04 R61). -/
def baseReport (grant : Nat) (b : BaseRecord) : Signal := .report .base (baseRecordFields grant b)

/-- DOCK (04 R82), of the DLC's record after the event. -/
def dockReport (d : Dlc) (e : DockEvent) (st : Option DockStep) (o : Option Origin) (c : Option DockCause) : Signal :=
  .report .dock
    (num1 e.code ++ optField (fun x => num1 (DockStep.code x)) st ++ optField (fun x => num1 (Origin.code x)) o ++
      num1 d.state.code ++ optField (fun x => num1 (DockCause.code x)) c ++
      optField (fun b => num1 (BaseRecord.classCode b)) d.base)

/-- GATE_NOTE (05 R91). -/
def gateNoteReport (posture index : Nat) (cls : GateClass) (key : Option Nat) : Signal :=
  .report .gateNote (num1 posture ++ num1 index ++ num1 cls.code ++ optField num1 key)

/-- GATE_MISSING (05 R90). -/
def gateMissingReport (posture : Nat) : Signal := .report .gateMissing (num1 posture)

/-- ROLLOVER (05 R89). -/
def rolloverReport (key posture : Nat) : Signal := .report .rollover (num1 key ++ num1 posture)

inductive SpillReason where
  | displaced | expired
  deriving DecidableEq, Repr

def SpillReason.code : SpillReason → Nat
  | .displaced => 0
  | .expired => 1

/-- HOLD_SPILL (05 R102). -/
def holdSpillReport (r : SpillReason) (posture : Nat) (b : HoldBody) (left : Nat) : Signal :=
  .report .holdSpill (num1 r.code ++ num1 posture ++ num1 b.code ++ num2 left)

inductive ChargeEvent where
  | sessionStart | inserted | phase | paused | resumed | done | fault | stopped | removed
  deriving DecidableEq, Repr

def ChargeEvent.code : ChargeEvent → Nat
  | .sessionStart => 0
  | .inserted => 1
  | .phase => 2
  | .paused => 3
  | .resumed => 4
  | .done => 5
  | .fault => 6
  | .stopped => 7
  | .removed => 8

/-- CHARGE (08 R154), of the record after the event; `seconds` is the phase time. -/
def chargeReport (e : ChargeEvent) (p : Pcc) (seconds : Nat) : Signal :=
  .report .charge
    (num1 e.code ++ num1 p.phase.code ++ num1 p.prev.code ++ flagField p.paused ++ num2 p.penSet ++
      optField num2 p.vCell ++ optField num2 p.iMeas ++ num2 seconds ++
      (if e = .fault then optField (fun c => num1 (ChargeCause.code c)) p.cause else [0]) ++ num1 p.cycles)

/-- BUDGET (07 R135), of the record after the event; the causes are GRANT, RAIL, PEN in bits 0 to 2. -/
def budgetReport (grant rail pen : Bool) (bTotal : Nat) (b : Sbu) : Signal :=
  .report .budget
    (num1 ((if grant then 1 else 0) + (if rail then 2 else 0) + (if pen then 4 else 0)) ++ num1 b.railState.code ++
      num2 b.rail ++ int1 b.temp ++ num2 bTotal ++ num2 b.requested ++ num2 b.grant ++ flagField b.pending ++
      flagField b.capped ++ num2 b.penSet ++ flagField b.pause)

/-- SLEEP_ADVICE (09 R173). -/
def sleepAdviceReport (rule : Nat) (s : State) : Signal :=
  .report .sleepAdvice (num1 rule ++ num1 s.pcl.code ++ num1 s.pcl.cond.code ++ num2 s.igt.idle)

inductive WithdrawCause where
  | governingChanged | ruleWritten | wake (src : WakeSource)
  deriving DecidableEq, Repr

/-- ADVICE_WITHDRAWN (09 R173): the advising rule, the cause, the wake source for cause WAKE, the governing rule after the event. -/
def adviceWithdrawnReport (rule : Nat) (c : WithdrawCause) (governing : Option Nat) : Signal :=
  .report .adviceWithdrawn
    (num1 rule ++
      (match c with
        | .governingChanged => [0, 0]
        | .ruleWritten => [1, 0]
        | .wake src => [2, 1] ++ wakeSourceField src) ++
      optField num1 governing)

/-- SLEEP_OVERDUE (09 R173). -/
def sleepOverdueReport (stage : Nat) (h : HostState) (rule : Option Nat) : Signal :=
  .report .sleepOverdue (num1 stage ++ num1 h.code ++ optField num1 rule)

/-- FORCE_CUT (09 R173); the host state before the cut has the code of the host state (log 62). -/
def forceCutReport (h : HostState) (rule : Option Nat) (pulse : Nat) : Signal :=
  .report .forceCut (num1 h.code ++ optField num1 rule ++ num2 pulse)

/-- WAKE_ADVICE (09 R173); the state before waking has the code of the host state (log 62). -/
def wakeAdviceReport (src : WakeSource) (before : HostState) : Signal :=
  .report .wakeAdvice (wakeSourceField src ++ num1 before.code)

/-- WAKE_FAILED (09 R173); the host state returned to has the code of the host state (log 62). -/
def wakeFailedReport (src : WakeSource) (h : HostState) : Signal :=
  .report .wakeFailed (wakeSourceField src ++ num1 h.code)

inductive PowerCause where
  | hostSleeping | hostOff | hostState | wake
  deriving DecidableEq, Repr

def PowerCause.code : PowerCause → Nat
  | .hostSleeping => 0
  | .hostOff => 1
  | .hostState => 2
  | .wake => 3

/-- POWER (10 R185); the previous state has the code of the power state (log 62). -/
def powerReport (new prev : PowerState) (c : PowerCause) (h : HostState) (deferred : Bool)
    (cause : Option PowerSource) (latched : List PowerSource) : Signal :=
  .report .power
    (num1 new.code ++ num1 prev.code ++ num1 c.code ++ num1 h.code ++ flagField deferred ++
      optField (fun x => num1 (PowerSource.code x)) cause ++ listField (fun x => num1 (PowerSource.code x)) latched)

/-- START (11 R202). -/
def startReport (u : Ulp) : Signal :=
  .report .start (num1 u.cause.code ++ flagField u.retained ++ [Config.siliconRevision])

end Sys2Proof.Machine
end

