-- ==== Sys2Proof/Machine/Hinge.lean ====
section
/-! DEFINITION. The Hinge Angle Unit (01 1.2 to 1.8). -/

namespace Sys2Proof.Machine

/-! ### Samples and smoothing -/

/-- Intake clamp (01 R7, R8). -/
def clampAxis (v : Int) : Int := max (-8192) (min 8191 v)

/-- One axis of the filter: s + (v − s) / 2^k, truncated toward zero (01 R9). -/
def smoothAxis (k : Nat) (s v : Int) : Int := s + (v - s).tdiv (2 ^ k)

/-- A stream's filter step; a stream with no smoothed value is loaded (01 R9, R10). -/
def smooth (k : Nat) (old : Option Vec) (v : Vec) : Vec :=
  match old with
  | none => v
  | some o => ⟨smoothAxis k o.x v.x, smoothAxis k o.y v.y, smoothAxis k o.z v.z⟩

/-- The lid sample period in ms (01 R7): 10 Hz in DOZE, the configured rate elsewhere. -/
def samplePeriod (p : PowerState) (rate : Nat) : Nat :=
  if p = .doze then 100
  else
    match rate with
    | 0 => 40
    | 1 => 20
    | 2 => 10
    | _ => 5

/-! ### The angle routine -/

/-- The approximate magnitude (01 R12). -/
def magnitude (u v : Int) : Nat := max u.natAbs v.natAbs + min u.natAbs v.natAbs / 2

/-- The arctangent constants T[0..16] (01 R13). -/
def atanTable : List Nat :=
  [0, 57, 114, 170, 225, 278, 329, 378, 425, 470, 512, 552, 590, 626, 659, 690, 720]

/-- T(r), interpolated between the constants (01 R13, stage 2). -/
def atanInterp (r : Nat) : Nat :=
  let i := r / 16
  let f := r % 16
  let t := atanTable.getD i 0
  if f = 0 then t else t + (atanTable.getD (i + 1) 0 - t) * f / 16

/-- The base angle φ of 0..1440 (01 R13, stages 1 to 3). -/
def baseAngle (a b : Nat) : Nat :=
  if b ≤ a then atanInterp (b * 256 / a) else 1440 - atanInterp (a * 256 / b)

/-- ψ(u, v), in 0..5759 (01 R13). -/
def psi (u v : Int) : Nat :=
  let φ := baseAngle u.natAbs v.natAbs
  if 0 ≤ u then
    if 0 ≤ v then φ else if φ = 0 then 0 else 5760 - φ
  else if 0 ≤ v then 2880 - φ else 2880 + φ

/-! ### The hinge computation -/

/-- The raw angle R of 0..5759 (01 R14, step 4). -/
def rawAngle (lid base offset : Nat) : Nat :=
  let r : Int := lid - base + offset
  (if r < 0 then r + 5760 else if 5760 ≤ r then r - 5760 else r).toNat

/-- Continuity (01 R15). -/
def continuity (prev : Option Nat) (r : Nat) : Nat :=
  match prev with
  | none => r
  | some h => if 4320 ≤ h ∧ r < 1440 then 5760 else if h ≤ 1440 ∧ 4320 ≤ r then 0 else r

/-- The hinge angle of a good sample, or none for a weak one (01 R14, R15). -/
def hingeSample (s : State) : Option Nat :=
  match s.hau.lid, s.hau.base with
  | some l, some b =>
    if magnitude l.y l.z < s.par.mMin ∨ magnitude b.y b.z < s.par.mMin ∨ s.hau.cond ≠ .fresh then none
    else some (continuity s.hau.hinge.angle (rawAngle (psi l.y l.z) (psi b.y b.z) s.par.hingeOffset))
  | _, _ => none

/-- The record with the angle lost (01 R17, R18). -/
def Hinge.lost : Hinge := ⟨none, .unknown, 0⟩

/-- A weak sample that leaves `n` in the hold count (01 R17). -/
def Hinge.weak (limit n : Nat) (h : Hinge) : Hinge :=
  if limit ≤ n then Hinge.lost else ⟨h.angle, .held, n⟩

/-- Quality transitions (01 R17). -/
def Hinge.next (limit : Nat) (sample : Option Nat) (h : Hinge) : Hinge :=
  match sample with
  | some a => ⟨some a, .good, 0⟩
  | none =>
    match h.quality with
    | .good | .hall => h.weak limit 1
    | .held => h.weak limit (h.holds + 1)
    | .unknown => Hinge.lost

/-- Hall forcing (01 R16): LID governs. -/
def hallForced (s : State) : Option Hinge :=
  if s.sib.lid.asserted then some ⟨some 0, .hall, 0⟩
  else if s.sib.fold.asserted then some ⟨some 5760, .hall, 0⟩
  else none

/-- Whether an update raises an ANGLE report (01 R20). -/
def angleReports (step : Nat) (last : Option Nat) (old new : Hinge) : Bool :=
  old.quality != new.quality ||
    (step != 0 &&
      match new.angle, last with
      | some a, some l => step ≤ max a l - min a l
      | some _, none => true
      | none, _ => false)

/-- An update of the hinge record: the PCL first, then any ANGLE report (01 R19, R20). -/
def hingeUpdate (new : Hinge) (s : State) : Act :=
  let old := s.hau.hinge
  if angleReports s.par.angleStep s.hau.lastReported old new then
    ({ s with hau := { s.hau with hinge := new, lastReported := new.angle } },
      [.pclEval, angleReport new old.quality])
  else ({ s with hau := { s.hau with hinge := new } }, [.pclEval])

/-- A FRESH base vector whose age exceeds the limit becomes STALE at a lid sample (01 R11). -/
def judgeStale (limit : Nat) (h : Hau) : Hau :=
  if h.cond = .fresh ∧ limit < h.age then { h with cond := .stale } else h

/-- The intake of a lid sample: clamp, smoothing, staleness; then the ORU, then the hinge computation (01 R7, R9, R11, R19). -/
def takeLidSample (x y z : Int) (s : State) : Act :=
  let v := smooth s.par.shift s.hau.lid ⟨clampAxis x, clampAxis y, clampAxis z⟩
  let h := judgeStale s.par.staleLimit
    { s.hau with lid := some v, sampleTimer := some (samplePeriod s.psc.power s.par.lidRate) }
  ({ s with hau := h }, [.oruEval, .hinge])

/-- LID_SAMPLE_EVENT (01 R7): there are samples in RUN and DOZE only. -/
def lidSample (x y z : Int) (s : State) : Act :=
  if s.awake then onExpiry s.hau.sampleTimer (takeLidSample x y z) s else quiet s

/-- The hinge record at a lid sample: forced by a hall, left with the base vector ABSENT, computed otherwise (01 R14, R16, R18); then the mirror. -/
def hingeAtSample (s : State) : Act :=
  match hallForced s with
  | some h => (hingeUpdate h s).andThen fun s => (s, [.mirror])
  | none =>
    if s.hau.cond = .absent then (s, [.mirror])
    else
      (hingeUpdate (s.hau.hinge.next s.par.holdLimit (hingeSample s)) s).andThen fun s => (s, [.mirror])

/-- A hall change (01 R16); in STANDBY and SETTLE it is not applied (01 R23). -/
def hallChange (s : State) : Act :=
  if s.awake then
    match hallForced s with
    | some h => hingeUpdate h s
    | none => if s.hau.cond = .absent then hingeUpdate Hinge.lost s else quiet s
  else quiet s

/-! ### The sample mirror (01 R21) -/

/-- The 16 bytes of a SAMPLE payload (11.8). -/
def samplePayload (h : Hau) : List Byte :=
  let lid := h.lid.getD ⟨0, 0, 0⟩
  let present := h.cond = .fresh ∨ h.cond = .stale
  let base := if present then h.base.getD ⟨0, 0, 0⟩ else ⟨0, 0, 0⟩
  int2 lid.x ++ int2 lid.y ++ int2 lid.z ++
    num1 ((if present then 1 else 0) + (if h.hinge.angle.isSome then 2 else 0)) ++
    int2 base.x ++ int2 base.y ++ int2 base.z ++ num2 (h.hinge.angle.getD 0) ++ num1 h.hinge.quality.code

def mirrorSample (s : State) : Act :=
  if s.par.mirrorN = 0 then quiet s
  else if s.hau.mirrorCount + 1 < s.par.mirrorN then
    quiet { s with hau := { s.hau with mirrorCount := s.hau.mirrorCount + 1 } }
  else
    ({ s with hau := { s.hau with mirrorCount := 0 }, fbf := s.fbf.putMirror (samplePayload s.hau) }, [.arbiter])

/-! ### The base vector -/

/-- The base record gives tilt present. -/
def Dlc.tilt (d : Dlc) : Option Mount :=
  match d.base with
  | some (.keyboard i) => i.tilt
  | some .cover | none => none

/-- A base vector can be in use (01 R11). -/
def Dlc.tiltAvailable (d : Dlc) : Bool :=
  d.tilt.isSome &&
    match d.state with
    | .powering | .active | .quiesced | .waking => true
    | .identifying => d.recov
    | .absent | .settling | .present | .identified | .covered | .faulted => false

/-- The base vector becomes ABSENT; the hinge record follows at once unless a hall is asserted (01 R11, R18). -/
def baseLost (s : State) : Act :=
  let s := { s with hau := { s.hau with cond := .absent, base := none, age := 0 } }
  if (hallForced s).isNone ∧ s.hau.hinge.quality ≠ .unknown then hingeUpdate Hinge.lost s else quiet s

/-- The HAU re-judges absence at a notification of the DLC (01 R11); `newBase` is a replaced record with another class or layout. In STANDBY and SETTLE the condition is kept (01 R23, log 33). -/
def hauDockNotice (newBase : Bool) (s : State) : Act :=
  if s.awake then
    if s.dlc.tiltAvailable then
      if s.hau.cond = .absent ∨ newBase then
        quiet { s with hau := { s.hau with cond := .awaiting, base := none, age := 0 } }
      else quiet s
    else if s.hau.cond = .absent then quiet s
    else baseLost s
  else quiet s

/-- A TILT sample (01 R8): accepted while the base vector is not ABSENT; negated for ROTATED, then clamped, then smoothed or loaded. -/
def acceptTilt (x y z : Int) (s : State) : State :=
  if s.awake ∧ s.hau.cond ≠ .absent then
    let sgn : Int := if s.dlc.tilt = some .rotated then -1 else 1
    let v : Vec := ⟨clampAxis (sgn * x), clampAxis (sgn * y), clampAxis z⟩
    let old := if s.hau.cond = .awaiting then none else s.hau.base
    { s with hau := { s.hau with base := some (smooth s.par.shift old v), cond := .fresh, age := 0 } }
  else s

/-! ### Power states and reset -/

/-- Entering STANDBY: the accelerometer is off (01 R23). -/
def Hau.stop (h : Hau) : Hau := { h with sampleTimer := none }

/-- Entering RUN from SETTLE (01 R23): filters and hinge record restart; an ANGLE report for a change of quality. -/
def hauRestart (s : State) : Act :=
  let old := s.hau.hinge
  let new := (hallForced s).getD Hinge.lost
  let h : Hau :=
    { s.hau with
      lid := none
      cond := if s.dlc.tiltAvailable then .awaiting else .absent
      base := none
      age := 0
      hinge := new
      mirrorCount := 0
      sampleTimer := some (samplePeriod .run s.par.lidRate) }
  if old.quality = new.quality then quiet { s with hau := h }
  else ({ s with hau := { h with lastReported := new.angle } }, [angleReport new old.quality])

end Sys2Proof.Machine
end

