-- ==== Sys2Proof/Machine/Uplink.lean ====
section
/-! DEFINITION. The Uplink Port but for the commands: report composition, the transmit arbiter, the receiver, the command queue and the reply slot (11 R188 to R190, R197 to R201). -/

namespace Sys2Proof.Machine

/-! ### Report composition -/

/-- The enable of a kind; START, OVERFLOW and FORCE_CUT are composed whatever theirs hold (11 R199). -/
def reportEnabled (mask : BitVec 21) : ReportKind → Bool
  | .start | .overflow | .forceCut => true
  | k => mask.getLsbD (k.code - 1)

/-- Kind, stamp, fields (11 R198). -/
def reportPayload (k : ReportKind) (stamp : Stamp) (fields : List Byte) : List Byte :=
  byte k.code :: (num4 stamp.toNat ++ fields)

/-- Stored at the tail of the Report area; the arbiter may choose. -/
def storeReport (payload : List Byte) (s : State) : Act :=
  ({ s with fbf := { s.fbf with report := s.fbf.report ++ [⟨.report, payload⟩] } }, [.arbiter])

/-- The OVERFLOW report of 11 R200, where the count is above 0 and it fits. -/
def offerOverflow (s : State) : Act :=
  let payload := reportPayload .overflow s.ms (num1 s.ulp.lost)
  if 0 < s.ulp.lost ∧ payload.length + 4 ≤ s.fbf.reportFree then
    (storeReport payload s).andThen fun s => quiet { s with ulp := { s.ulp with lost := 0 } }
  else quiet s

/-- The offer to the Report area, and its refusal (06 R116); the SPU is told of a refused FORCE_CUT (09 R169). -/
def offerReport (k : ReportKind) (fields : List Byte) (s : State) : Act :=
  let payload := reportPayload k s.ms fields
  if payload.length + 4 ≤ s.fbf.reportFree then storeReport payload s
  else
    ({ s with ulp := { s.ulp with lost := min (s.ulp.lost + 1) 255 } }, if k = .forceCut then [.cutAssert] else [])

/-- A raised report: the mask, the OVERFLOW before it, the offer (11 R199, R200). -/
def composeReport (k : ReportKind) (fields : List Byte) (s : State) : Act :=
  if reportEnabled s.ulp.mask k then (offerOverflow s).andThen (offerReport k fields) else quiet s

/-! ### The transmit arbiter (11 R201) -/

/-- The last element that a test picks, and the list without it. -/
def takeLast {α : Type} (p : α → Bool) : List α → Option (α × List α)
  | [] => none
  | f :: rest =>
    match takeLast p rest with
    | some (g, r) => some (g, f :: r)
    | none => if p f then some (f, rest) else none

/-- A stored or sent payload of a FORCE_CUT report. -/
def isForceCut (payload : List Byte) : Bool := payload.head? = some 17

/-- The line takes a copy. -/
def State.send (s : State) (f : UpFrame) : State := { s with ulp := { s.ulp with line := some f } }

def sendReport (payload : List Byte) (rest : List Stored) (alt : AltMark) (s : State) : Act :=
  let s := { s with fbf := { s.fbf with report := rest } }
  let s := { s with ulp := { s.ulp with alt := alt } }
  (s.send ⟨.report, Config.unsolicitedChannelTag, payload, none⟩, [.reportRemoved])

def sendInput (payload : List Byte) (rest : List Stored) (s : State) : Act :=
  let s := { s with fbf := { s.fbf with input := rest } }
  let s := { s with ulp := { s.ulp with alt := .report } }
  (s.send ⟨.input, Config.unsolicitedChannelTag, payload, none⟩, [.spaceEvent])

/-- The choice among the areas (11 R201, rows 2 to 5). -/
def chooseArea (s : State) : Act :=
  match s.fbf.report, s.fbf.input with
  | r :: rs, i :: is =>
    match s.ulp.alt with
    | .report => sendReport r.payload rs .input s
    | .input => sendInput i.payload is s
  | r :: rs, [] => sendReport r.payload rs .input s
  | [], i :: is => sendInput i.payload is s
  | [], [] =>
    match s.fbf.mirror with
    | m :: ms =>
      let s := { s with fbf := { s.fbf with mirror := ms } }
      quiet (s.send ⟨.sample, Config.unsolicitedChannelTag, m.payload, none⟩)
    | [] => quiet s

/-- The choice while the upstream hold applies: the FORCE_CUT report of a cut in WAIT (09 R172), the last of its kind in the area (log 14). -/
def chooseHeld (s : State) : Act :=
  if s.spu.cutStage = .wait then
    match takeLast (fun f => isForceCut f.payload) s.fbf.report with
    | some (f, rest) => sendReport f.payload rest s.ulp.alt s
    | none => quiet s
  else quiet s

/-- The arbiter may choose: the line is IDLE, no frame begun before a reset is still on it, no ordered reset is due (log 38). -/
def Ulp.lineFree (u : Ulp) : Bool := u.line.isNone && u.preReset.isNone && u.resetDue.isNone

def arbiterChoice (s : State) : Act :=
  if s.ulp.lineFree then
    if s.held then chooseHeld s
    else
      match s.ulp.slot with
      | some r =>
        let s := { s with ulp := { s.ulp with slot := none } }
        (s.send ⟨.reply, r.ct, r.payload, r.reset⟩, [.serve])
      | none => chooseArea s
  else quiet s

/-- The CHECK byte of the frame on the line has gone (11 R201, R197, 09 R169). The end of a frame begun before a reset frees the line and begins no reset (logs 10, 70). -/
def transmitEnd (s : State) : Act :=
  match s.ulp.preReset with
  | some _ => ({ s with ulp := { s.ulp with preReset := none } }, [.arbiter])
  | none =>
    match s.ulp.line with
    | none => quiet s
    | some f =>
      let due := if f.reset.isSome then f.reset else s.ulp.resetDue
      ({ s with ulp := { s.ulp with line := none, resetDue := due } },
        (if f.kind = .report ∧ isForceCut f.payload then [.cutAssert] else []) ++ [.arbiter])

/-! ### Replies and the reply slot -/

/-- A reply goes into the slot, or is discarded under the upstream hold (09 R172); a discarded PART_RESET reply orders its reset (11 R197). -/
def placeReply (r : Reply) (s : State) : Act :=
  if s.held then
    quiet { s with ulp := { s.ulp with resetDue := if r.reset.isSome then r.reset else s.ulp.resetDue } }
  else ({ s with ulp := { s.ulp with slot := some r } }, [.arbiter])

/-- The reply of the command being executed; its execution is over (11 R190). -/
def commandReply (r : Reply) (s : State) : Act :=
  placeReply r { s with ulp := { s.ulp with executing := false } }

/-- The upstream hold begins: a reply in the slot is discarded, and the queue is served at once (09 R172, 11 R190, R197). -/
def beginHold (s : State) : Act :=
  let due := match s.ulp.slot with
    | some r => if r.reset.isSome then r.reset else s.ulp.resetDue
    | none => s.ulp.resetDue
  ({ s with ulp := { s.ulp with slot := none, resetDue := due } }, [.serve])

/-- The upstream hold ends: a choice is made if the line is IDLE, and then the overrun replies and the queue are served (09 R172, 11 R201, log 69). -/
def endHold (s : State) : Act := (s, [.arbiter, .serve])

/-! ### The receiver (11 R188, 10 R184) -/

/-- What the bytes after a SYNC are. -/
inductive RxHead where
  | incomplete
  | bad
  | frame (ct : Byte) (payload rest : List Byte)
  deriving DecidableEq, Repr

/-- The frame after a SYNC: KIND, CHANNEL/TAG, LENGTH, payload, CHECK. -/
def rxHead : List Byte → RxHead
  | [] => .incomplete
  | k :: bs =>
    if k = 1 then
      match bs with
      | ct :: len :: rest =>
        if 60 < len.toNat then .bad
        else if rest.length ≤ len.toNat then .incomplete
        else if crc8 (k :: ct :: len :: rest.take len.toNat) = rest.getD len.toNat 0 then
          .frame ct (rest.take len.toNat) (rest.drop (len.toNat + 1))
        else .bad
      | _ => .incomplete
    else .bad

/-- The search for frames in the bytes held: each discarded frame is searched again from the byte after its SYNC; `flush` discards a frame that is not whole. -/
def rxScan (flush : Bool) : Nat → List Byte → List (Byte × List Byte) × List Byte
  | 0, buf => ([], buf)
  | _ + 1, [] => ([], [])
  | n + 1, b :: bs =>
    if b = 0xA5 then
      match rxHead bs with
      | .incomplete => if flush then rxScan flush n bs else ([], b :: bs)
      | .bad => rxScan flush n bs
      | .frame ct payload rest => ((ct, payload) :: (rxScan flush n rest).1, (rxScan flush n rest).2)
    else rxScan flush n bs

/-- Bytes reach the receiver; in STANDBY and SETTLE they are lost (10 R184). -/
def receiveBytes (flush : Bool) (bytes : List Byte) (s : State) : Act :=
  if s.awake then
    let buf := s.ulp.rx ++ bytes
    let r := rxScan flush (buf.length + 1) buf
    ({ s with ulp := { s.ulp with rx := r.2 } }, r.1.map fun f => Signal.received f.1 f.2)
  else quiet s

/-- The status bytes of 11 R191. -/
inductive Status where
  | ok | adjusted | denied | range | state | busy | overrun | malformed | unknown
  deriving DecidableEq, Repr

def Status.code : Status → Nat
  | .ok => 0
  | .adjusted => 1
  | .denied => 2
  | .range => 3
  | .state => 4
  | .busy => 5
  | .overrun => 6
  | .malformed => 7
  | .unknown => 8

/-- Code, status, fields; fields only with OK and ADJUSTED (11 R190, R203). -/
def replyPayload (code : Byte) (st : Status) (fields : List Byte) : List Byte :=
  code :: byte st.code :: (match st with
    | .ok | .adjusted => fields
    | .denied | .range | .state | .busy | .overrun | .malformed | .unknown => [])

/-- The command code of a frame, 0 for an empty payload (11 R190). -/
def commandCode (payload : List Byte) : Byte := payload.headD 0

/-- The SPU is told of a received frame: its number and time; a second frame after the POLICY_UNLOCK closes the window (09 R171). -/
def Spu.told (b : Spu) (now : Stamp) : Spu :=
  { b with
    rxSeq := b.rxSeq + 1
    lastRx := now
    unlock := b.unlock.filter fun u => b.rxSeq + 1 < u.seq + 2 }

/-- A received frame is told to the SPU and offered to the queue; a full queue answers OVERRUN (11 R188, R189). -/
def receiveFrame (ct : Byte) (payload : List Byte) (s : State) : Act :=
  let s := { s with spu := s.spu.told s.ms }
  if s.ulp.queue.length < 4 then
    ({ s with ulp := { s.ulp with queue := s.ulp.queue ++ [⟨ct, payload, s.spu.rxSeq, s.ms⟩] } }, [.serve])
  else
    let r : Reply := ⟨ct, replyPayload (commandCode payload) .overrun [], none⟩
    if s.held then quiet s
    else if s.ulp.slot.isNone then ({ s with ulp := { s.ulp with slot := some r } }, [.arbiter])
    else if s.ulp.overruns.length < 4 then
      quiet { s with ulp := { s.ulp with overruns := s.ulp.overruns ++ [r] } }
    else quiet s

/-- A command of the host, given as its whole frame (log 6): a payload above 60 bytes makes no frame (11 R188), and in STANDBY and SETTLE it is lost (10 R184). -/
def hostFrame (ct : Byte) (payload : List Byte) (s : State) : Act :=
  if s.awake ∧ payload.length ≤ 60 then (s, [.received ct payload]) else quiet s

end Sys2Proof.Machine
end

