-- ==== Sys2Proof/Machine/Dock.lean ====
section
/-! DEFINITION. The Dock Link Controller (04). -/

namespace Sys2Proof.Machine

/-! ### The Dock Link frame (04 4.1, 11.8) -/

def headPoll : Byte := 0x10
def headIdentReq : Byte := 0x11
def headRun : Byte := 0x12
def headQuiesce : Byte := 0x13
def headPassdown : Byte := 0x14

/-- A frame of the Dock Link as it stands on the line: HEAD, LENGTH, payload, CHECK. -/
def DockFrame.bytes (f : DockFrame) : List Byte :=
  let body := f.head :: byte f.payload.length :: f.payload
  body ++ [crc8 body]

/-- What a base answers (04 4.1). -/
inductive Answer where
  | ident (i : Ident)
  | key (code : Nat) (release : Bool)
  | point (bytes : List Byte)
  | tilt (x y z : Int)
  | stat (flags : Byte) (ma : Nat)
  | nil
  deriving DecidableEq, Repr

/-- The IDENT payload, in range or not VALID (04 R61, 11.8). -/
def parseIdent (p : List Byte) : Option Ident :=
  match p with
  | [cls, rev, a0, a1, q, flags, layout, _, _, _, _, _] =>
    let cls? : Option BaseClass :=
      if cls = 1 then some .keyboard else if cls = 2 then some .keyboardTouchpad else none
    match cls? with
    | none => none
    | some c =>
      if 1 ≤ rev.toNat ∧ rev.toNat ≤ 15 ∧ le2 a0 a1 ≤ 1000 ∧ q.toNat ≤ 100 then
        some
          { cls := c
            rev := rev.toNat
            active := le2 a0 a1
            quiesced := q.toNat
            tilt := if flags.getLsbD 0 then some (if flags.getLsbD 1 then .rotated else .normal) else none
            layout := layout.toNat
            touchpad := flags.getLsbD 2 }
      else none
  | _ => none

/-- The fields of a payload by its HEAD (04 R58, 11.8). -/
def parsePayload (head : Byte) (p : List Byte) : Option Answer :=
  if head = 0x20 then (parseIdent p).map .ident
  else if head = 0x21 then
    match p with
    | [code, ev] =>
      if 1 ≤ code.toNat ∧ code.toNat ≤ 254 ∧ ev.toNat ≤ 1 then some (.key code.toNat (ev == 1)) else none
    | _ => none
  else if head = 0x22 then if 4 ≤ p.length ∧ p.length ≤ 16 then some (.point p) else none
  else if head = 0x23 then
    match p with
    | [x0, x1, y0, y1, z0, z1] => some (.tilt (sle2 x0 x1) (sle2 y0 y1) (sle2 z0 z1))
    | _ => none
  else if head = 0x24 then
    match p with
    | [flags, m0, m1] => some (.stat flags (le2 m0 m1))
    | _ => none
  else if head = 0x25 then if p = [] then some .nil else none
  else none

/-- A complete answer: VALID with its content, or none for GARBLED (04 R58). -/
def parseAnswer (bs : List Byte) : Option Answer :=
  match bs with
  | head :: len :: rest =>
    if rest.length = len.toNat + 1 ∧ len.toNat ≤ 16 then
      if crc8 (head :: len :: rest.take len.toNat) = rest.getD len.toNat 0 then
        parsePayload head (rest.take len.toNat)
      else none
    else none
  | _ => none

/-! ### Changes of the dock state (04 R77) -/

/-- The origin that a step's report carries (04 R82). -/
def Dlc.origin (d : Dlc) : Option Origin := d.walk.map Walk.origin

/-- The record on its way to a new state: the slot in progress is closed, the timers of the old state stop. -/
def Dlc.moved (st : DockState) (d : Dlc) : Dlc :=
  { d with
    state := st
    settle := none
    ready := none
    slot := none
    slotTimer := none
    attemptTimer := none
    await := none }

/-- The states on whose entry the DLC empties the Passdown area (04 R77). -/
def DockState.empties : DockState → Bool
  | .absent | .present | .covered | .faulted => true
  | .settling | .identifying | .identified | .powering | .active | .quiesced | .waking => false

/-- The new record, in which a step that ends has already ended, and the five handovers of a change of the dock state or of the recovery mark (04 R77); the step's report and a stored power request come after them (log 68). -/
def dockMove (new : Dlc) (s : State) : Act :=
  let departs := s.dlc.state.delivers && !new.state.delivers
  ({ s with
      dlc := new
      fbf := if new.state.empties then { s.fbf with passdown := [] } else s.fbf },
    [.dockLevel new.level, .hauDock false, .pclDock] ++ (if departs then [.igtDeparture] else []) ++ [.pscRecheck])

/-- What follows the end of a step (04 R77, R79, R80): the walk, the PSC, a stored request; the walk goes before an entry to STANDBY that the step has deferred (log 75), and that entry before the stored request (log 56). -/
def stepEnd : List Signal := [.walkNext, .pscDeferred, .servePower]

/-- A DOCK report of the record as it stands. -/
def reportDock (e : DockEvent) (st : Option DockStep) (o : Option Origin) (c : Option DockCause) (s : State) : Act :=
  (s, [dockReport s.dlc e st o c])

/-- Hand on more. -/
def emit (l : List Signal) (s : State) : Act := (s, l)

/-- The record in FAULTED (04 R75). -/
def Dlc.faulted (c : DockCause) (d : Dlc) : Dlc :=
  { d.moved .faulted with
    recov := false, step := none, quiesceSent := false, walk := none, cause := some c, basePower := false }

/-- FAULTED: STEP_FAILED for a step in flight that `asStep` names, event FAULT otherwise (04 R63 to R76). -/
def dockFault (c : DockCause) (asStep : Bool) (s : State) : Act :=
  let st := if asStep then s.dlc.step else none
  let o := if st.isSome then s.dlc.origin else none
  ((dockMove (s.dlc.faulted c) s).andThen
      (reportDock (if st.isSome then .stepFailed else .fault) st o (some c))).andThen (emit stepEnd)

/-! ### Slots (04 R60) -/

/-- A frame opens a slot. -/
def Dlc.opened (f : DockFrame) (d : Dlc) : Dlc := { d with slot := some f, sinceOpen := 0 }

/-- An IDENT_REQ attempt; the next is due 10 ms after its opening (04 R63). -/
def Dlc.attempt (d : Dlc) : Dlc := { d.opened ⟨headIdentReq, []⟩ with attemptTimer := some 10 }

/-- The next slot of the state, by the choice of 04 R60; in STANDBY and SETTLE none opens in ACTIVE and QUIESCED (04 R83). -/
def openNextSlot (s : State) : State :=
  let poll := some s.par.pollPeriod
  match s.dlc.state with
  | .powering | .waking => { s with dlc := { s.dlc.opened ⟨headRun, []⟩ with slotTimer := poll } }
  | .active =>
    if !s.awake then s
    else if s.dlc.step = some .quiesce ∧ !s.dlc.quiesceSent then
      { s with dlc := { s.dlc.opened ⟨headQuiesce, []⟩ with slotTimer := poll, quiesceSent := true } }
    else
      match s.fbf.passdown with
      | f :: rest =>
        { s with
          dlc := { s.dlc.opened ⟨headPassdown, f.payload⟩ with slotTimer := poll }
          fbf := { s.fbf with passdown := rest } }
      | [] => { s with dlc := { s.dlc.opened ⟨headPoll, []⟩ with slotTimer := poll } }
  | .quiesced =>
    if !s.awake then s
    else { s with dlc := { s.dlc.opened ⟨headPoll, []⟩ with slotTimer := some s.par.quiescedPeriod } }
  | .absent | .settling | .present | .identifying | .identified | .covered | .faulted => s

/-- After a slot has closed, an opening whose time has passed follows at once (04 R60). -/
def openDue (s : State) : Act :=
  if s.dlc.slot.isSome then quiet s
  else if s.dlc.state = .identifying then
    if s.dlc.attemptTimer = some 0 then quiet { s with dlc := s.dlc.attempt } else quiet s
  else if s.dlc.slotTimer = some 0 then quiet (openNextSlot s)
  else quiet s

/-- POLL_PERIOD_EXPIRY (04 R60): the next slot opens, or waits for the one in progress to close. -/
def pollPeriodExpiry (s : State) : Act :=
  onExpiry s.dlc.slotTimer (fun s => if s.dlc.slot.isSome then quiet s else quiet (openNextSlot s)) s

/-- IDENT_ATTEMPT_OPEN (04 R63). -/
def identAttemptOpen (s : State) : Act :=
  onExpiry s.dlc.attemptTimer
    (fun s =>
      if s.dlc.state = .identifying ∧ s.dlc.slot.isNone then quiet { s with dlc := s.dlc.attempt } else quiet s) s

/-- The SBU has applied the grant (04 R69, R77): the first slot of IDENTIFYING, POWERING or WAKING opens. -/
def grantApplied (changed : Bool) (s : State) : Act :=
  let d := if changed then { s.dlc with overdraw := 0 } else s.dlc
  match d.await with
  | none => quiet { s with dlc := d }
  | some .ident =>
    quiet { s with dlc := { d.attempt with attempts := 0, outcomes := [], await := none } }
  | some .run =>
    quiet
      { s with
        dlc := { d.opened ⟨headRun, []⟩ with slotTimer := some s.par.pollPeriod, ready := some 200, await := none } }

/-! ### Steps -/

/-- The active demand of the base record, 0 without one. -/
def Dlc.activeDemand (d : Dlc) : Nat :=
  match d.base with
  | some (.keyboard i) => i.active
  | some .cover | none => 0

/-- The state in which a step is accepted (04 R78). -/
def stepState : DockStep → Option DockState
  | .identify => some .present
  | .power => some .identified
  | .quiesce => some .active
  | .wake => some .quiesced
  | .release | .recover => none

/-- A step may begin: in its own state, or POWER for the new base that a recovery has found (04 R68, R78). -/
def Dlc.begins (d : Dlc) (st : DockStep) : Bool :=
  stepState st == some d.state || (st == .power && d.state == .identifying && d.recov)

/-- A step that may begin is put in flight (04 R63, R66, R70, R72). -/
def startStep (st : DockStep) (s : State) : Act :=
  let s := { s with dlc := { s.dlc with step := some st } }
  match st with
  | .identify =>
    if s.par.bTotal < 50 then dockFault .budget true s
    else dockMove { s.dlc.moved .identifying with recov := false, basePower := true, await := some .ident } s
  | .power =>
    if s.par.bTotal < s.dlc.activeDemand then dockFault .budget true s
    else dockMove { s.dlc.moved .powering with recov := false, await := some .run } s
  | .wake =>
    if s.par.bTotal < s.dlc.activeDemand then dockFault .budget true s
    else dockMove { s.dlc.moved .waking with await := some .run } s
  | .quiesce => quiet { s with dlc := { s.dlc with quiesceSent := false } }
  | .release | .recover => quiet s

/-- A step begins. -/
def beginStep (st : DockStep) (s : State) : Act := if s.dlc.begins st then startStep st s else quiet s

/-- The step that a walk takes next in a dock state (04 R79). -/
def walkStep : WalkTarget → DockState → Option DockStep
  | .attach, .present => some .identify
  | .attach, .identified => some .power
  | .wake, .quiesced => some .wake
  | .quiesce, .active => some .quiesce
  | _, _ => none

/-- A walk takes its next step, but not in STANDBY and SETTLE (04 R79, R83). -/
def walkNext (s : State) : Act :=
  match s.dlc.walk with
  | none => quiet s
  | some w =>
    if s.awake ∧ s.dlc.step.isNone then
      match walkStep w.target s.dlc.state with
      | some st => (s, [.dlcBegin st])
      | none => quiet s
    else quiet s

/-- A walk is accepted (04 R79, R80). -/
def startWalk (t : WalkTarget) (o : Origin) (s : State) : Act :=
  ({ s with dlc := { s.dlc with walk := some ⟨t, o⟩ } }, [.walkNext])

/-- The target of a walk is already reached (04 R79). -/
def walkReached : WalkTarget → DockState → Bool
  | .attach, .active | .attach, .covered | .wake, .active | .quiesce, .quiesced => true
  | _, _ => false

/-- DOCK_AUTO, or a power request served as one (04 R79, R80). -/
def dockAuto (t : WalkTarget) (o : Origin) (s : State) : Status × Act :=
  if s.dlc.busy then (.busy, quiet s)
  else if (walkStep t s.dlc.state).isSome then (.ok, startWalk t o s)
  else if walkReached t s.dlc.state then (.ok, quiet s)
  else (.state, quiet s)

def PowerReq.target : PowerReq → WalkTarget
  | .quiesce => .quiesce
  | .wake => .wake

/-- A power request of the PSC (04 R80). -/
def powerRequest (q : PowerReq) (s : State) : Act :=
  if s.dlc.busy then quiet { s with dlc := { s.dlc with powerReq := some q } }
  else (dockAuto q.target .psc s).2

/-- A stored power request is served once the DLC is not busy (04 R80). -/
def servePower (s : State) : Act :=
  match s.dlc.powerReq with
  | some q =>
    if s.dlc.busy then quiet s
    else (dockAuto q.target .psc { s with dlc := { s.dlc with powerReq := none } }).2
  | none => quiet s

/-! ### Presence (04 R62, R74) -/

/-- The record after a departure or a release (04 R73, R74): no base, nothing in flight. -/
def Dlc.cleared (st : DockState) (d : Dlc) : Dlc :=
  { d.moved st with
    recov := false
    step := none
    quiesceSent := false
    walk := none
    powerReq := none
    attempts := 0
    outcomes := []
    missed := 0
    cause := none
    base := none
    basePower := false }

/-- A step in flight is abandoned: its STEP_FAILED report names the state that follows (04 R73, R74). -/
def abandonReport (c : DockCause) (after : Dlc) (d : Dlc) : List Signal :=
  match d.step with
  | some st => [dockReport after .stepFailed (some st) d.origin (some c)]
  | none => []

def presenceAsserted (s : State) : Act :=
  if s.dlc.state = .absent then
    (dockMove { s.dlc.moved .settling with settle := some s.par.settleTime } s).andThen
      (reportDock .presence none none none)
  else quiet s

def presenceDropped (s : State) : Act :=
  if s.dlc.state = .absent then quiet s
  else
    let after := { s.dlc.cleared .absent with overdraw := 0 }
    let a : Act := (s, abandonReport .detached after s.dlc)
    ((a.andThen (dockMove after)).andThen (reportDock .detached none none none)).andThen (emit stepEnd)

def dlcPresence (asserted : Bool) (s : State) : Act :=
  if asserted then presenceAsserted s else presenceDropped s

/-- The settle timer expires (04 R62): PRESENT, and under the AUTO policy an ATTACH walk. -/
def dockSettled (s : State) : Act :=
  let walk := if s.par.attachPolicy = 1 then some ⟨.attach, .policy⟩ else s.dlc.walk
  ((dockMove { s.dlc.moved .present with base := none, walk := walk } s).andThen
    (reportDock .settled none none none)).andThen (emit [.walkNext])

/-- SETTLE_TIMER_DOCK_EXPIRY (04 R62). -/
def settleTimerDockExpiry (s : State) : Act := onExpiry s.dlc.settle dockSettled s

/-! ### Release and revocation (04 R73, R76) -/

/-- The states in which RELEASE is accepted (04 R73). -/
def DockState.releasable : DockState → Bool
  | .absent | .settling | .present => false
  | .identifying | .identified | .powering | .active | .quiesced | .waking | .covered | .faulted => true

def dockRelease (o : Option Origin) (s : State) : Act :=
  if s.dlc.state.releasable then
    let after := s.dlc.cleared .present
    let a : Act := (s, abandonReport .released after s.dlc)
    ((a.andThen (dockMove after)).andThen (reportDock .stepDone (some .release) o none)).andThen (emit stepEnd)
  else quiet s

/-- The states that a revocation faults (04 R76). -/
def DockState.supplied : DockState → Bool
  | .identifying | .identified | .powering | .active | .quiesced | .waking => true
  | .absent | .settling | .present | .covered | .faulted => false

def dockRevoked (s : State) : Act := if s.dlc.state.supplied then dockFault .supply true s else quiet s

/-! ### Recovery (04 R67) -/

/-- The recovery begins; a QUIESCE step whose frame has not been sent fails first. -/
def beginRecovery (s : State) : Act :=
  if s.dlc.state = .active ∧ 3 ≤ s.dlc.missed then
    let d := s.dlc
    let after :=
      ({ d.moved .identifying with
          recov := true, step := some .recover, quiesceSent := false, walk := none, attempts := 0, outcomes := [] }
        : Dlc).attempt
    let failed :=
      if d.step = some .quiesce then [dockReport after .stepFailed (some .quiesce) d.origin (some .noAck)] else []
    ((dockMove after s).andThen (emit failed)).andThen (reportDock .recovery none none none)
  else quiet s

/-! ### Slot outcomes -/

/-- The step ends in a state with STEP_DONE (04 R64, R66, R70, R72). -/
def stepDone (st : DockStep) (after : Dlc) (o : Option Origin) (s : State) : Act :=
  ((dockMove after s).andThen (reportDock .stepDone (some st) o none)).andThen (emit stepEnd)

/-- The time left to the next slot, measured from the opening of the last (04 R60); none while polling is suspended (04 R83). -/
def slotLeft (period : Nat) (s : State) : Timer := if s.awake then some (period - s.dlc.sinceOpen) else none

/-- A VALID IDENT in first identification (04 R64). -/
def identified (i : Ident) (s : State) : Act :=
  let s := { s with dlc := { s.dlc with base := some (.keyboard i) } }
  let a : Act := (s, [baseReport s.sbu.grant (.keyboard i)])
  let walk := s.dlc.walk.filter fun w => w.target == .attach
  a.andThen fun s => stepDone .identify { s.dlc.moved .identified with step := none, walk := walk } s.dlc.origin s

/-- Three attempts without a VALID IDENT (04 R65). -/
def identificationFailed (s : State) : Act :=
  if s.dlc.outcomes.all (· == .missing) then
    let a : Act := (s, [baseReport 0 .cover])
    a.andThen fun s =>
      stepDone .identify
        { s.dlc.moved .covered with step := none, walk := none, base := some .cover, basePower := false }
        s.dlc.origin s
  else dockFault .ident true { s with dlc := { s.dlc with base := none } }

/-- A VALID IDENT in recovery (04 R68); ACTIVE opens its first slot at once where the poll period has passed since the attempt opened (04 R60). -/
def recovered (i : Ident) (s : State) : Act :=
  let same :=
    match s.dlc.base with
    | some (.keyboard j) => j.cls == i.cls && j.layout == i.layout
    | some .cover | none => false
  let s := { s with dlc := { s.dlc with base := some (.keyboard i) } }
  let a : Act := (s, [baseReport s.sbu.grant (.keyboard i), .hauDock (!same)])
  if same then
    if s.par.bTotal < i.active then a.andThen (dockFault .budget false)
    else
      ((a.andThen fun s =>
          dockMove
            { s.dlc.moved .active with
              recov := false, step := none, missed := 0, overdraw := 0, slotTimer := slotLeft s.par.pollPeriod s }
            s).andThen (reportDock .recovered none none none)).andThen (emit (stepEnd ++ [.openDue]))
  else
    (a.andThen fun s =>
      reportDock .newBase none none none { s with fbf := { s.fbf with passdown := [] } }).andThen
        (emit [.dlcBegin .power])

/-- The close of an IDENT_REQ slot (04 R63, R64, R65, R68). -/
def identClose (ans : Option Answer) (o : Outcome) (s : State) : Act :=
  let d := s.dlc
  match ans with
  | some (.ident i) =>
    let s := { s with dlc := { d with attempts := min (d.attempts + 1) 3, outcomes := d.outcomes ++ [.valid] } }
    if d.recov then recovered i s else identified i s
  | _ =>
    let o := if o = .valid then .garbled else o
    let s := { s with dlc := { d with attempts := min (d.attempts + 1) 3, outcomes := d.outcomes ++ [o] } }
    if s.dlc.outcomes.length < 3 then (s, [.openDue])
    else if d.recov then dockFault .link false s
    else identificationFailed s

/-- The overdraw run after a STAT (04 R69). -/
def overdrawNext (grant ma run : Nat) : Nat := if grant * 5 / 4 < ma then min (run + 1) 3 else 0

/-- The tests of 04 R69 on a STAT: base fault, then overdraw; otherwise `k` on the updated run. -/
def statTests (flags : Byte) (ma : Nat) (k : State → Act) (s : State) : Act :=
  if flags.getLsbD 2 then dockFault .base true s
  else
    let s := { s with dlc := { s.dlc with overdraw := overdrawNext s.sbu.grant ma s.dlc.overdraw } }
    if s.dlc.overdraw = 3 then dockFault .overdraw true s else k s

/-- A KEY, POINT or TILT frame is handed on in ACTIVE, QUIESCED and WAKING, a TILT frame in POWERING too (04 R59). -/
def routeAnswer (gate : Answer → State → Act) (ans : Answer) (s : State) : Act :=
  match ans with
  | .key _ _ | .point _ => if s.dlc.state.delivers then gate ans s else quiet s
  | .tilt x y z => quiet (acceptTilt x y z s)
  | .ident _ | .stat _ _ | .nil => quiet s

/-- The answer to a QUIESCE frame is not an acknowledgement (04 R70). -/
def quiesceFailed (gate : Answer → State → Act) (ans : Option Answer) (s : State) : Act :=
  let o := s.dlc.origin
  let s :=
    { s with
      dlc :=
        { s.dlc with step := none, quiesceSent := false, walk := none, missed := min (s.dlc.missed + 1) 3 } }
  let a := reportDock .stepFailed (some .quiesce) o (some .noAck) s
  let routed :=
    match ans with
    | some x => a.andThen (routeAnswer gate x)
    | none => a
  routed.andThen (emit ([.dlcRecover] ++ stepEnd ++ [.openDue]))

/-- The base has acknowledged QUIESCE (04 R70). -/
def quiesceDone (s : State) : Act :=
  (stepDone .quiesce
    { s.dlc.moved .quiesced with
      step := none, quiesceSent := false, walk := none, missed := 0, slotTimer := slotLeft s.par.quiescedPeriod s }
    s.dlc.origin s).andThen (emit [.openDue])

/-- The answer to a QUIESCE frame (04 R70). -/
def quiesceClose (gate : Answer → State → Act) (ans : Option Answer) (s : State) : Act :=
  match ans with
  | some (.stat flags ma) =>
    statTests flags ma (fun s => if flags.getLsbD 1 then quiesceDone s else quiesceFailed gate ans s) s
  | _ => quiesceFailed gate ans s

/-- A slot of ACTIVE or QUIESCED with POLL or PASSDOWN closes (04 R67, R69, R71). -/
def pollClose (gate : Answer → State → Act) (ans : Option Answer) (s : State) : Act :=
  match ans with
  | some a =>
    let s := { s with dlc := { s.dlc with missed := 0 } }
    (match a with
      | .stat flags ma => statTests flags ma quiet s
      | x => routeAnswer gate x s).andThen (emit [.openDue])
  | none =>
    let s := { s with dlc := { s.dlc with missed := min (s.dlc.missed + 1) 3 } }
    if s.dlc.missed < 3 then (s, [.openDue])
    else if s.dlc.state = .active then (s, [.dlcRecover])
    else dockFault .link false s

/-- ACTIVE reached from POWERING or WAKING (04 R66, R72). -/
def readyReached (s : State) : Act :=
  match s.dlc.step with
  | some st =>
    stepDone st
      { s.dlc.moved .active with
        step := none, walk := none, missed := 0, overdraw := 0, slotTimer := if s.awake then s.dlc.slotTimer else none }
      s.dlc.origin s
  | none => quiet s

/-- A slot of POWERING or WAKING closes (04 R66, R72): missed responses are not counted. -/
def runClose (gate : Answer → State → Act) (ans : Option Answer) (s : State) : Act :=
  (match ans with
    | some (.stat flags ma) => statTests flags ma (fun s => if flags.getLsbD 0 then readyReached s else quiet s) s
    | some x => routeAnswer gate x s
    | none => quiet s).andThen (emit [.openDue])

/-- A slot closes with an outcome; `ans` is the content of a VALID answer (04 R57, R58). Without a slot in progress the answer is discarded and counted nowhere. -/
def closeSlot (gate : Answer → State → Act) (ans : Option Answer) (o : Outcome) (s : State) : Act :=
  match s.dlc.slot with
  | none => quiet s
  | some f =>
    let s := { s with dlc := { s.dlc with slot := none } }
    match s.dlc.state with
    | .identifying => identClose ans o s
    | .powering | .waking => runClose gate ans s
    | .active => if f.head = headQuiesce then quiesceClose gate ans s else pollClose gate ans s
    | .quiesced => pollClose gate ans s
    | .absent | .settling | .present | .identified | .covered | .faulted => quiet s

/-- READY_TIMER_EXPIRY (04 R66, R72). -/
def readyTimerExpiry (s : State) : Act := onExpiry s.dlc.ready (dockFault .power true) s

/-! ### Commands (04 R78, R81) -/

/-- DOCK_STEP (04 R78). -/
def dockStepCommand (st : DockStep) (s : State) : Status × Act :=
  if st = .release then
    if s.dlc.state.releasable then (.ok, (s, [.dlcRelease none])) else (.state, quiet s)
  else if s.dlc.busy then (.busy, quiet s)
  else if stepState st = some s.dlc.state then (.ok, (s, [.dlcBegin st]))
  else (.state, quiet s)

/-- PASSDOWN (04 R81, 06 R117). -/
def passdownCommand (bytes : List Byte) (s : State) : Status × Act :=
  if s.dlc.state = .active then
    if bytes.length + 4 ≤ s.fbf.passdownFree then
      (.ok, quiet { s with fbf := { s.fbf with passdown := s.fbf.passdown ++ [⟨.passdown, bytes⟩] } })
    else (.busy, quiet s)
  else (.state, quiet s)

/-! ### Power states (04 R83) -/

/-- DOCK_ATTENTION (04 R83): watched in STANDBY and SETTLE with a base in ACTIVE or QUIESCED. -/
def dockAttention (s : State) : Act :=
  if !s.awake ∧ (s.dlc.state = .active ∨ s.dlc.state = .quiesced) then (s, [.pscWake .dockAttention]) else quiet s

/-- Entering STANDBY: polling is suspended; a slot in progress stays open to its end, and its outcome counts (log 49). -/
def Dlc.stop (d : Dlc) : Dlc :=
  if d.state = .active ∨ d.state = .quiesced then { d with slotTimer := none } else d

/-- RUN from SETTLE: the next slot of ACTIVE or QUIESCED opens at once. -/
def dlcRestart (s : State) : State :=
  if s.dlc.state = .active ∨ s.dlc.state = .quiesced then
    if s.dlc.slot.isSome then { s with dlc := { s.dlc with slotTimer := some 0 } } else openNextSlot s
  else s

end Sys2Proof.Machine
end

