-- ==== Sys2Proof/Machine/Gate.lean ====
section
/-! DEFINITION. The Input Gate (05). -/

namespace Sys2Proof.Machine

/-! ### Judgement (05 5.2) -/

/-- The directory entry of the committed code (05 R90, R94). -/
def State.gateDir (s : State) : GateDir := s.igt.dir.getD s.pcl.code defaultDir

/-- An entry matches a frame: class and, for a key, its code range (05 R91). -/
def GateEntry.fits (e : GateEntry) (b : HoldBody) : Bool :=
  match b with
  | .press c => e.cls == .key && e.low ≤ c && c ≤ e.high
  | .point _ => e.cls == .point
  | .release _ _ => false

/-- The first matching entry of a set: its index (05 R91). -/
def findEntry (b : HoldBody) (entries : List GateEntry) : Nat → Nat → Option Nat
  | _, 0 => none
  | i, n + 1 =>
    match entries[i]? with
    | some e => if e.fits b then some i else findEntry b entries (i + 1) n
    | none => findEntry b entries (i + 1) n

def HoldBody.cls : HoldBody → GateClass
  | .press _ | .release _ _ => .key
  | .point _ => .point

def HoldBody.key : HoldBody → Option Nat
  | .press c | .release c _ => some c
  | .point _ => none

/-- A match: the hit count, and the one-shot note (05 R91). -/
def noteMatch (i : Nat) (e : GateEntry) (b : HoldBody) (s : State) : Act :=
  ({ s with
      igt := { s.igt with entries := s.igt.entries.set i { e with hits := min (e.hits + 1) 255, note := false } } },
    if e.note then [gateNoteReport s.pcl.code i b.cls b.key] else [])

/-- A judgement (05 R90, R91): the action, and what it leaves. -/
def judge (b : HoldBody) (s : State) : GateAction × Act :=
  let d := s.gateDir
  if d.present then
    match findEntry b s.igt.entries d.first d.count with
    | some i =>
      let e := s.igt.entries.getD i defaultEntry
      (e.action, noteMatch i e b s)
    | none => (d.action, quiet s)
  else if s.igt.missing then (.hold, quiet s)
  else (.hold, { s with igt := { s.igt with missing := true } }, [gateMissingReport s.pcl.code])

/-! ### Admission to the Input area (05 R94, R96) -/

inductive Admission where
  | refused
  | dropped (rollover : Bool)
  | entered
  deriving DecidableEq, Repr

/-- The test of 05 R94. -/
def admission (b : HoldBody) (s : State) : Admission :=
  let known := match b with
    | .press c => s.igt.keys.contains c
    | .release _ _ | .point _ => false
  let isPress := match b with
    | .press _ => true
    | .release _ _ | .point _ => false
  if !s.gateDir.present then .refused
  else if known then .dropped false
  else if isPress ∧ 16 ≤ s.igt.keys.length then .dropped true
  else if s.igt.pend ≠ [] ∨ s.fbf.inputFree < b.payload.length + 4 then .refused
  else .entered

/-- A press or touchpad frame enters the Input area (05 R94, R108). -/
def enterInput (b : HoldBody) (s : State) : State :=
  let s := (s.putInput b.stored).clearIdle
  match b with
  | .press c => { s with igt := { s.igt with keys := s.igt.keys ++ [c] } }
  | .release _ _ | .point _ => s

/-- A base release of a code in the set enters the Input area (05 R96, R108). -/
def enterRelease (code : Nat) (s : State) : State :=
  let s := (s.putInput (releaseFrame code)).clearIdle
  { s with igt := { s.igt with keys := s.igt.keys.erase code } }

/-- The pending releases are queued while at least 6 bytes are free (05 R96); an origin of BASE clears the idle timer (05 R108). -/
def queuePending : List Pending → State → State
  | [], s => s
  | p :: ps, s =>
    if 6 ≤ s.fbf.inputFree then
      let s := s.putInput (releaseFrame p.code)
      let s := if p.origin = .base then s.clearIdle else s
      queuePending ps { s with igt := { s.igt with keys := s.igt.keys.erase p.code, pend := ps } }
    else s

/-! ### The Hold area (05 5.4) -/

def State.setHold (s : State) (l : List HoldFrame) : State := { s with fbf := { s.fbf with hold := l } }

/-- An open press of a code: its mark, if the Hold area holds one (05 R89, R99). -/
def openPress (code : Nat) (l : List HoldFrame) : Option Bool :=
  l.foldl
    (fun acc f =>
      match f.body with
      | .press c => if c = code then some f.decided else acc
      | .release c true => if c = code then none else acc
      | .release _ false | .point _ => acc) none

/-- The frame is an unpaired decided release. -/
def HoldFrame.loneRelease (f : HoldFrame) : Bool :=
  match f.body with
  | .release _ paired => !paired
  | .press _ | .point _ => false

/-- The nearest release paired with a press of the code leaves with it (05 R99, log 23). -/
def dropPaired (code : Nat) : List HoldFrame → List HoldFrame
  | [] => []
  | f :: rest => if f.body = .release code true then rest else f :: dropPaired code rest

/-- That release loses its pairing and becomes an unpaired decided release (05 R99). -/
def unpair (code : Nat) : List HoldFrame → List HoldFrame
  | [] => []
  | f :: rest =>
    if f.body = .release code true then { f with body := .release code false, decided := true } :: rest
    else f :: unpair code rest

/-- What stays behind a frame that is discarded (05 R99). -/
def afterDiscard (b : HoldBody) (rest : List HoldFrame) : List HoldFrame :=
  match b with
  | .press c => dropPaired c rest
  | .release _ _ | .point _ => rest

/-- What stays behind a frame that enters the Input area (05 R99). -/
def afterEntry (b : HoldBody) (rest : List HoldFrame) : List HoldFrame :=
  match b with
  | .press c => unpair c rest
  | .release _ _ | .point _ => rest

/-- The oldest frame that is not an unpaired decided release is removed, with its paired release (05 R100, step 1). -/
def removeOldest : List HoldFrame → Option (HoldBody × List HoldFrame)
  | [] => none
  | f :: rest =>
    if f.loneRelease then
      match removeOldest rest with
      | some (b, r) => some (b, f :: r)
      | none => none
    else some (f.body, afterDiscard f.body rest)

/-- Displacement until a size fits or nothing may be removed (05 R100): the frames displaced, each with the number left after it, and the list that stays. -/
def displaceHold (len size : Nat) : Nat → List HoldFrame → List (HoldBody × Nat) × List HoldFrame
  | 0, l => ([], l)
  | n + 1, l =>
    if size ≤ len - holdOccupancy l then ([], l)
    else
      match removeOldest l with
      | none => ([], l)
      | some (b, l') =>
        let r := displaceHold len size n l'
        ((b, l'.length) :: r.1, r.2)

/-- The report and the flag of the first spill of a reason in an episode (05 R102). -/
def noteSpill (reason : SpillReason) (spills : List (HoldBody × Nat)) (s : State) : Act :=
  match spills with
  | [] => quiet s
  | (b, left) :: _ =>
    match reason with
    | .displaced =>
      if s.igt.displaced then quiet s
      else ({ s with igt := { s.igt with displaced := true } }, [holdSpillReport .displaced s.pcl.code b left])
    | .expired =>
      if s.igt.expired then quiet s
      else ({ s with igt := { s.igt with expired := true } }, [holdSpillReport .expired s.pcl.code b left])

/-- A frame is appended to the Hold area by its overflow rule (05 R100); a paired release whose press has been displaced is discarded. -/
def appendHold (body : HoldBody) (decided : Bool) (s : State) : Act :=
  let old := s.fbf.hold
  let f : HoldFrame := ⟨body, decided, s.ms⟩
  let r := displaceHold s.fbf.map.hold.len f.size old.length old
  let orphan := match body with
    | .release c true => (openPress c r.2).isNone
    | .release _ false | .press _ | .point _ => false
  let stored := !orphan && decide (f.size ≤ s.fbf.map.hold.len - holdOccupancy r.2)
  let l := if stored then r.2 ++ [f] else r.2
  let spills := if stored then r.1 else r.1 ++ [(body, l.length)]
  let headGone := match old with
    | [] => true
    | h :: _ => !h.loneRelease && !r.1.isEmpty
  (noteSpill .displaced spills (s.setHold l)).andThen (emit [.holdCheck headGone])

/-! ### Arrivals (05 R89, R92, R95) -/

/-- A press or touchpad frame whose outcome is "to Input" (05 R92, R94): offered, or behind the frames that wait. -/
def toInput (b : HoldBody) (s : State) : Act :=
  if s.fbf.hold = [] then
    match admission b s with
    | .entered => (enterInput b s, [.arbiter])
    | .dropped true => (s, [rolloverReport (b.key.getD 0) s.pcl.code])
    | .dropped false | .refused => quiet s
  else appendHold b true s

/-- The route of a judged frame (05 R92). -/
def routeJudged (a : GateAction) (b : HoldBody) (s : State) : Act :=
  match a with
  | .pass | .wake => toInput b s
  | .drop => quiet s
  | .hold => if s.fbf.map.hold.len = 0 then quiet s else appendHold b false s

/-- A frame is judged at its arrival and routed; a WAKE hands its wake request over at the judgement, before the frame is routed (05 R92, R93). -/
def judgeArrival (b : HoldBody) (s : State) : Act :=
  let j := judge b s
  match j.1 with
  | .wake => Act.andThen j.2 (emit [.wakeRequest .key, .gateRoute b])
  | .pass | .drop | .hold => Act.andThen j.2 (routeJudged j.1 b)

/-- The frame of a WAKE is routed after its wake request (05 R93); a request that has ended the base's delivery leaves no frame to route (log 20). -/
def gateRoute (b : HoldBody) (s : State) : Act := if s.dlc.state.delivers then routeJudged .wake b s else quiet s

/-- A KEY press arrives (05 R89). -/
def pressArrival (code : Nat) (s : State) : Act :=
  if s.igt.keys.contains code ∨ (openPress code s.fbf.hold).isSome then quiet s
  else if 16 ≤ s.igt.keys.length then (s, [rolloverReport code s.pcl.code])
  else judgeArrival (.press code) s

/-- A KEY release arrives (05 R95). -/
def releaseArrival (code : Nat) (s : State) : Act :=
  match openPress code s.fbf.hold with
  | some decided => appendHold (.release code true) decided s
  | none =>
    if s.igt.keys.contains code then
      if s.igt.pend.any (fun p => p.code == code) ∨
          s.fbf.hold.any (fun f => f.body == .release code false && f.decided) then quiet s
      else if s.fbf.hold ≠ [] then appendHold (.release code false) true s
      else if s.igt.pend = [] ∧ 6 ≤ s.fbf.inputFree then (enterRelease code s, [.arbiter])
      else quiet { s with igt := { s.igt with pend := s.igt.pend ++ [⟨code, .base⟩] } }
    else quiet s

/-- A KEY or POINT frame reaches the gate (05 5.2). -/
def gateArrival (ans : Answer) (s : State) : Act :=
  match ans with
  | .key code false => pressArrival code s
  | .key code true => releaseArrival code s
  | .point bs => judgeArrival (.point bs) s
  | .ident _ | .tilt _ _ _ | .stat _ _ | .nil => quiet s

/-! ### Head processing (05 R103 to R105) -/

/-- The procedure ends or stops. -/
def stopHead (s : State) : Act :=
  ({ s with igt := { s.igt with proc := none, head := .idle } }, [.holdCheck false])

/-- The procedure pauses for room; an undecided frame that has reached the head is tested for its age (05 R101). -/
def pauseHead (p : HeadProc) (s : State) : Act :=
  ({ s with igt := { s.igt with proc := none, head := if p = .rescan then .rescanPaused else .drainPaused } },
    [.holdCheck false])

/-- The head frame is admitted (05 R94, R99, R103): entered, discarded for rollover, or left where the directory test fails. -/
def admitHead (f : HoldFrame) (rest : List HoldFrame) (s : State) : Act :=
  match admission f.body s with
  | .entered => ((enterInput f.body s).setHold (afterEntry f.body rest), [.arbiter, .headStep])
  | .dropped roll =>
    (s.setHold (afterDiscard f.body rest),
      (if roll then [rolloverReport (f.body.key.getD 0) s.pcl.code] else []) ++ [.headStep])
  | .refused => stopHead s

/-- An undecided head is judged in a rescan (05 R103, step 3); a WAKE hands its wake request over before the frame is admitted (05 R93). -/
def judgeHead (f : HoldFrame) (rest : List HoldFrame) (s : State) : Act :=
  let j := judge f.body s
  match j.1 with
  | .hold => Act.andThen j.2 stopHead
  | .drop => Act.andThen j.2 fun s => (s.setHold (afterDiscard f.body rest), [.headStep])
  | .pass => Act.andThen j.2 (admitHead f rest)
  | .wake => Act.andThen j.2 (emit [.wakeRequest .key, .headAdmit])

/-- The head frame of a WAKE is admitted after its wake request, unless the request has ended the procedure (05 R93, log 20). -/
def headAdmit (s : State) : Act :=
  match s.igt.proc, s.fbf.hold with
  | some _, f :: rest => admitHead f rest s
  | some _, [] | none, _ => quiet s

/-- One step of head processing (05 R103). -/
def headStep (s : State) : Act :=
  match s.igt.proc with
  | none => quiet s
  | some p =>
    match s.fbf.hold with
    | [] => stopHead s
    | f :: rest =>
      if s.igt.pend ≠ [] ∨ s.fbf.inputFree < f.size then pauseHead p s
      else if f.decided then
        match f.body with
        | .release c _ =>
          if s.igt.keys.contains c then ((enterRelease c s).setHold rest, [.arbiter, .headStep])
          else (s.setHold rest, [.headStep])
        | .press _ | .point _ => admitHead f rest s
      else if p = .drain then stopHead s
      else judgeHead f rest s

/-- A procedure starts or takes the place of a paused one (05 R104, R105). -/
def startHead (p : HeadProc) (s : State) : Act :=
  ({ s with igt := { s.igt with proc := some p, head := .idle } }, [.headStep])

/-- The head is discarded for its age, with its paired release (05 R101). -/
def expireHead (f : HoldFrame) (rest : List HoldFrame) (s : State) : Act :=
  let l := afterDiscard f.body rest
  (noteSpill .expired [(f.body, l.length)] (s.setHold l)).andThen (emit [.holdCheck true])

/-- What follows a change of the Hold area: the end of the episode, the expiry of an undecided head past its limit, a drain when a decided frame has become the head (05 R98, R101, R105). A paused procedure stays paused (05 R101, R104). -/
def holdCheck (headChanged : Bool) (s : State) : Act :=
  match s.fbf.hold with
  | [] => quiet { s with igt := { s.igt with displaced := false, expired := false } }
  | f :: rest =>
    if f.decided then
      if headChanged ∧ s.igt.head = .idle ∧ s.igt.proc.isNone then startHead .drain s else quiet s
    else if s.par.gateHold ≤ since s.ms f.stamp ∧ s.igt.proc.isNone then expireHead f rest s
    else quiet s

/-- HOLD_EXPIRY (05 R101): the undecided head reaches its hold limit. -/
def holdExpiry (s : State) : Act :=
  match s.fbf.hold with
  | [] => quiet s
  | f :: rest =>
    if f.decided then quiet s else expireHead f rest (elapse (s.par.gateHold - since s.ms f.stamp) s)

/-- Space has appeared in the Input area (05 R96, R105): pending releases, then a paused procedure. -/
def spaceEvent (s : State) : Act :=
  let s := queuePending s.igt.pend s
  if s.igt.pend = [] then
    match s.igt.head with
    | .idle => (s, [.arbiter])
    | .rescanPaused => Act.andThen (s, [.arbiter]) (startHead .rescan)
    | .drainPaused => Act.andThen (s, [.arbiter]) (startHead .drain)
  else (s, [.arbiter])

/-! ### Synthesis, commits, departures (05 R97, R104, R107) -/

/-- Every entry without a mark is marked SYNTH, in set order (05 R97, step 1). -/
def Igt.markAll (g : Igt) : Igt :=
  { g with
    pend := g.pend ++ ((g.keys.filter fun c => !g.pend.any fun p => p.code == c).map fun c => ⟨c, .synth⟩) }

/-- The synthesis of 05 R97. -/
def synthesize (s : State) : State :=
  let s := { s with igt := s.igt.markAll }
  let s := s.setHold (s.fbf.hold.filter fun f => !(f.loneRelease && f.decided))
  queuePending s.igt.pend s

/-- The commit signal (05 R90, R97, R104). -/
def gateCommit (code : Nat) (s : State) : Act :=
  let d := s.igt.dir.getD code defaultDir
  let gone := match s.fbf.hold with
    | [] => false
    | f :: _ => f.loneRelease && f.decided
  let s := { s with igt := { s.igt with missing := false } }
  let a : Act := if d.releaseOnEntry then (synthesize s, [.arbiter]) else quiet s
  if d.present then a.andThen (startHead .rescan)
  else a.andThen (emit (if d.releaseOnEntry then [.holdCheck gone] else []))

/-- The dock has left ACTIVE, QUIESCED and WAKING (05 R97, R107). -/
def gateDeparture (s : State) : Act :=
  let s := { s with igt := s.igt.markAll }
  let s := s.setHold []
  let s := { s with igt := { s.igt with head := .idle, proc := none, displaced := false, expired := false } }
  (queuePending s.igt.pend s, [.arbiter])

/-- GATE_RESCAN (05 R104). -/
def gateRescan (s : State) : Act := startHead .rescan { s with igt := { s.igt with missing := false } }

/-- The Hold area keeps only the frames of a test; one that is left empty has no paused procedure. A decided head that is left drains in IDLE, also where a drain had stopped at it before (05 R106 over R105, log 58). -/
def flushHold (keep : HoldFrame → Bool) (s : State) : Act :=
  let l := s.fbf.hold.filter keep
  let s := s.setHold l
  (if l = [] then { s with igt := { s.igt with head := .idle } } else s, [.holdCheck true])

/-- GATE_FLUSH (05 R106). -/
def gateFlush (s : State) : Act := flushHold HoldFrame.decided s

/-- AREA_CLEAR of the Hold area (05 R106, 06 R122): the unpaired decided releases stay, and drain after the discard (log 58). -/
def clearHold (s : State) : Act := flushHold (fun f => f.loneRelease && f.decided) s

/-- IDLE_TIMER_INCREMENT (05 R108): the second is completed; a saturated timer hands nothing over. -/
def idleIncrement (s : State) : Act :=
  let s := elapse s.igt.idleLeft s
  let s := { s with igt := { s.igt with idleLeft := 1000 } }
  if s.igt.idle < 65535 then
    ({ s with igt := { s.igt with idle := s.igt.idle + 1 } }, [.spuEval .other])
  else quiet s

end Sys2Proof.Machine
end

