-- ==== Sys2Proof/Machine/Supply.lean ====
section
/-! DEFINITION. The Supply Budget Unit (07). -/

namespace Sys2Proof.Machine

/-- The derated phase current (07 R130, stage 2). -/
def derated (p : Params) (t : Int) (i : Nat) : Nat :=
  if t ≤ p.tKnee then i
  else if p.tCut ≤ t then 0
  else i * (p.tCut - t).toNat / (p.tCut - p.tKnee)

/-- Stages 1 to 5 of 07 R130, with the room as given. -/
def penCandidate (room : Nat) (s : State) : Nat :=
  let base := min s.sbu.iPhase (min room (derated s.par s.sbu.temp s.sbu.iPhase))
  let warned := if s.sbu.railState = .warn then base / 2 else base
  if s.sbu.railState = .shed ∨ !s.awake ∨ !s.pcc.phase.charging then 0 else warned

/-- The pen setpoint (07 R130, stage 6). -/
def penSetpoint (room : Nat) (s : State) : Nat :=
  if penCandidate room s < s.par.iMin then 0 else penCandidate room s

/-- The setpoint and the pause decision are applied and handed to the PCC (07 R131, 08 R149); `told` raises PAUSED or RESUMED for a change of the decision. -/
def applyPen (told : Bool) (v : Nat) (s : State) : Act :=
  let pause := v = 0 && s.pcc.phase.charging
  let changed := pause != s.sbu.pause
  let pcc := { s.pcc with penSet := v, paused := if changed then pause else s.pcc.paused }
  ({ s with sbu := { s.sbu with penSet := v, pause := pause }, pcc := pcc },
    if told && changed then [chargeReport (if pause then .paused else .resumed) pcc (pcc.timer / 1000)] else [])

/-- A recomputation with the applied grant (07 R131). -/
def recompute (told : Bool) (s : State) : Act :=
  applyPen told (penSetpoint (s.par.bTotal - s.sbu.grant) s) s

/-- One event of the SBU: its effects, then at most one BUDGET report that names every cause the event produced (07 R135). -/
def budgetEvent (f : State → Act) (s : State) : Act :=
  let a := f s
  let grant := a.1.sbu.grant != s.sbu.grant
  let rail := a.1.sbu.railState != s.sbu.railState
  let pen := (a.1.sbu.penSet == 0) != (s.sbu.penSet == 0)
  (a.1, a.2 ++ if grant || rail || pen then [budgetReport grant rail pen a.1.par.bTotal a.1.sbu] else [])

/-! ### The dock grant (07 R129) -/

/-- A rising level: the pen is lowered to the room it leaves, then the level is applied; the DLC is told whether the grant has changed. -/
def raiseGrant (level : Nat) (capped : Bool) (s : State) : Act :=
  (applyPen true (penSetpoint (s.par.bTotal - level) s) s).andThen fun s =>
    ({ s with sbu := { s.sbu with grant := level, pending := false, capped := capped } },
      [.grantApplied (level != s.sbu.grant)])

/-- A falling level: it is applied, then the pen takes the room. -/
def lowerGrant (level : Nat) (capped : Bool) (s : State) : Act :=
  (recompute true { s with sbu := { s.sbu with grant := level, pending := false, capped := capped } }).andThen fun s =>
    (s, [.grantApplied true])

/-- The request that stands is compared with the grant and applied (07 R129): a level above B_total is applied as B_total. -/
def applyRequest (s : State) : Act :=
  let level := min s.sbu.requested s.par.bTotal
  let capped : Bool := s.par.bTotal < s.sbu.requested
  if s.sbu.requested = s.sbu.grant then ({ s with sbu := { s.sbu with pending := false } }, [.grantApplied false])
  else if s.sbu.requested < s.sbu.grant then lowerGrant level capped s
  else if s.sbu.railState = .shed then quiet { s with sbu := { s.sbu with pending := true } }
  else raiseGrant level capped s

/-- The DLC asks for a level (07 R129). -/
def dockRequest (level : Nat) (s : State) : Act :=
  budgetEvent applyRequest { s with sbu := { s.sbu with requested := level } }

/-- PENDING_GRANT_APPLY (07 R129): a pending request, with the rail out of SHED. -/
def pendingGrantApply (s : State) : Act :=
  if s.sbu.pending ∧ s.sbu.railState ≠ .shed then budgetEvent applyRequest s else quiet s

/-! ### Readings -/

/-- The rail state after a reading (07 R132). -/
def RailState.next (p : Params) (v : Nat) : RailState → RailState
  | .normal => if v < p.shedLevel then .shed else if v < p.warnLevel then .warn else .normal
  | .warn =>
    if v < p.shedLevel then .shed
    else if v < p.warnLevel then .warn
    else if v < p.warnLevel + 50 then .warn
    else .normal
  | .shed =>
    if v < p.shedLevel then .shed
    else if v < p.warnLevel then if v < p.shedLevel + 50 then .shed else .warn
    else .warn

/-- The shed timer after a reading (07 R133). -/
def shedTimerNext (p : Params) (v : Nat) (st : RailState) (t : Timer) : Timer :=
  if st = .shed ∧ v < p.shedLevel then some (t.getD 10) else none

/-- The interval to the next rail reading (07 R126). -/
def railInterval (s : State) : Timer :=
  if s.awake then some 1 else if s.par.dockLines = 0 then some 100 else none

/-- What a rail reading does to the record and the setpoint (07 R126, R132, R133). -/
def moveRail (v : Nat) (s : State) : Act :=
  let st := s.sbu.railState.next s.par v
  let left := s.sbu.railState = .shed && st != .shed
  let changed := st != s.sbu.railState
  let s :=
    { s with
      sbu := { s.sbu with rail := v, railState := st, shed := shedTimerNext s.par v st s.sbu.shed } }
  if changed then
    (if left && s.sbu.pending then applyRequest s else quiet s).andThen (recompute true)
  else quiet s

/-- A rail reading event (07 R126). -/
def takeRail (mv : Int) (s : State) : Act :=
  budgetEvent (moveRail (max 0 (min 6000 mv)).toNat)
    { s with sbu := { s.sbu with railTimer := railInterval s } }

/-- RAIL_READING (07 R126). -/
def railReading (mv : Int) (s : State) : Act := onExpiry s.sbu.railTimer (takeRail mv) s

/-- A temperature reading event (07 R127). -/
def takeTemperature (t : Int) (s : State) : Act :=
  let v := max (-40) (min 125 t)
  let changed := v != s.sbu.temp
  let s := { s with sbu := { s.sbu with temp := v, tempTimer := some 100 } }
  (if changed then budgetEvent (recompute true) s else quiet s).andThen fun s => (s, [.spuEval .other])

/-- TEMPERATURE_READING (07 R127): in RUN and DOZE only. -/
def temperatureReading (t : Int) (s : State) : Act := onExpiry s.sbu.tempTimer (takeTemperature t) s

/-- The revocation (07 R133): the record, the switch, the pen, the DLC; a grant that changes clears the overdraw run (04 R69). -/
def revokeGrant (s : State) : Act :=
  (recompute true
    { s with
      sbu := { s.sbu with requested := 0, grant := 0, pending := false, capped := false, shed := none }
      dlc := { s.dlc with basePower := false, overdraw := if s.sbu.grant = 0 then s.dlc.overdraw else 0 } }).andThen
    fun s => (s, [.dlcRevoked])

/-- SHED_TIMER_EXPIRY (07 R133). -/
def shedTimerExpiry (s : State) : Act := onExpiry s.sbu.shed (budgetEvent revokeGrant) s

/-! ### Power states (07 R126, R127, R136) -/

/-- A change of power state recomputes the setpoint (07 R131). -/
def sbuPowerChange (s : State) : Act := budgetEvent (recompute true) s

/-- Entering STANDBY: no temperature readings; no rail readings under dock lines RELEASE (log 40). -/
def Sbu.stop (lines : Nat) (b : Sbu) : Sbu :=
  { b with tempTimer := none, railTimer := if lines = 0 then b.railTimer else none }

/-- RUN from SETTLE: the setpoint, then fresh readings at once (07 R126, R127, R136), the rail before the temperature (log 59). -/
def sbuRestart (rail temp : Int) (s : State) : Act :=
  ((sbuPowerChange s).andThen (takeRail rail)).andThen (takeTemperature temp)

end Sys2Proof.Machine
end

