-- ==== Sys2Proof/Machine/Charge.lean ====
section
/-! DEFINITION. The Pen Charge Controller (08). -/

namespace Sys2Proof.Machine

/-- The current that a phase asks for (07 7.4, 08 R147). -/
def phaseCurrent (p : Profile) : Phase → Nat
  | .precharge => p.iPre
  | .bulk | .topup => p.iBulk
  | .none | .idleDocked | .probe | .done | .resting | .fault => 0

/-- The time limit of a charging phase in minutes (08 R150). -/
def Profile.limit (p : Profile) : Phase → Nat
  | .precharge => p.preLimit
  | .bulk => p.bulkLimit
  | .topup => p.topLimit
  | .none | .idleDocked | .probe | .done | .resting | .fault => 0

/-- The cycle count after an entry (08 R147, stage 1). -/
def cyclesAfter (old new : Phase) (n : Nat) : Nat :=
  match old, new with
  | .probe, .precharge | .probe, .bulk => 1
  | .resting, .bulk => min (n + 1) 255
  | _, _ => n

/-- The event of an entry's report (08 R147, stage 4). -/
def entryEvent : Phase → ChargeEvent
  | .probe => .sessionStart
  | .done => .done
  | .fault => .fault
  | .none | .idleDocked | .precharge | .bulk | .topup | .resting => .phase

/-- The record at an entry (08 R147, stage 1); entering PROBE is the start of a session, whose timer runs in RUN and DOZE (08 R145). -/
def Pcc.entered (new : Phase) (cause : Option ChargeCause) (awake : Bool) (p : Pcc) : Pcc :=
  let q := { p with prev := p.phase, phase := new, timer := 0, term := none }
  if new = .probe then
    { q with vCell := none, iMeas := none, cause := none, cycles := 0, measTimer := if awake then some 100 else none }
  else { q with cause := cause, cycles := cyclesAfter p.phase new p.cycles }

/-- A new phase current is handed to the SBU, whose pause decision raises PAUSED or RESUMED only when `told` (07 R131, 08 R147, R149). -/
def handCurrent (told : Bool) (i : Nat) (s : State) : Act :=
  budgetEvent (fun s => recompute told { s with sbu := { s.sbu with iPhase := i } }) s

/-- Each entry into a phase (08 R147): record, phase current, PSC, report with a phase time of `seconds`. -/
def enterPhase (new : Phase) (cause : Option ChargeCause) (seconds : Nat) (s : State) : Act :=
  let s := { s with pcc := s.pcc.entered new cause s.awake }
  (handCurrent false (phaseCurrent s.pcc.profile new) s).andThen fun s =>
    (s, [.pscDeferred, chargeReport (entryEvent new) s.pcc seconds])

/-- A session starts (08 R140, R143, R147). -/
def startSession (s : State) : Act := enterPhase .probe none 0 s

/-- FAULT (08 R151): the phase time of a timeout is the limit reached (08 R154). -/
def enterFault (c : ChargeCause) (seconds : Nat) (s : State) : Act := enterPhase .fault (some c) seconds s

/-- The record when a session or a stay ends (08 R142, R144). -/
def Pcc.ended (new : Phase) (p : Pcc) : Pcc :=
  { p with
    phase := new
    prev := p.phase
    paused := false
    timer := 0
    vCell := none
    iMeas := none
    term := none
    cause := none
    cycles := 0
    measTimer := none }

/-- GARAGE asserted (08 R140). -/
def penInserted (s : State) : Act :=
  if s.pcc.phase = .none then
    let a : Act :=
      if s.par.autoCharge = 0 then
        let s := { s with pcc := { s.pcc with prev := .none, phase := .idleDocked } }
        (s, [.pscDeferred, chargeReport .inserted s.pcc 0])
      else startSession s
    a.andThen fun s => (s, [.spuEval .other])
  else quiet s

/-- GARAGE deasserted (08 R142). -/
def penRemoved (s : State) : Act :=
  if s.pcc.phase = .none then quiet s
  else
    (handCurrent false 0 { s with pcc := s.pcc.ended .none }).andThen fun s =>
      (s, [.spuEval .other, .pscDeferred, chargeReport .removed s.pcc 0])

/-- CHARGE_CONTROL START (08 R143). -/
def chargeStart (s : State) : Status × Act :=
  match s.pcc.phase with
  | .none => (.state, quiet s)
  | .idleDocked | .fault => (.ok, startSession s)
  | .probe | .precharge | .bulk | .topup | .done | .resting => (.busy, quiet s)

/-- CHARGE_CONTROL STOP (08 R144). -/
def chargeStop (s : State) : Status × Act :=
  match s.pcc.phase with
  | .none => (.state, quiet s)
  | .idleDocked => (.ok, quiet s)
  | .probe | .precharge | .bulk | .topup | .done | .resting | .fault =>
    (.ok, (handCurrent false 0 { s with pcc := s.pcc.ended .idleDocked }).andThen fun s =>
      (s, [.pscDeferred, chargeReport .stopped s.pcc 0]))

/-- The termination dwell of a measurement in TOPUP (08 R148). -/
def termNext (penSet iMeas iTerm : Nat) (t : Option Nat) : Option Nat :=
  if 0 < penSet ∧ iMeas ≤ iTerm then some (match t with
    | none => 0
    | some e => e + 100)
  else none

/-- The next phase of the phase test (08 R146, stage 3), none for no change; TOPUP is judged by its dwell. -/
def phaseTest (p : Profile) (v : Nat) (term : Option Nat) : Phase → Option Phase
  | .probe => some (if v < p.vPreExit then .precharge else if p.vFull ≤ v then .resting else .bulk)
  | .precharge => if p.vPreExit ≤ v then some .bulk else none
  | .bulk => if p.vReg ≤ v then some .topup else none
  | .topup =>
    match term with
    | some e => if 10000 ≤ e then some .done else none
    | none => none
  | .done => some .resting
  | .resting => if v < p.vRecharge then some .bulk else none
  | .none | .idleDocked | .fault => none

/-- A measurement is stored and tested (08 R145, R146, R148). -/
def takeMeasurement (mv ma : Int) (s : State) : Act :=
  let v := (max 0 (min 6000 mv)).toNat
  let i := (max 0 (min 500 ma)).toNat
  let s := { s with pcc := { s.pcc with vCell := some v, iMeas := some i, measTimer := some 100 } }
  if s.pcc.profile.vReg + 100 < v ∧ s.pcc.phase ≠ .fault then enterFault .cell 0 s
  else
    let term := if s.pcc.phase = .topup then termNext s.pcc.penSet i s.pcc.profile.iTerm s.pcc.term else s.pcc.term
    let s := { s with pcc := { s.pcc with term := term } }
    match phaseTest s.pcc.profile v term s.pcc.phase with
    | some next => enterPhase next none 0 s
    | none => quiet s

/-- MEASUREMENT_EVENT (08 R145). -/
def measurementEvent (mv ma : Int) (s : State) : Act := onExpiry s.pcc.measTimer (takeMeasurement mv ma) s

def timeoutCause : Phase → ChargeCause
  | .precharge => .prechargeTimeout
  | .bulk => .bulkTimeout
  | _ => .topupTimeout

/-- The time limit is reached (08 R150). -/
def limitReached (s : State) : Act :=
  enterFault (timeoutCause s.pcc.phase) (s.pcc.profile.limit s.pcc.phase * 60) s

/-- PHASE_LIMIT_EXPIRY (08 R150): the phase timer runs to its limit; while it does not run there is no expiry. -/
def phaseLimitExpiry (s : State) : Act :=
  if s.pcc.phase.charging ∧ 0 < s.pcc.penSet then
    limitReached (elapse (s.pcc.profile.limit s.pcc.phase * 60000 - s.pcc.timer) s)
  else quiet s

/-- After a profile write: the expiry is taken if the timer stands at or above the new limit (08 R153). -/
def limitAfterWrite (s : State) : Act :=
  if s.pcc.phase.charging ∧ s.pcc.profile.limit s.pcc.phase * 60000 ≤ s.pcc.timer then limitReached s else quiet s

/-- The checks of a profile write (08 R152). -/
def Profile.valid (p : Profile) : Bool :=
  2500 ≤ p.vPreExit && p.vPreExit ≤ 4400 && 3000 ≤ p.vFull && p.vFull ≤ 4400 && 3500 ≤ p.vReg && p.vReg ≤ 4400 &&
    3000 ≤ p.vRecharge && p.vRecharge ≤ 4400 && p.iPre ≤ 300 && p.iBulk ≤ 300 && p.iTerm ≤ 300 &&
    1 ≤ p.preLimit && p.preLimit ≤ 255 && 1 ≤ p.bulkLimit && p.bulkLimit ≤ 255 && 1 ≤ p.topLimit &&
    p.topLimit ≤ 255 && p.vRecharge < p.vFull && p.vFull < p.vReg && p.vPreExit < p.vReg && p.iTerm < p.iBulk

/-- An accepted profile write (08 R153): the profile, and a changed current of the present charging phase. -/
def storeProfile (p : Profile) (s : State) : Act :=
  let old := phaseCurrent s.pcc.profile s.pcc.phase
  let s := { s with pcc := { s.pcc with profile := p } }
  if phaseCurrent p s.pcc.phase = old then quiet s else handCurrent true (phaseCurrent p s.pcc.phase) s

/-- Entering STANDBY (08 R145). -/
def Pcc.stop (p : Pcc) : Pcc := { p with measTimer := none }

/-- RUN from SETTLE: with a session, a measurement at once (08 R145). -/
def pccRestart (mv ma : Int) (s : State) : Act :=
  if s.pcc.phase.session then takeMeasurement mv ma s else quiet s

/-- The pen condition, IN_GARAGE or not (08 R141). -/
def Pcc.inGarage (p : Pcc) : Bool := p.phase != .none

end Sys2Proof.Machine
end

