-- ==== Sys2Proof/Machine/Status.lean ====
section
/-! DEFINITION. STATUS_READ (11 R196): the fields of each block, in the order that its chapter gives, and the pages. A stream is a list of fields or list elements, which no page cuts. -/

namespace Sys2Proof.Machine

/-- The elements of a list; the count stands with the first (log 16). -/
def listStream {α : Type} (f : α → List Byte) (l : List α) : List (List Byte) :=
  match l with
  | [] => [[0]]
  | a :: rest => (byte l.length :: f a) :: rest.map f

def vecField (v : Vec) : List Byte := int2 v.x ++ int2 v.y ++ int2 v.z

/-- SIB (11 R196): for each input, debounced state and debounce run. -/
def sibStream (s : State) : List (List Byte) :=
  [s.sib.lid, s.sib.fold, s.sib.garage, s.sib.presence].flatMap fun x =>
    [switchStateField x.asserted, timerField x.run]

/-- HAU (11 R196): hinge record, base vector condition and age (an optional number of 4 bytes, log 66), smoothed vectors, last reported angle, mirror counter. -/
def hauStream (s : State) : List (List Byte) :=
  let h := s.hau
  [optField num2 h.hinge.angle, num1 h.hinge.quality.code, num1 h.hinge.holds, num1 h.cond.code,
    optField num4 (if h.cond = .fresh ∨ h.cond = .stale then some h.age else none),
    optField vecField h.lid, optField vecField h.base, optField num2 h.lastReported, num1 h.mirrorCount]

/-- ORU (02 2.1, R35). -/
def oruStream (s : State) : List (List Byte) :=
  let o := s.oru
  [num1 o.committed.code, optField (fun c => num1 (Orient.code c)) o.candidate, timerField o.dwell, flagField o.lock,
    flagField o.flat, optField num2 o.angle]

/-- PCL (03 R56). -/
def pclStream (s : State) : List (List Byte) :=
  let p := s.pcl
  [num1 p.code, optField num1 p.row, num4 p.stamp.toNat, optField num1 p.cand, optField num1 p.candRow,
    timerField p.dwell, timerField p.restart, num1 p.cond.code]

/-- DLC (04 R84). -/
def dlcStream (s : State) : List (List Byte) :=
  let d := s.dlc
  [num1 d.state.code, flagField d.recov, num1 (stepInFlightCode d.step),
    num1 (match d.walk with
      | some w => w.target.code
      | none => 0),
    optField (fun o => num1 (Origin.code o)) d.origin,
    num1 (match d.powerReq with
      | some q => q.code
      | none => 0),
    timerField d.settle, timerField d.ready, num1 d.attempts] ++
  listStream (fun o => num1 (Outcome.code o)) d.outcomes ++
  [num1 d.missed, num1 d.overdraw, optField (fun c => num1 (DockCause.faultCode c)) d.cause,
    optField (baseRecordFields s.sbu.grant) d.base, num2 s.sbu.grant, num1 s.par.attachPolicy]

/-- One entry of the keys-down set (05 R109): code, mark, and, as optional fields that an entry without a mark lacks (log 57), origin and pending position, counted from 0 (log 50). -/
def keyField (g : Igt) (code : Nat) : List Byte :=
  let p := g.pend.find? fun p => p.code == code
  num1 code ++ flagField p.isSome ++ optField (fun p => num1 (PendOrigin.code (Pending.origin p))) p ++
    optField num1 (if p.isSome then some (g.pend.findIdx fun p => p.code == code) else none)

/-- IGT (05 R109); the hold stamp of the head is an optional field (log 57). -/
def igtStream (s : State) : List (List Byte) :=
  let g := s.igt
  listStream (keyField g) g.keys ++
  [num2 s.fbf.hold.length, num2 (holdOccupancy s.fbf.hold), num2 (s.fbf.hold.countP fun f => !f.decided),
    optField (fun f => num4 (HoldFrame.stamp f).toNat) s.fbf.hold.head?, num1 g.head.code, flagField g.missing,
    flagField g.displaced, flagField g.expired, num2 g.idle]

/-- The map in the layout of AREA_MAP (11 R203). -/
def mapFields (m : AreaMap) : List Byte :=
  [m.input, m.hold, m.report, m.passdown, m.mirror].flatMap fun a => num2 a.start ++ num2 a.len

/-- The use of an area (06 R124): number of frames, in 2 bytes for every area (log 51), occupancy, free space. -/
def areaUse (count occ free : Nat) : List (List Byte) := [num2 count, num2 occ, num2 free]

/-- FBF (06 R124). -/
def fbfStream (s : State) : List (List Byte) :=
  let f := s.fbf
  ([f.map.input, f.map.hold, f.map.report, f.map.passdown, f.map.mirror].flatMap fun a =>
    [num2 a.start, num2 a.len]) ++
  areaUse f.input.length (occupancy f.input) f.inputFree ++
  areaUse f.hold.length (holdOccupancy f.hold) f.holdFree ++
  areaUse f.report.length (occupancy f.report) f.reportFree ++
  areaUse f.passdown.length (occupancy f.passdown) f.passdownFree ++
  areaUse f.mirror.length (occupancy f.mirror) f.mirrorFree

/-- SBU (07 R137). -/
def sbuStream (s : State) : List (List Byte) :=
  let b := s.sbu
  [num2 s.par.bTotal, num2 b.requested, num2 b.grant, flagField b.pending, flagField b.capped, num2 b.iPhase,
    num2 b.penSet, flagField b.pause, num2 b.rail, int1 b.temp, num1 b.railState.code, timerField b.shed]

/-- PCC (08 R155): the termination dwell has the timer's form and carries its elapsed time, the phase timer is a number (log 52); the time that remains to the phase limit is an optional number of 4 bytes (log 60); the pen condition is 1 for IN_GARAGE and 0 for OUT (log 53). -/
def pccStream (s : State) : List (List Byte) :=
  let p := s.pcc
  [num1 p.phase.code, num1 p.prev.code, flagField p.paused, num2 p.penSet, num4 p.timer, optField num2 p.vCell,
    optField num2 p.iMeas, timerField p.term, optField (fun c => num1 (ChargeCause.code c)) p.cause, num1 p.cycles,
    num2 s.sbu.iPhase,
    optField num4 (if p.phase.charging then some (p.profile.limit p.phase * 60000 - p.timer) else none),
    timerField p.measTimer, flagField p.inGarage, num1 s.par.autoCharge]

/-- SPU (09 R174); the wake timer shows whole seconds (log 43); the state before waking has the code of the host state (log 62); the unlock window is an optional number of 4 bytes (log 63). -/
def spuStream (s : State) : List (List Byte) :=
  let p := s.spu
  [num1 p.host.code, optField (fun h => num1 (HostState.code h)) p.before, optField num1 p.governing,
    timerField p.dwell, flagField p.fired, optField num1 p.advising, timerField p.compliance, num1 p.stage,
    num1 p.cutStage.code, timerField p.cutTimer, optField wakeSourceField p.pendingWake,
    timerField (p.wakeTimer.map (· / 1000)), optField wakeSourceField p.wakeSrc, num1 p.forceMode.code,
    optField (fun u => num4 (Unlock.time u).toNat) p.unlock, flagField p.wakeReq, flagField p.pwrCut]

/-- PSC (10 R186). -/
def pscStream (s : State) : List (List Byte) :=
  let p := s.psc
  [num1 p.power.code, timerField p.doze, timerField p.standby, flagField p.deferred, timerField p.settle,
    optField (fun c => num1 (PowerSource.code c)) p.wakeCause] ++
  listStream (fun c => num1 (PowerSource.code c)) p.latched ++
  [num1 s.par.dozeDelay, num1 s.par.wakeSettle, num1 s.par.dockFollows, num1 s.par.dockLines, num1 s.par.wakeMask]

/-- A set of up to 24 members in 3 bytes. -/
def maskField (m : BitVec 21) : List Byte := [byte m.toNat, byte (m.toNat / 256), byte (m.toNat / 65536)]

/-- ULP (11 R201). -/
def ulpStream (s : State) : List (List Byte) :=
  let u := s.ulp
  [num1 u.queue.length, num1 u.overruns.length, flagField u.slot.isSome, flagField u.line.isSome, num1 u.alt.code,
    maskField u.mask, num1 u.lost] ++
  (u.platform ++ u.driver).map (fun w => num1 (Access.code w)) ++
  [flagField u.freeze, num1 u.cause.code, flagField u.retained]

/-- The stream of a block, in the order of the block overview (11 R196). -/
def blockStream (s : State) : Nat → List (List Byte)
  | 0 => sibStream s
  | 1 => hauStream s
  | 2 => oruStream s
  | 3 => pclStream s
  | 4 => dlcStream s
  | 5 => igtStream s
  | 6 => fbfStream s
  | 7 => sbuStream s
  | 8 => pccStream s
  | 9 => spuStream s
  | 10 => pscStream s
  | _ => ulpStream s

/-- Pages of at most 55 bytes, filled in order (11 R196, log 16). -/
def paginate : List Byte → List (List Byte) → List (List Byte)
  | cur, [] => [cur]
  | cur, a :: rest =>
    if cur.length + a.length ≤ 55 then paginate (cur ++ a) rest else cur :: paginate a rest

/-- STATUS_READ: block, page, number of pages, the page's bytes; none for RANGE (11 R190, R196). -/
def statusRead (block page : Nat) (s : State) : Option (List Byte) :=
  if block ≤ 11 then
    let pages := paginate [] (blockStream s block)
    (pages[page]?).map fun bs => num1 block ++ num1 page ++ num1 pages.length ++ bs
  else none

end Sys2Proof.Machine
end

