-- ==== Sys2Proof/Machine/Areas.lean ====
section
/-! DEFINITION. The Frame Buffer's commands: AREA_MAP, AREA_CLEAR, AREA_PEEK (06 R120 to R123). -/

namespace Sys2Proof.Machine

/-! ### AREA_MAP -/

/-- The map that ten words spell: start and length for Input, Hold, Report, Passdown, Mirror (11 R203). -/
def mapOfWords (w : List Nat) : AreaMap :=
  let a : Nat → Area := fun i => ⟨w.getD (2 * i) 0, w.getD (2 * i + 1) 0⟩
  ⟨a 0, a 1, a 2, a 3, a 4⟩

/-- Adjustment: a Hold length of 16..80 is raised to 96 (06 R120). -/
def adjustMap (m : AreaMap) : AreaMap :=
  if 16 ≤ m.hold.len ∧ m.hold.len ≤ 80 then { m with hold := { m.hold with len := 96 } } else m

def AreaMap.areas (m : AreaMap) : List Area := [m.input, m.hold, m.report, m.passdown, m.mirror]

/-- One area's own bounds (06 R112, R120). -/
def Area.ok (a : Area) : Bool :=
  a.start % 16 == 0 && a.len % 16 == 0 && a.start ≤ 4080 && a.start + a.len ≤ 4096

/-- Two areas share no byte (06 R120). -/
def Area.apart (a b : Area) : Bool := a.len == 0 || b.len == 0 || a.start + a.len ≤ b.start || b.start + b.len ≤ a.start

/-- Validation (06 R120). -/
def AreaMap.valid (m : AreaMap) : Bool :=
  m.areas.all Area.ok && decide (m.areas.Pairwise fun a b => a.apart b = true) &&
    decide ((m.areas.map Area.len).sum ≤ 4096)

/-- The dock states in which the map does not change (06 R120). -/
def DockState.mapLocked : DockState → Bool
  | .powering | .active | .quiesced | .waking => true
  | .absent | .settling | .present | .identifying | .identified | .covered | .faulted => false

/-- A new map is stored, and every area that it changes is emptied (06 R121). -/
def storeMap (m : AreaMap) (s : State) : Act :=
  let f := s.fbf
  let old := f.map
  let keep {α : Type} (a b : Area) (l : List α) : List α := if a = b then l else []
  let f' : Fbf :=
    { map := m
      input := keep old.input m.input f.input
      hold := keep old.hold m.hold f.hold
      report := keep old.report m.report f.report
      passdown := keep old.passdown m.passdown f.passdown
      mirror := keep old.mirror m.mirror f.mirror }
  ({ s with fbf := f' },
    (if old.hold ≠ m.hold then [.holdCheck true] else []) ++
    (if old.report ≠ m.report ∧ f.report ≠ [] then [.reportRemoved] else []) ++
    (if old.input.len ≠ m.input.len then [.spaceEvent] else []))

/-- AREA_MAP (06 R120): status, reply fields, effects. -/
def areaMapCommand (w : List Nat) (s : State) : Status × List Byte × Act :=
  let asked := mapOfWords w
  let m := adjustMap asked
  if !m.valid then (.range, [], quiet s)
  else if s.dlc.state.mapLocked ∨ s.fbf.input ≠ [] then (.state, [], quiet s)
  else if m = asked then (.ok, [], storeMap m s)
  else (.adjusted, mapFields m, storeMap m s)

/-! ### AREA_CLEAR -/

def areaOf : Nat → Option AreaName
  | 0 => some .input
  | 1 => some .hold
  | 2 => some .report
  | 3 => some .passdown
  | 4 => some .mirror
  | _ => none

/-- A KEY release in the Input area: a key frame whose event byte is 1 (11.8). -/
def Stored.isRelease (f : Stored) : Bool := f.kind == .key && f.payload.getD 1 0 == 1

/-- What AREA_CLEAR removes (06 R122). -/
def clearArea (a : AreaName) (s : State) : Act :=
  match a with
  | .input => ({ s with fbf := { s.fbf with input := s.fbf.input.filter Stored.isRelease } }, [.spaceEvent])
  | .hold => clearHold s
  | .report =>
    ({ s with fbf := { s.fbf with report := [] } }, if s.fbf.report = [] then [] else [.reportRemoved])
  | .passdown => quiet { s with fbf := { s.fbf with passdown := [] } }
  | .mirror => quiet { s with fbf := { s.fbf with mirror := [] } }

/-- AREA_CLEAR (06 R122). -/
def areaClearCommand (code : Nat) (s : State) : Status × Act :=
  match areaOf code with
  | some a => (.ok, clearArea a s)
  | none => (.range, quiet s)

/-! ### AREA_PEEK -/

/-- One frame as AREA_PEEK copies it: kind, payload, decided, paired release. -/
structure PeekFrame where
  kind : StoredKind
  payload : List Byte
  decided : Bool
  paired : Bool
  deriving DecidableEq, Repr

def Stored.peek (f : Stored) : PeekFrame := ⟨f.kind, f.payload, false, false⟩

def HoldFrame.peek (f : HoldFrame) : PeekFrame :=
  ⟨f.body.kind, f.body.payload, f.decided,
    match f.body with
    | .release _ paired => paired
    | .press _ | .point _ => false⟩

def areaFrames (a : AreaName) (s : State) : List PeekFrame :=
  match a with
  | .input => s.fbf.input.map Stored.peek
  | .hold => s.fbf.hold.map HoldFrame.peek
  | .report => s.fbf.report.map Stored.peek
  | .passdown => s.fbf.passdown.map Stored.peek
  | .mirror => s.fbf.mirror.map Stored.peek

/-- A copy: kind, number of payload bytes, flags, the payload, cut to `room` bytes (11 R203). -/
def PeekFrame.copy (room : Nat) (f : PeekFrame) : List Byte :=
  let p := f.payload.take room
  num1 f.kind.code ++ num1 p.length ++
    num1 ((if p.length < f.payload.length then 1 else 0) + (if f.decided then 2 else 0) + (if f.paired then 4 else 0)) ++
    p

/-- The copies that fit whole in `room` bytes, in order (06 R123). -/
def wholeCopies : Nat → List PeekFrame → List (List Byte)
  | _, [] => []
  | room, f :: rest =>
    if f.payload.length + 3 ≤ room then f.copy f.payload.length :: wholeCopies (room - (f.payload.length + 3)) rest
    else []

/-- The copies of a reply with 52 bytes of room: the first is cut when it does not fit (06 R123). -/
def peekCopies (l : List PeekFrame) : List (List Byte) :=
  match l with
  | [] => []
  | f :: _ => if 52 < f.payload.length + 3 then [f.copy 49] else wholeCopies 52 l

/-- AREA_PEEK (06 R123): the reply's fields, none for RANGE. -/
def areaPeek (code index count : Nat) (s : State) : Option (List Byte) :=
  match areaOf code with
  | none => none
  | some a =>
    let frames := areaFrames a s
    if 1 ≤ count ∧ count ≤ 4 ∧ index < frames.length then
      let copies := peekCopies ((frames.drop index).take count)
      some (num1 code ++ num2 index ++ num2 frames.length ++ num1 copies.length ++ copies.flatten)
    else none

end Sys2Proof.Machine
end

