-- ==== Sys2Proof/Machine/Orientation.lean ====
section
/-! DEFINITION. The Orientation Unit (02). -/

namespace Sys2Proof.Machine

/-- The rotation classes with their sector centres, in order of centre (02 2.1). -/
def rotationClasses : List (Orient × Nat) :=
  [(.landscape, 0), (.portrait, 1440), (.landscapeInv, 2880), (.portraitInv, 4320)]

def Orient.isRotation : Orient → Bool
  | .landscape | .portrait | .landscapeInv | .portraitInv => true
  | .flatUp | .flatDown | .unknown => false

/-- Circular distance (02 2.3). -/
def circularDistance (r c : Nat) : Nat :=
  let d := max r c - min r c
  min d (5760 - d)

/-- The flat flag after the test (02 R25). -/
def flatTest (threshold : Nat) (flag : Bool) (m : Nat) : Bool :=
  if flag then m < threshold + 64 else m < threshold

/-- The nearest rule (02 R28): the smallest distance, the smaller centre on a tie. -/
def nearestClass (r : Nat) : Orient :=
  (rotationClasses.foldl
    (fun (best : Orient × Nat) c => if circularDistance r c.2 < best.2 then (c.1, circularDistance r c.2) else best)
    (.landscape, circularDistance r 0)).1

/-- The core rule (02 R27). -/
def coreClass (margin r : Nat) (committed : Orient) : Orient :=
  match rotationClasses.filter fun c => circularDistance r c.2 ≤ 720 - margin with
  | [] => committed
  | c :: rest => if (c :: rest).any (fun x => x.1 == committed) then committed else c.1

/-- The candidate of an evaluation (02 R25, R27, R28). -/
def chooseOrient (margin : Nat) (o : Oru) (flatNow : Bool) (v : Vec) : Orient :=
  if flatNow then if 0 ≤ v.z then .flatUp else .flatDown
  else
    let r := psi v.y v.x
    if o.flat ∨ !o.committed.isRotation then nearestClass r else coreClass margin r o.committed

/-- The record after an evaluation, but for the commit of a dwell of 0, and whether that commit is due (02 R24 to R29). -/
def Oru.evaluated (p : Params) (inRun : Bool) (v : Vec) (o : Oru) : Oru × Bool :=
  let flatNow := flatTest p.flatThreshold o.flat (magnitude v.y v.x)
  let cand := chooseOrient p.margin o flatNow v
  let o' := { o with flat := flatNow, angle := if flatNow then none else some (psi v.y v.x), candidate := some cand }
  if o.candidate = some cand then (o', false)
  else if cand = o.committed then ({ o' with dwell := none }, false)
  else if o.lock ∨ !inRun then ({ o' with dwell := none }, false)
  else if p.orientDwell = 0 then ({ o' with dwell := none }, true)
  else ({ o' with dwell := some p.orientDwell }, false)

/-- The ORU receives the smoothed lid vector (02 R24). -/
def orientEvaluate (s : State) : Act :=
  match s.hau.lid with
  | none => quiet s
  | some v =>
    let r := s.oru.evaluated s.par (s.psc.power == .run) v
    ({ s with oru := r.1 }, if r.2 then [.oruCommit false] else [])

/-- The commit of the candidate (02 R30, R32): the record, the ORIENT report while the lock is off, the PCL. -/
def orientCommit (unlock : Bool) (s : State) : Act :=
  match s.oru.candidate with
  | none => quiet s
  | some c =>
    let o := { s.oru with committed := c, dwell := none }
    ({ s with oru := o },
      (if o.lock then [] else [orientReport s.oru.committed (if unlock then .unlock else .dwell) o]) ++ [.pclEval])

/-- ORIENT_DWELL_EXPIRY (02 R30). -/
def orientDwellExpiry (s : State) : Act := onExpiry s.oru.dwell (orientCommit false) s

/-- Entering DOZE or STANDBY: a running dwell stops (02 R33, R34). -/
def Oru.stop (o : Oru) : Oru := { o with dwell := none }

/-- RUN from DOZE (02 R33): a differing candidate starts the full dwell. -/
def orientResume (s : State) : Act :=
  match s.oru.candidate with
  | some c =>
    if s.oru.lock ∨ c = s.oru.committed then quiet s
    else if s.par.orientDwell = 0 then (s, [.oruCommit false])
    else quiet { s with oru := { s.oru with dwell := some s.par.orientDwell } }
  | none => quiet s

/-- RUN from SETTLE (02 R34). -/
def orientRestart (s : State) : Act :=
  let o : Oru := { s.oru with committed := .unknown, candidate := none, dwell := none, flat := false, angle := none }
  ({ s with oru := o },
    if s.oru.committed = .unknown ∨ s.oru.lock then [] else [orientReport s.oru.committed .restart o])

/-- ROTATION_LOCK (02 R32). -/
def rotationLock (on : Bool) (s : State) : Act :=
  if on then
    if s.oru.lock then quiet s else quiet { s with oru := { s.oru with lock := true, dwell := none } }
  else if s.oru.lock then
    let s := { s with oru := { s.oru with lock := false } }
    match s.oru.candidate with
    | some c => if c = s.oru.committed then quiet s else (s, [.oruCommit true])
    | none => quiet s
  else quiet s

end Sys2Proof.Machine
end

