-- ==== Sys2Proof/Machine/Switches.lean ====
section
/-! DEFINITION. The Switch Input Block (01 1.1). -/

namespace Sys2Proof.Machine

/-- Whether an event mode reports a debounced change (01 R4): 0 LEVEL, 1 EITHER_EDGE, 2 ASSERT_EDGE, 3 DEASSERT_EDGE. -/
def modeReports (mode : Nat) (asserted : Bool) : Bool :=
  match mode with
  | 1 => true
  | 2 => asserted
  | 3 => !asserted
  | _ => false

/-- The owners that a debounced change is delivered to (01 R3). -/
def deliverSwitch (i : Input) (asserted : Bool) : List Signal :=
  match i with
  | .lid | .fold => [.hauHall, .spuEval .other]
  | .garage => [.pccGarage asserted]
  | .presence => [.dlcPresence asserted]

/-- The wake event or wake condition that a debounced change gives in STANDBY and SETTLE (01 R5). -/
def switchWake (i : Input) (asserted : Bool) (s : State) : List Signal :=
  if s.awake then []
  else if modeReports (s.par.mode i) asserted || (s.par.mode i == 0 && asserted) then [.pscWake (inputSource i)]
  else []

/-- The debounced state takes the raw state (01 R1): the SWITCH report, the owners, the wake event; the report goes before what the owners raise (log 76). -/
def debouncedChange (i : Input) (s : State) : Act :=
  let x := s.sib.input i
  let raw := rawState (s.par.polarity i) x.level
  let s := { s with sib := s.sib.setInput i { x with asserted := raw, run := none } }
  if raw = x.asserted then quiet s
  else
    (s, (if modeReports (s.par.mode i) raw then [switchReport i raw] else []) ++ deliverSwitch i raw ++
      switchWake i raw s)

/-- The raw state has been read anew: a run starts when it differs from the debounced state, and stops when it equals it (01 R1, R2). -/
def rejudgeRaw (i : Input) (s : State) : Act :=
  let x := s.sib.input i
  if rawState (s.par.polarity i) x.level = x.asserted then
    quiet { s with sib := s.sib.setInput i { x with run := none } }
  else if s.par.debounce i = 0 then debouncedChange i s
  else quiet { s with sib := s.sib.setInput i { x with run := some (s.par.debounce i) } }

/-- RAW_CHANGE (01 R1): the pin takes a new level. A level that the pin already has is no change. -/
def rawChange (i : Input) (high : Bool) (s : State) : Act :=
  let x := s.sib.input i
  if x.level = high then quiet s
  else rejudgeRaw i { s with sib := s.sib.setInput i { x with level := high } }

/-- DEBOUNCE_EXPIRY (01 R1). -/
def debounceExpiry (i : Input) (s : State) : Act := onExpiry (s.sib.input i).run (debouncedChange i) s

end Sys2Proof.Machine
end

