-- ==== Sys2Proof/Machine/Parameters.lean ====
section
/-! DEFINITION. The configuration parameters by number: reading, clamping, storing, and what a store does at once (11 R195). -/

namespace Sys2Proof.Machine

/-- The stored value of parameter `n`, 0 for a number that names none. -/
def Params.get (p : Params) : Nat → Nat
  | 1 => p.lidDebounce
  | 2 => p.foldDebounce
  | 3 => p.garageDebounce
  | 4 => p.presenceDebounce
  | 5 => p.lidPolarity
  | 6 => p.foldPolarity
  | 7 => p.garagePolarity
  | 8 => p.presencePolarity
  | 9 => p.lidMode
  | 10 => p.foldMode
  | 11 => p.garageMode
  | 12 => p.presenceMode
  | 13 => p.lidRate
  | 14 => p.shift
  | 15 => p.staleLimit
  | 16 => p.mMin
  | 17 => p.hingeOffset
  | 18 => p.holdLimit
  | 19 => p.angleStep
  | 20 => p.mirrorN
  | 21 => p.flatThreshold
  | 22 => p.margin
  | 23 => p.orientDwell
  | 24 => p.hysteresis
  | 25 => p.postureDwell
  | 26 => p.restartHold
  | 27 => p.settleTime
  | 28 => p.pollPeriod
  | 29 => p.quiescedPeriod
  | 30 => p.attachPolicy
  | 31 => p.gateHold
  | 32 => p.bTotal
  | 33 => p.tKnee
  | 34 => p.tCut
  | 35 => p.iMin
  | 36 => p.warnLevel
  | 37 => p.shedLevel
  | 38 => p.autoCharge
  | 39 => p.compliance
  | 40 => p.cutPulse
  | 41 => p.wakeTime
  | 42 => p.dozeDelay
  | 43 => p.wakeSettle
  | 44 => p.dockFollows
  | 45 => p.dockLines
  | 46 => p.wakeMask
  | _ => 0

/-- Parameter `n` stored. -/
def Params.set (p : Params) (n v : Nat) : Params :=
  match n with
  | 1 => { p with lidDebounce := v }
  | 2 => { p with foldDebounce := v }
  | 3 => { p with garageDebounce := v }
  | 4 => { p with presenceDebounce := v }
  | 5 => { p with lidPolarity := v }
  | 6 => { p with foldPolarity := v }
  | 7 => { p with garagePolarity := v }
  | 8 => { p with presencePolarity := v }
  | 9 => { p with lidMode := v }
  | 10 => { p with foldMode := v }
  | 11 => { p with garageMode := v }
  | 12 => { p with presenceMode := v }
  | 13 => { p with lidRate := v }
  | 14 => { p with shift := v }
  | 15 => { p with staleLimit := v }
  | 16 => { p with mMin := v }
  | 17 => { p with hingeOffset := v }
  | 18 => { p with holdLimit := v }
  | 19 => { p with angleStep := v }
  | 20 => { p with mirrorN := v }
  | 21 => { p with flatThreshold := v }
  | 22 => { p with margin := v }
  | 23 => { p with orientDwell := v }
  | 24 => { p with hysteresis := v }
  | 25 => { p with postureDwell := v }
  | 26 => { p with restartHold := v }
  | 27 => { p with settleTime := v }
  | 28 => { p with pollPeriod := v }
  | 29 => { p with quiescedPeriod := v }
  | 30 => { p with attachPolicy := v }
  | 31 => { p with gateHold := v }
  | 32 => { p with bTotal := v }
  | 33 => { p with tKnee := v }
  | 34 => { p with tCut := v }
  | 35 => { p with iMin := v }
  | 36 => { p with warnLevel := v }
  | 37 => { p with shedLevel := v }
  | 38 => { p with autoCharge := v }
  | 39 => { p with compliance := v }
  | 40 => { p with cutPulse := v }
  | 41 => { p with wakeTime := v }
  | 42 => { p with dozeDelay := v }
  | 43 => { p with wakeSettle := v }
  | 44 => { p with dockFollows := v }
  | 45 => { p with dockLines := v }
  | 46 => { p with wakeMask := v }
  | _ => p

/-- The least and the greatest value of each parameter (tables 1.9, 2.7, 3.10, 4.9, 5.7, 7.9, 8.9, 9.9, 10.7). -/
def paramRange : Nat → Nat × Nat
  | 1 => (0, 255)
  | 2 => (0, 255)
  | 3 => (0, 255)
  | 4 => (0, 255)
  | 5 => (0, 1)
  | 6 => (0, 1)
  | 7 => (0, 1)
  | 8 => (0, 1)
  | 9 => (0, 3)
  | 10 => (0, 3)
  | 11 => (0, 3)
  | 12 => (0, 3)
  | 13 => (0, 3)
  | 14 => (0, 4)
  | 15 => (20, 1000)
  | 16 => (64, 2048)
  | 17 => (0, 5759)
  | 18 => (1, 255)
  | 19 => (0, 1440)
  | 20 => (0, 255)
  | 21 => (100, 900)
  | 22 => (0, 600)
  | 23 => (0, 2000)
  | 24 => (0, 480)
  | 25 => (0, 2000)
  | 26 => (0, 5000)
  | 27 => (10, 500)
  | 28 => (2, 50)
  | 29 => (20, 500)
  | 30 => (0, 1)
  | 31 => (0, 2000)
  | 32 => (0, 3000)
  | 33 => (20, 80)
  | 34 => (25, 90)
  | 35 => (5, 100)
  | 36 => (4300, 4900)
  | 37 => (4000, 4700)
  | 38 => (0, 1)
  | 39 => (1, 120)
  | 40 => (1000, 10000)
  | 41 => (1, 60)
  | 42 => (0, 60)
  | 43 => (1, 20)
  | 44 => (0, 1)
  | 45 => (0, 1)
  | 46 => (0, 63)
  | _ => (0, 0)

/-- The clamp against another parameter or the grant (07 R128, R134, R139). -/
def clampDependent (s : State) (n v : Nat) : Nat :=
  match n with
  | 32 => max v s.sbu.grant
  | 33 => min v (s.par.tCut - 5)
  | 34 => max v (s.par.tKnee + 5)
  | 36 => max v (s.par.shedLevel + 100)
  | 37 => min v (s.par.warnLevel - 100)
  | _ => v

/-- The value that a CONFIG_SET stores (11 R195). -/
def clampParam (s : State) (n : Nat) (v : Int) : Nat :=
  clampDependent s n (max ((paramRange n).1 : Int) (min ((paramRange n).2 : Int) v)).toNat

/-- A changed event mode acts at once on the wake condition of 01 R5 (01 R2). -/
def modeChanged (i : Input) (s : State) : Act :=
  if !s.awake ∧ s.par.mode i = 0 ∧ (s.sib.input i).asserted then (s, [.pscWake (inputSource i)]) else quiet s

/-- What a store does at once: the raw states are read anew (01 R2), the mirror counter is set to 0 (01 R21), the hold limit applies to the head (05 R101), the setpoint is recomputed (07 R128, R131, R139). -/
def paramEffect (n : Nat) (changed : Bool) (s : State) : Act :=
  match n with
  | 5 => if changed then rejudgeRaw .lid s else quiet s
  | 6 => if changed then rejudgeRaw .fold s else quiet s
  | 7 => if changed then rejudgeRaw .garage s else quiet s
  | 8 => if changed then rejudgeRaw .presence s else quiet s
  | 9 => if changed then modeChanged .lid s else quiet s
  | 10 => if changed then modeChanged .fold s else quiet s
  | 11 => if changed then modeChanged .garage s else quiet s
  | 12 => if changed then modeChanged .presence s else quiet s
  | 20 => quiet { s with hau := { s.hau with mirrorCount := 0 } }
  | 31 => (s, [.holdCheck false])
  | 32 | 33 | 34 | 35 => budgetEvent (recompute true) s
  | _ => quiet s

/-- CONFIG_SET of parameter `n` of 1..46 (11 R195). -/
def setParam (n : Nat) (v : Int) (s : State) : Act :=
  let stored := clampParam s n v
  paramEffect n (stored != s.par.get n) { s with par := s.par.set n stored }

end Sys2Proof.Machine
end

