-- ==== Sys2Proof/Machine/Sleep.lean ====
section
/-! DEFINITION. The Sleep Policy Unit (09). -/

namespace Sys2Proof.Machine

/-- What a change of host state hands on (09 R158, R172): the upstream hold, the PSC, the SPU's own evaluation. -/
def hostSignals (old new : HostState) : List Signal :=
  (if !old.held && new.held then [.holdBegin] else if old.held && !new.held then [.holdEnd] else []) ++
    [.pscHost old new, .spuEval .host]

/-- The compliance timer at stage 1 with the full period C (09 R167). -/
def Spu.startCompliance (period : Nat) (b : Spu) : Spu := { b with compliance := some (period * 1000), stage := 1 }

/-- Leaving WAKING (09 R158, R166). -/
def Spu.leaveWaking (b : Spu) : Spu :=
  { b with wakeTimer := none, wakeReq := false, before := none, wakeSrc := none }

/-- The record on a change of host state by HOST_STATE (09 R158). A compliance timer that stops keeps its stage in the record (log 61). -/
def Spu.moved (period : Nat) (new : HostState) (b : Spu) : Spu :=
  let c := if b.host = .waking then b.leaveWaking else b
  match new with
  | .entering =>
    if b.host = .advised then { c with host := .entering } else { c.startCompliance period with host := .entering }
  | .running | .advised | .sleeping | .waking | .off => { c with host := new, compliance := none, advising := none }

/-- A change of host state by HOST_STATE, none when the state is the same (09 R157, R158). -/
def moveHost (new : HostState) (s : State) : Act :=
  if s.spu.host = new then quiet s
  else ({ s with spu := s.spu.moved s.par.compliance new }, hostSignals s.spu.host new)

/-- The host state that HOST_STATE gives (09 R157): RUNNING is ignored in ADVISED. -/
def hostStateTarget (value : Nat) (h : HostState) : Option HostState :=
  match value with
  | 0 => if h = .advised then some .advised else some .running
  | 1 => some .entering
  | 2 => some .sleeping
  | 3 => some .off
  | _ => none

/-- HOST_STATE (09 R157): a value that is not one of the four is answered RANGE, in a cut sequence too (log 46). -/
def hostStateCommand (value : Nat) (s : State) : Status × Act :=
  match hostStateTarget value s.spu.host with
  | none => (.range, quiet s)
  | some h => if s.spu.cutStage = .none then (.ok, moveHost h s) else (.state, quiet s)

/-! ### Rules and episodes (09 9.2) -/

def LidCond.holds (asserted : Bool) : LidCond → Bool
  | .any => true
  | .closed => asserted
  | .opened => !asserted

def PenCond.holds (inGarage : Bool) : PenCond → Bool
  | .any => true
  | .inGarage => inGarage
  | .out => !inGarage

/-- A rule holds (09 R160). -/
def ruleHolds (s : State) (r : SleepRule) : Bool :=
  r.enabled && r.postures.getLsbD s.pcl.code && r.bases.getLsbD s.pcl.cond.code && r.lid.holds s.sib.lid.asserted &&
    r.pen.holds s.pcc.inGarage && (r.minIdle == 0 || decide (r.minIdle ≤ s.igt.idle)) &&
    (match r.temp with
      | none => true
      | some t => decide (t ≤ s.sbu.temp))

/-- The governing rule: the first that holds (09 R161). -/
def governingRule (s : State) : Option Nat := s.spu.rules.findIdx? (ruleHolds s)

/-- Advice is withdrawn (09 R164): RUNNING, the report, what a change of host state hands on. -/
def withdraw (c : WithdrawCause) (governing : Option Nat) (s : State) : Act :=
  ({ s with spu := { s.spu with host := .running, compliance := none, advising := none } },
    adviceWithdrawnReport (s.spu.advising.getD 0) c governing :: hostSignals s.spu.host .running)

/-- A new episode (09 R162): the dwell restarts; a dwell of 0 takes the action at once. Without a governing rule fired is no (log 73). -/
def beginEpisode (g : Option Nat) (s : State) : Act :=
  match g with
  | none => quiet { s with spu := { s.spu with governing := none, fired := false, dwell := none } }
  | some i =>
    let d := (s.spu.rules.getD i defaultRule).dwell
    if d = 0 then
      ({ s with spu := { s.spu with governing := g, fired := false, dwell := none } }, [.spuAction])
    else quiet { s with spu := { s.spu with governing := g, fired := false, dwell := some d } }

/-- The trigger renews the episode of the rule that goes on governing (09 R162). -/
def SpuTrigger.renews (g : Option Nat) : SpuTrigger → Bool
  | .host => g.isSome
  | .ruleWrite i => g == some i
  | .other => false

def SpuTrigger.writes : SpuTrigger → Bool
  | .ruleWrite _ => true
  | .host | .other => false

/-- An evaluation (09 R161, R162). -/
def spuEvaluate (t : SpuTrigger) (s : State) : Act :=
  let g := governingRule s
  let advised : Bool := s.spu.host = .advised
  if g ≠ s.spu.governing then
    let a : Act := if advised ∧ s.spu.advising ≠ g then withdraw .governingChanged g s else quiet s
    a.andThen (beginEpisode g)
  else if t.renews g then
    let a : Act := if advised ∧ t.writes ∧ s.spu.advising = g then withdraw .ruleWritten g s else quiet s
    a.andThen (beginEpisode g)
  else quiet s

/-! ### Actions (09 9.3) -/

/-- ADVISE_SLEEP (09 R163). -/
def adviseSleep (i : Nat) (s : State) : Act :=
  if s.spu.host = .running then
    ({ s with spu := { s.spu.startCompliance s.par.compliance with host := .advised, advising := some i } },
      sleepAdviceReport i s :: hostSignals .running .advised)
  else quiet s

/-- A wake request (09 R165, R170). The report of an advice that it withdraws names the rule that governs before the evaluation which the withdrawal triggers (log 67). -/
def wakeRequest (src : WakeSource) (s : State) : Act :=
  if s.spu.cutStage ≠ .none then quiet { s with spu := { s.spu with pendingWake := some src } }
  else
    match s.spu.host with
    | .sleeping | .entering | .off =>
      ({ s with
          spu :=
            { s.spu with
              before := some s.spu.host
              host := .waking
              compliance := none
              advising := none
              wakeSrc := some src
              wakeReq := true
              wakeTimer := some (s.par.wakeTime * 1000) } },
        wakeAdviceReport src s.spu.host :: hostSignals s.spu.host .waking)
    | .advised => withdraw (.wake src) s.spu.governing s
    | .running | .waking => quiet s

/-- The governing rule's action, once in an episode (09 R162). -/
def spuAction (s : State) : Act :=
  match s.spu.governing with
  | none => quiet s
  | some i =>
    if s.spu.fired then quiet s
    else
      let s := { s with spu := { s.spu with fired := true, dwell := none } }
      match (s.spu.rules.getD i defaultRule).action with
      | .adviseSleep => adviseSleep i s
      | .adviseWake => wakeRequest (.rule i) s
      | .keepAwake => quiet s

/-- SLEEP_DWELL_EXPIRY (09 R162). -/
def sleepDwellExpiry (s : State) : Act := onExpiry s.spu.dwell spuAction s

/-- What the expiry of the wake timer does (09 R166). -/
def wakeFailed (s : State) : Act :=
  if s.spu.host = .waking then
    let back := s.spu.before.getD .off
    let src := s.spu.wakeSrc.getD .key
    let spu := { s.spu.leaveWaking with host := back }
    let spu := if back = .entering then spu.startCompliance s.par.compliance else spu
    ({ s with spu := spu }, wakeFailedReport src back :: hostSignals .waking back)
  else quiet s

/-- WAKE_TIMER_EXPIRY (09 R166). -/
def wakeTimerExpiry (s : State) : Act := onExpiry s.spu.wakeTimer wakeFailed s

/-! ### Compliance and the cut (09 9.4) -/

/-- The cut sequence begins (09 R169, decision). -/
def beginCut (s : State) : Act :=
  ({ s with
      spu :=
        { s.spu with
          host := .off, advising := none, compliance := none, cutStage := .wait, cutTimer := some 100 } },
    forceCutReport s.spu.host s.spu.advising s.par.cutPulse :: hostSignals s.spu.host .off)

/-- A reminder, and the timer at stage 2 (09 R168). -/
def overdue (s : State) : Act :=
  ({ s with spu := { s.spu with compliance := some (s.par.compliance * 1000), stage := 2 } },
    [sleepOverdueReport s.spu.stage s.spu.host s.spu.advising])

/-- What the expiry of the compliance timer does (09 R168). -/
def complianceDue (s : State) : Act :=
  if s.spu.host = .advised ∨ s.spu.host = .entering then
    if s.spu.stage = 2 ∧ s.spu.forceMode = .notifyThenCut then beginCut s else overdue s
  else quiet s

/-- COMPLIANCE_EXPIRY (09 R168). -/
def complianceExpiry (s : State) : Act := onExpiry s.spu.compliance complianceDue s

/-- PWR_CUT is asserted, from WAIT (09 R169, assertion). -/
def cutAssert (s : State) : Act :=
  if s.spu.cutStage = .wait then
    quiet { s with spu := { s.spu with cutStage := .pulse, pwrCut := true, cutTimer := some s.par.cutPulse } }
  else quiet s

/-- CUT_WAIT_EXPIRY (09 R169). -/
def cutWaitExpiry (s : State) : Act :=
  if s.spu.cutStage = .wait then onExpiry s.spu.cutTimer cutAssert s else quiet s

/-- A pending wake is served against the host state (09 R170). -/
def servePendingWake (s : State) : Act :=
  match s.spu.pendingWake with
  | some src =>
    if s.spu.cutStage = .none then wakeRequest src { s with spu := { s.spu with pendingWake := none } } else quiet s
  | none => quiet s

/-- The end of the pulse (09 R169, release; R170). -/
def endCut (s : State) : Act :=
  servePendingWake { s with spu := { s.spu with cutStage := .none, pwrCut := false, cutTimer := none } }

/-- CUT_PULSE_EXPIRY (09 R169). -/
def cutPulseExpiry (s : State) : Act :=
  if s.spu.cutStage = .pulse then onExpiry s.spu.cutTimer endCut s else quiet s

/-! ### The unlock window and the force mode (09 R171) -/

/-- UNLOCK_WINDOW_TIMEOUT: 100 ms after the POLICY_UNLOCK with no further frame. -/
def unlockTimeout (s : State) : Act :=
  match s.spu.unlock with
  | some u =>
    if s.spu.rxSeq = u.seq then
      let s := elapse (100 - since s.ms u.time) s
      quiet { s with spu := { s.spu with unlock := none } }
    else quiet s
  | none => quiet s

/-- A POLICY_UNLOCK whose frame is number `seq`, received at `time`, meets no closing condition before its execution. -/
def unlockStands (seq : Nat) (time : Stamp) (s : State) : Bool :=
  if s.spu.rxSeq ≤ seq then since s.ms time < 100
  else s.spu.rxSeq == seq + 1 && decide (since s.spu.lastRx time < 100)

/-- POLICY_UNLOCK on the PLATFORM channel with WRITE access opens the window; on another it is DENIED and closes it. -/
def policyUnlock (platform : Bool) (seq : Nat) (time : Stamp) (s : State) : Status × Act :=
  if platform then
    let w := if unlockStands seq time s then some ⟨seq, time⟩ else none
    (.ok, quiet { s with spu := { s.spu with unlock := w } })
  else (.denied, quiet { s with spu := { s.spu with unlock := none } })

/-- NOTIFY_ONLY is allowed: the PLATFORM channel, an open window, opened by the frame received immediately before. -/
def notifyOnlyAllowed (platform : Bool) (seq : Nat) (time : Stamp) (s : State) : Bool :=
  match s.spu.unlock with
  | some u => platform && u.seq + 1 == seq && decide (since time u.time < 100)
  | none => false

/-- FORCE_MODE: either value closes the window; another value is answered RANGE and changes nothing (09 R171, 11 R190; log 45). -/
def forceModeCommand (value : Nat) (platform : Bool) (seq : Nat) (time : Stamp) (s : State) : Status × Act :=
  let closed := { s with spu := { s.spu with unlock := none } }
  match value with
  | 0 => (.ok, quiet { closed with spu := { closed.spu with forceMode := .notifyThenCut } })
  | 1 =>
    if notifyOnlyAllowed platform seq time s then
      (.ok, quiet { closed with spu := { closed.spu with forceMode := .notifyOnly } })
    else (.denied, quiet closed)
  | _ => (.range, quiet s)

end Sys2Proof.Machine
end

