-- ==== Sys2Proof/Machine/Tables.lean ====
section
/-! DEFINITION. The entries of the five loadable tables: their bytes (11.8), the checks on a write, and the write itself. -/

namespace Sys2Proof.Machine

/-- The length of a table's entry (11.8). -/
def entryLength : Nat → Nat
  | 0 => 7
  | 1 => 4
  | 2 => 6
  | 3 => 13
  | _ => 17

/-- Byte `i` of an entry. -/
def entryByte (e : List Byte) (i : Nat) : Byte := e.getD i 0

def entryWord (e : List Byte) (i : Nat) : Nat := le2 (entryByte e i) (entryByte e (i + 1))

/-! ### POSTURE -/

def PostureRow.ofBytes (e : List Byte) : PostureRow where
  valid := (entryByte e 0).getLsbD 0
  low := entryWord e 1
  high := entryWord e 3
  orients := (entryByte e 5).setWidth 6
  bases := (entryByte e 6).setWidth 3
  code := (entryByte e 6).toNat / 16

def PostureRow.bytes (r : PostureRow) : List Byte :=
  flagField r.valid ++ num2 r.low ++ num2 r.high ++ num1 r.orients.toNat ++ num1 (r.bases.toNat + 16 * r.code)

/-- The checks of 03 R39 but for the index. -/
def PostureRow.acceptable (r : PostureRow) : Bool :=
  r.low ≤ 5760 && r.high ≤ 5760 && r.low ≤ r.high && (!r.valid || (r.code != 0 && r.orients != 0 && r.bases != 0))

/-- TABLE_WRITE POSTURE (03 R39): an accepted write is a trigger of the PCL. -/
def writePosture (i : Nat) (e : List Byte) (s : State) : Status × Act :=
  let r := PostureRow.ofBytes e
  if i ≤ 15 ∧ r.acceptable then
    (.ok, ({ s with pcl := { s.pcl with table := s.pcl.table.set i r } }, [.pclEval]))
  else (.range, quiet s)

/-! ### GATE_DIR and GATE_ENTRY -/

def gateActionOf : Nat → Option GateAction
  | 0 => some .pass
  | 1 => some .drop
  | 2 => some .hold
  | 3 => some .wake
  | _ => none

/-- A directory entry with its checks but for the index (05 R86). -/
def gateDirOf (e : List Byte) : Option GateDir :=
  let first := (entryByte e 2).toNat
  let count := (entryByte e 3).toNat
  match gateActionOf (entryByte e 1).toNat with
  | some a =>
    if first ≤ 127 ∧ count ≤ 32 ∧ first + count ≤ 128 then
      some ⟨(entryByte e 0).getLsbD 0, (entryByte e 0).getLsbD 1, a, first, count⟩
    else none
  | none => none

def GateDir.bytes (d : GateDir) : List Byte :=
  num1 ((if d.present then 1 else 0) + (if d.releaseOnEntry then 2 else 0)) ++ num1 d.action.code ++ num1 d.first ++
    num1 d.count

/-- TABLE_WRITE GATE_DIR (05 R86). -/
def writeGateDir (i : Nat) (e : List Byte) (s : State) : Status × Act :=
  match gateDirOf e with
  | some d =>
    if i ≤ 15 then (.ok, quiet { s with igt := { s.igt with dir := s.igt.dir.set i d } }) else (.range, quiet s)
  | none => (.range, quiet s)

/-- A gate entry with its checks but for the index (05 R87): an accepted write sets the hit count to 0. -/
def gateEntryOf (e : List Byte) : Option GateEntry :=
  let low := (entryByte e 1).toNat
  let high := (entryByte e 2).toNat
  match gateActionOf (entryByte e 3).toNat with
  | none => none
  | some a =>
    match (entryByte e 0).toNat with
    | 0 =>
      if 1 ≤ low ∧ low ≤ 254 ∧ 1 ≤ high ∧ high ≤ 254 ∧ low ≤ high then
        some ⟨.key, low, high, a, (entryByte e 4).getLsbD 0, 0⟩
      else none
    | 1 => some ⟨.point, low, high, a, (entryByte e 4).getLsbD 0, 0⟩
    | _ => none

def GateEntry.bytes (g : GateEntry) : List Byte :=
  num1 g.cls.code ++ num1 g.low ++ num1 g.high ++ num1 g.action.code ++ flagField g.note ++ num1 g.hits

/-- TABLE_WRITE GATE_ENTRY (05 R87). -/
def writeGateEntry (i : Nat) (e : List Byte) (s : State) : Status × Act :=
  match gateEntryOf e with
  | some g =>
    if i ≤ 127 then (.ok, quiet { s with igt := { s.igt with entries := s.igt.entries.set i g } })
    else (.range, quiet s)
  | none => (.range, quiet s)

/-- The hit counts of a run of entries set to 0. -/
def clearHits (first count : Nat) (entries : List GateEntry) : List GateEntry :=
  entries.mapIdx fun i g => if first ≤ i ∧ i < first + count then { g with hits := 0 } else g

/-- HITS_CLEAR (05 R87). -/
def hitsClear (first count : Nat) (s : State) : Status × Act :=
  if first ≤ 127 ∧ 1 ≤ count ∧ count ≤ 128 ∧ first + count ≤ 128 then
    (.ok, quiet { s with igt := { s.igt with entries := clearHits first count s.igt.entries } })
  else (.range, quiet s)

/-! ### SLEEP_RULE -/

def lidCondOf : Nat → Option LidCond
  | 0 => some .any
  | 1 => some .closed
  | 2 => some .opened
  | _ => none

def penCondOf : Nat → Option PenCond
  | 0 => some .any
  | 1 => some .inGarage
  | 2 => some .out
  | _ => none

def sleepActionOf : Nat → Option SleepAction
  | 0 => some .adviseSleep
  | 1 => some .adviseWake
  | 2 => some .keepAwake
  | _ => none

/-- The optional temperature of a rule: none of an illegal presence byte or of a value out of range (09 R159). -/
def ruleTempOf (present value : Byte) : Option (Option Int) :=
  match present.toNat with
  | 0 => some none
  | 1 => if -40 ≤ sle1 value ∧ sle1 value ≤ 125 then some (some (sle1 value)) else none
  | _ => none

/-- A sleep rule with its checks but for the index (09 R159). -/
def sleepRuleOf (e : List Byte) : Option SleepRule :=
  match lidCondOf (entryByte e 4).toNat, penCondOf (entryByte e 5).toNat, ruleTempOf (entryByte e 8) (entryByte e 9),
    sleepActionOf (entryByte e 12).toNat with
  | some lid, some pen, some temp, some action =>
    let r : SleepRule :=
      { enabled := (entryByte e 0).getLsbD 0
        postures := BitVec.ofNat 16 (entryWord e 1)
        bases := (entryByte e 3).setWidth 3
        lid := lid
        pen := pen
        minIdle := entryWord e 6
        temp := temp
        dwell := entryWord e 10
        action := action }
    if r.dwell ≤ 60000 ∧ (!r.enabled ∨ (r.postures ≠ 0 ∧ r.bases ≠ 0)) then some r else none
  | _, _, _, _ => none

/-- The stored bytes of a rule (11.8); an absent temperature reads back as 0 (log 54). -/
def SleepRule.bytes (r : SleepRule) : List Byte :=
  flagField r.enabled ++ num2 r.postures.toNat ++ num1 r.bases.toNat ++ num1 r.lid.code ++ num1 r.pen.code ++
    num2 r.minIdle ++
    (match r.temp with
      | none => [0, 0]
      | some t => 1 :: int1 t) ++
    num2 r.dwell ++ num1 r.action.code

/-- TABLE_WRITE SLEEP_RULE (09 R159): an accepted write is a trigger of the SPU. -/
def writeSleepRule (i : Nat) (e : List Byte) (s : State) : Status × Act :=
  match sleepRuleOf e with
  | some r =>
    if i ≤ 15 then
      (.ok, ({ s with spu := { s.spu with rules := s.spu.rules.set i r } }, [.spuEval (.ruleWrite i)]))
    else (.range, quiet s)
  | none => (.range, quiet s)

/-! ### CHARGE_PROFILE -/

def Profile.ofBytes (e : List Byte) : Profile :=
  ⟨entryWord e 0, entryWord e 2, entryWord e 4, entryWord e 6, entryWord e 8, entryWord e 10, entryWord e 12,
    (entryByte e 14).toNat, (entryByte e 15).toNat, (entryByte e 16).toNat⟩

def Profile.bytes (p : Profile) : List Byte :=
  num2 p.vPreExit ++ num2 p.vFull ++ num2 p.vReg ++ num2 p.vRecharge ++ num2 p.iPre ++ num2 p.iBulk ++ num2 p.iTerm ++
    num1 p.preLimit ++ num1 p.bulkLimit ++ num1 p.topLimit

/-- TABLE_WRITE CHARGE_PROFILE (08 R152): from the PLATFORM channel only. -/
def writeProfile (platform : Bool) (i : Nat) (e : List Byte) (s : State) : Status × Act :=
  let p := Profile.ofBytes e
  if !platform then (.denied, quiet s)
  else if i = 0 ∧ p.valid then (.ok, storeProfile p s)
  else (.range, quiet s)

/-! ### Any table -/

/-- TABLE_WRITE to a table of code 0..4; another code is RANGE (11 R193, R195). -/
def writeTable (platform : Bool) (table i : Nat) (e : List Byte) (s : State) : Status × Act :=
  match table with
  | 0 => writePosture i e s
  | 1 => writeGateDir i e s
  | 2 => writeGateEntry i e s
  | 3 => writeSleepRule i e s
  | 4 => writeProfile platform i e s
  | _ => (.range, quiet s)

/-- The stored entry of a table at an index (11 R195), none for RANGE. -/
def readTable (table i : Nat) (s : State) : Option (List Byte) :=
  match table with
  | 0 => (s.pcl.table[i]?).map PostureRow.bytes
  | 1 => (s.igt.dir[i]?).map GateDir.bytes
  | 2 => (s.igt.entries[i]?).map GateEntry.bytes
  | 3 => (s.spu.rules[i]?).map SleepRule.bytes
  | 4 => if i = 0 then some s.pcc.profile.bytes else none
  | _ => none

end Sys2Proof.Machine
end

