-- ==== Sys2Proof/Machine/Commands.lean ====
section
/-! DEFINITION. The host's commands: the tests of their execution and what each does (11 R190 to R199, R203). -/

namespace Sys2Proof.Machine

/-- What a command answers: status, reply fields, effects before the reply, effects after it, and the reset that begins when the reply has gone. -/
structure CmdResult where
  status : Status
  fields : List Byte
  act : Act
  post : List Signal
  reset : Option ResetKind
  deriving DecidableEq

/-- A command that answers a status and nothing else. -/
def plainResult (r : Status × Act) : CmdResult := ⟨r.1, [], r.2, [], none⟩

/-- A command that only reads: its fields, or RANGE. -/
def readResult (f : Option (List Byte)) (s : State) : CmdResult :=
  match f with
  | some bs => ⟨.ok, bs, quiet s, [], none⟩
  | none => ⟨.range, [], quiet s, [], none⟩

/-! ### The tests 1 to 4 of 11 R190 -/

/-- The access groups, in the order of their codes (11 R194). -/
inductive Group where
  | sensing | gate | dock | buffer | budget | charge | sleep | power | user | system
  deriving DecidableEq, Repr

def Group.code : Group → Nat
  | .sensing => 0
  | .gate => 1
  | .dock => 2
  | .buffer => 3
  | .budget => 4
  | .charge => 5
  | .sleep => 6
  | .power => 7
  | .user => 8
  | .system => 9

/-- The group of a table, none for a code above 4 (11 R192, R193). -/
def tableGroup : Nat → Option Group
  | 0 => some .sensing
  | 1 | 2 => some .gate
  | 3 => some .sleep
  | 4 => some .charge
  | _ => none

/-- The group of a parameter, none for 0 and above 46 (11 R192, R193). -/
def paramGroup (n : Nat) : Option Group :=
  if n = 0 then none
  else if n ≤ 26 then some .sensing
  else if n ≤ 30 then some .dock
  else if n = 31 then some .gate
  else if n ≤ 37 then some .budget
  else if n = 38 then some .charge
  else if n ≤ 41 then some .sleep
  else if n ≤ 46 then some .power
  else none

/-- The group that a payload's access is tested in, and whether it needs WRITE (11 R192); none passes (11 R193). -/
def commandNeed (p : List Byte) : Option (Group × Bool) :=
  let arg := (p.getD 1 0).toNat
  match (commandCode p).toNat with
  | 2 => (tableGroup arg).map fun g => (g, true)
  | 3 => (tableGroup arg).map fun g => (g, false)
  | 4 => some (.gate, true)
  | 5 => (paramGroup arg).map fun g => (g, true)
  | 6 => (paramGroup arg).map fun g => (g, false)
  | 7 => some (.user, false)
  | 8 => some (.user, true)
  | 9 | 10 | 11 => some (.dock, true)
  | 12 | 13 => some (.gate, true)
  | 14 => some (.user, true)
  | 15 => some (.charge, true)
  | 16 | 17 | 18 => some (.sleep, true)
  | 19 | 20 => some (.buffer, true)
  | 21 => some (.buffer, false)
  | 22 | 23 | 24 => some (.system, true)
  | _ => none

/-- The length that a command requires (11 R203); byte 1 names the table of a TABLE_WRITE. -/
def lengthOk (p : List Byte) : Bool :=
  let n := p.length
  match (commandCode p).toNat with
  | 2 => 3 ≤ n && (4 < (p.getD 1 0).toNat || n == 3 + entryLength (p.getD 1 0).toNat)
  | 3 | 4 | 7 => n == 3
  | 5 => n == 6
  | 6 | 9 | 10 | 14 | 15 | 16 | 18 | 20 | 24 => n == 2
  | 8 | 22 => n == 4
  | 11 => 2 ≤ n && n ≤ 17
  | 19 => n == 21
  | 21 => n == 5
  | _ => n == 1

/-- The channel of a CHANNEL/TAG byte (11.8). -/
def channelOf (ct : Byte) : Nat := ct.toNat / 64

/-- A channel's word for a group allows a need (11 R193). -/
def accessAllows (words : List Access) (need : Option (Group × Bool)) : Bool :=
  match need with
  | none => true
  | some (g, write) =>
    match words.getD g.code .none with
    | .write => true
    | .read => !write
    | .none => false

/-- The first of the tests 1 to 4 that fails (11 R190). -/
def refusal (ct : Byte) (p : List Byte) (s : State) : Option Status :=
  if 2 ≤ channelOf ct then some .denied
  else if p = [] ∨ commandCode p = 0 ∨ 24 < (commandCode p).toNat then some .unknown
  else if !lengthOk p then some .malformed
  else if !accessAllows (if channelOf ct = 0 then s.ulp.platform else s.ulp.driver) (commandNeed p) then some .denied
  else none

/-! ### Test 5: the owning blocks -/

/-- ECHO (11 R192, R203): family 6, part 620, silicon revision. -/
def echoResult (s : State) : CmdResult :=
  ⟨.ok, num1 6 ++ num2 620 ++ [Config.siliconRevision], quiet s, [], none⟩

/-- TABLE_WRITE (11 R195); after the reply of a profile write, an expired limit is taken (08 R153). -/
def tableWriteResult (platform : Bool) (table i : Nat) (e : List Byte) (s : State) : CmdResult :=
  let r := writeTable platform table i e s
  { plainResult r with post := if table = 4 ∧ r.1 = .ok then [.pccLimit] else [] }

/-- TABLE_READ (11 R195). -/
def tableReadResult (table i : Nat) (s : State) : CmdResult :=
  readResult ((readTable table i s).map fun e => num1 table ++ num1 i ++ e) s

/-- CONFIG_SET (11 R195). -/
def configSetResult (n : Nat) (v : Int) (s : State) : CmdResult :=
  if 1 ≤ n ∧ n ≤ 46 then
    let stored := clampParam s n v
    ⟨if (stored : Int) = v then .ok else .adjusted, num1 n ++ num4 stored, setParam n v s, [], none⟩
  else ⟨.range, [], quiet s, [], none⟩

/-- CONFIG_GET (11 R195). -/
def configGetResult (n : Nat) (s : State) : CmdResult :=
  readResult (if 1 ≤ n ∧ n ≤ 46 then some (num1 n ++ num4 (s.par.get n)) else none) s

/-- The mask with the enables of START, FORCE_CUT and OVERFLOW set (11 R199). -/
def shownMask (m : BitVec 21) : BitVec 21 := m ||| 0x110001#21

/-- REPORT_ENABLE (11 R199). -/
def reportEnableResult (m : BitVec 24) (s : State) : CmdResult :=
  let mask := m.setWidth 21
  ⟨.ok, maskField (shownMask mask), quiet { s with ulp := { s.ulp with mask := mask } }, [], none⟩

def dockStepOf : Nat → Option DockStep
  | 0 => some .identify
  | 1 => some .power
  | 2 => some .quiesce
  | 3 => some .wake
  | 4 => some .release
  | _ => none

/-- DOCK_STEP (04 R78). -/
def dockStepResult (v : Nat) (s : State) : CmdResult :=
  plainResult
    (match dockStepOf v with
      | some st => dockStepCommand st s
      | none => (.range, quiet s))

def walkTargetOf : Nat → Option WalkTarget
  | 0 => some .attach
  | 1 => some .wake
  | 2 => some .quiesce
  | _ => none

/-- DOCK_AUTO (04 R79). -/
def dockAutoResult (v : Nat) (s : State) : CmdResult :=
  plainResult
    (match walkTargetOf v with
      | some t => dockAuto t .host s
      | none => (.range, quiet s))

/-- ROTATION_LOCK (02 R32): 0 OFF, 1 ON. -/
def rotationLockResult (v : Nat) (s : State) : CmdResult :=
  plainResult (if v ≤ 1 then (.ok, rotationLock (v == 1) s) else (.range, quiet s))

/-- CHARGE_CONTROL (08 R143, R144): 0 START, 1 STOP. -/
def chargeControlResult (v : Nat) (s : State) : CmdResult :=
  plainResult
    (match v with
      | 0 => chargeStart s
      | 1 => chargeStop s
      | _ => (.range, quiet s))

/-- ACCESS_SET (11 R194). -/
def accessSetResult (platform : Bool) (ch g w : Nat) (s : State) : CmdResult :=
  let word := match w with
    | 0 => Access.none
    | 1 => .read
    | _ => .write
  if !platform ∨ s.ulp.freeze then plainResult (.denied, quiet s)
  else if 1 < ch ∨ 9 < g ∨ 2 < w ∨ (ch = 0 ∧ g = 9) then plainResult (.range, quiet s)
  else if ch = 0 then
    plainResult (.ok, quiet { s with ulp := { s.ulp with platform := s.ulp.platform.set g word } })
  else plainResult (.ok, quiet { s with ulp := { s.ulp with driver := s.ulp.driver.set g word } })

/-- ACCESS_FREEZE (11 R194). -/
def accessFreezeResult (s : State) : CmdResult :=
  plainResult (.ok, quiet { s with ulp := { s.ulp with freeze := true } })

/-- PART_RESET (11 R197): 0 SOFT, 1 FULL. -/
def partResetResult (v : Nat) (s : State) : CmdResult :=
  match v with
  | 0 => ⟨.ok, [], quiet s, [], some .soft⟩
  | 1 => ⟨.ok, [], quiet s, [], some .full⟩
  | _ => ⟨.range, [], quiet s, [], none⟩

/-- AREA_MAP (06 R120). -/
def areaMapResult (w : List Nat) (s : State) : CmdResult :=
  let r := areaMapCommand w s
  ⟨r.1, r.2.1, r.2.2, [], none⟩

/-- The words of a list of bytes, least significant byte first. -/
def wordsOf : List Byte → List Nat
  | a :: b :: rest => le2 a b :: wordsOf rest
  | _ => []

/-- The signed number of bytes 2 to 5 of a CONFIG_SET (11 R203). -/
def configValue (p : List Byte) : Int :=
  (BitVec.ofNat 32 (le2 (p.getD 2 0) (p.getD 3 0) + 65536 * le2 (p.getD 4 0) (p.getD 5 0))).toInt

/-- A command that has passed the tests 1 to 4 (11 R190, R203). `platform` says that the channel is PLATFORM; `seq` and `time` are the frame's number and reception time. -/
def runCommand (platform : Bool) (seq : Nat) (time : Stamp) (p : List Byte) (s : State) : CmdResult :=
  let b : Nat → Nat := fun i => (p.getD i 0).toNat
  match b 0 with
  | 1 => echoResult s
  | 2 => tableWriteResult platform (b 1) (b 2) (p.drop 3) s
  | 3 => tableReadResult (b 1) (b 2) s
  | 4 => plainResult (hitsClear (b 1) (b 2) s)
  | 5 => configSetResult (b 1) (configValue p) s
  | 6 => configGetResult (b 1) s
  | 7 => readResult (statusRead (b 1) (b 2) s) s
  | 8 => reportEnableResult (BitVec.ofNat 24 (b 1 + 256 * b 2 + 65536 * b 3)) s
  | 9 => dockStepResult (b 1) s
  | 10 => dockAutoResult (b 1) s
  | 11 => plainResult (passdownCommand (p.drop 1) s)
  | 12 => plainResult (.ok, gateRescan s)
  | 13 => plainResult (.ok, gateFlush s)
  | 14 => rotationLockResult (b 1) s
  | 15 => chargeControlResult (b 1) s
  | 16 => plainResult (hostStateCommand (b 1) s)
  | 17 => plainResult (policyUnlock platform seq time s)
  | 18 => plainResult (forceModeCommand (b 1) platform seq time s)
  | 19 => areaMapResult (wordsOf (p.drop 1)) s
  | 20 => plainResult (areaClearCommand (b 1) s)
  | 21 => readResult (areaPeek (b 1) (le2 (p.getD 2 0) (p.getD 3 0)) (b 4) s) s
  | 22 => accessSetResult platform (b 1) (b 2) (b 3) s
  | 23 => accessFreezeResult s
  | _ => partResetResult (b 1) s

/-- The unlock window is closed. -/
def State.closeUnlock (s : State) : State := { s with spu := { s.spu with unlock := none } }

/-- The result of an execution (11 R190). The window closes at the execution of every command (09 R171), before the command acts, so a STATUS_READ shows it closed (log 55); FORCE_MODE reads it first, and POLICY_UNLOCK may open it again. -/
def commandResult (f : RxFrame) (s : State) : CmdResult :=
  match refusal f.ct f.payload s with
  | some st => plainResult (st, quiet s.closeUnlock)
  | none =>
    runCommand (channelOf f.ct == 0) f.seq f.time f.payload
      (if commandCode f.payload = 18 then s else s.closeUnlock)

/-- The execution of a frame that has left the queue (11 R190): effects, the one reply, what follows it, the next command. The effects, with all they hand on, run before the reply is placed: a DOCK report of the same command is raised before the OK reply of its DOCK_STEP (04 R78, log 71), and the evaluation of an accepted SLEEP_RULE write runs before its reply (09 R159, log 72). -/
def executeFrame (f : RxFrame) (s : State) : Act :=
  let r := commandResult f { s with ulp := { s.ulp with executing := true } }
  (r.act.1, r.act.2 ++ [.reply ⟨f.ct, replyPayload (commandCode f.payload) r.status r.fields, r.reset⟩] ++ r.post ++
    [.serve])

/-- The reply slot and the queue are served (11 R189, R190): under the upstream hold the head is executed at once; otherwise the slot must be empty, and the overrun replies go first. While a command is executed nothing is served, so the reply of a HOST_STATE that ends the hold goes before the overrun replies that have waited (log 65). -/
def serveQueue (s : State) : Act :=
  if s.ulp.resetDue.isSome ∨ s.ulp.executing then quiet s
  else if s.held then
    match s.ulp.queue with
    | f :: q => executeFrame f { s with ulp := { s.ulp with queue := q } }
    | [] => quiet s
  else if s.ulp.slot.isSome then quiet s
  else
    match s.ulp.overruns with
    | r :: rs => ({ s with ulp := { s.ulp with slot := some r, overruns := rs } }, [.arbiter])
    | [] =>
      match s.ulp.queue with
      | f :: q => executeFrame f { s with ulp := { s.ulp with queue := q } }
      | [] => quiet s

end Sys2Proof.Machine
end

