-- ==== Sys2Proof/Machine/Posture.lean ====
section
/-! DEFINITION. The Posture Classifier (03). -/

namespace Sys2Proof.Machine

/-- The base condition of a dock state (03 R38). -/
def Dlc.baseCond (d : Dlc) : BaseCond :=
  match d.state with
  | .powering | .active | .quiesced | .waking => .keyboard
  | .identifying => if d.recov then .keyboard else .detached
  | .covered => .cover
  | .absent | .settling | .present | .identified | .faulted => .detached

/-- The angle condition of a row, with the band widened by a margin (03 R40, R42): an absent angle asks for a full-range row. -/
def PostureRow.angleFits (r : PostureRow) (margin : Nat) : Option Nat → Bool
  | some a => r.low - margin ≤ a && a ≤ min 5760 (r.high + margin)
  | none => r.low == 0 && r.high == 5760

/-- The orientation condition of a row (03 R40). -/
def PostureRow.orientFits (r : PostureRow) (o : Orient) : Bool :=
  if o = .unknown then r.orients == BitVec.allOnes 6 else r.orients.getLsbD o.code

/-- A row matches the present inputs (03 R40), its band widened by a margin (03 R42). -/
def rowMatches (margin : Nat) (s : State) (r : PostureRow) : Bool :=
  r.valid && r.angleFits margin s.hau.hinge.angle && r.orientFits s.oru.committed && r.bases.getLsbD s.pcl.cond.code

/-- The re-test of the committed row (03 R42). -/
def retest (s : State) : Bool :=
  match s.pcl.row with
  | none => false
  | some i =>
    match s.pcl.table[i]? with
    | none => false
    | some r => r.valid && r.code == s.pcl.code && rowMatches s.par.hysteresis s r

/-- The scan from row `i` (03 R43): the code and the row of the first match, or code 0. -/
def scanRows (s : State) : Nat → List PostureRow → Nat × Option Nat
  | _, [] => (0, none)
  | i, r :: rest => if rowMatches 0 s r then (r.code, some i) else scanRows s (i + 1) rest

/-- The candidate of an evaluation (03 R42, R43). -/
def choosePosture (s : State) : Nat × Option Nat :=
  if retest s then (s.pcl.code, s.pcl.row) else scanRows s 0 s.pcl.table

/-- The dwell handling of 03 R44, with the restart hold of R54: the record after it, and whether a dwell of 0 commits. -/
def Pcl.settled (dwell : Nat) (c : Nat × Option Nat) (p : Pcl) : Pcl × Bool :=
  let p' := { p with cand := some c.1, candRow := c.2 }
  if c.1 = p.code then ({ p' with dwell := none, row := c.2 }, false)
  else if p.restart.isSome ∧ c.1 = 0 then ({ p' with dwell := none }, false)
  else if p.cand = some c.1 then (p', false)
  else if dwell = 0 then ({ p' with dwell := none }, true)
  else ({ p' with dwell := some dwell }, false)

/-- An evaluation (03 3.5), wherever it is made. -/
def postureChoose (s : State) : Act :=
  let r := s.pcl.settled s.par.postureDwell (choosePosture s)
  ({ s with pcl := r.1 }, if r.2 then [.pclCommit] else [])

/-- A trigger of the PCL: an evaluation in RUN and DOZE, nothing in STANDBY and SETTLE (03 R41, R53). -/
def postureEvaluate (s : State) : Act := if s.awake then postureChoose s else quiet s

/-- The commit (03 R46): the record, the POSTURE report, the Input Gate, the Sleep Policy Unit. A commit ends the restart hold (03 R54). -/
def postureCommit (s : State) : Act :=
  match s.pcl.cand with
  | none => quiet s
  | some c =>
    let prev := s.pcl.code
    let s :=
      { s with
        pcl := { s.pcl with code := c, row := s.pcl.candRow, stamp := s.ms, dwell := none, restart := none } }
    (s, [postureReport prev s, .igtCommit c, .spuEval .other])

/-- POSTURE_DWELL_EXPIRY (03 R45). -/
def postureDwellExpiry (s : State) : Act := onExpiry s.pcl.dwell postureCommit s

/-- The dwell timer starts with the full posture dwell (03 R54). -/
def startPostureDwell (s : State) : Act :=
  if s.par.postureDwell = 0 then (s, [.pclCommit])
  else quiet { s with pcl := { s.pcl with dwell := some s.par.postureDwell } }

/-- The candidate is present and is not the committed code. -/
def Pcl.differs (p : Pcl) : Bool :=
  match p.cand with
  | some c => c != p.code
  | none => false

/-- What the expiry of the restart hold does (03 R54). -/
def endRestartHold (s : State) : Act :=
  let s := { s with pcl := { s.pcl with restart := none } }
  if s.pcl.differs then startPostureDwell s else quiet s

/-- RESTART_HOLD_EXPIRY (03 R54). -/
def restartHoldExpiry (s : State) : Act := onExpiry s.pcl.restart endRestartHold s

/-- A dock notification (03 R38): a new base condition is stored, evaluated, handed to the SPU. -/
def pclDockNotice (s : State) : Act :=
  if s.dlc.baseCond = s.pcl.cond then quiet s
  else ({ s with pcl := { s.pcl with cond := s.dlc.baseCond } }, [.pclEval, .spuEval .other])

/-- Entering STANDBY (03 R53). -/
def Pcl.stop (p : Pcl) : Pcl := { p with dwell := none, restart := none }

/-- RUN from SETTLE (03 R54): the restart hold, then one evaluation; without a hold, a differing candidate that finds the dwell stopped starts it (log 41). Under a running hold the candidate kept from before STANDBY leaves the dwell stopped until the hold expires (log 48). -/
def pclRestart (s : State) : Act :=
  let s :=
    if s.par.restartHold = 0 then s else { s with pcl := { s.pcl with restart := some s.par.restartHold } }
  let a := postureChoose s
  if s.par.restartHold = 0 ∧ a.1.pcl.differs ∧ a.1.pcl.dwell = none ∧ a.2 = [] then startPostureDwell a.1 else a

end Sys2Proof.Machine
end

