-- ==== Sys2Proof/Machine/Power.lean ====
section
/-! DEFINITION. The Power State Controller (10). -/

namespace Sys2Proof.Machine

/-- SLEEPING or OFF (10 R176). -/
def HostState.dozes : HostState → Bool
  | .sleeping | .off => true
  | .running | .advised | .entering | .waking => false

/-- The standby condition (10 R179). -/
def standbyCondition (s : State) : Bool :=
  s.spu.host == .off && s.dlc.state != .powering && s.dlc.state != .waking

/-- A deferring condition (10 R179). -/
def deferring (s : State) : Bool := s.pcc.phase.charging || s.dlc.step.isSome

/-- The power request of an entry, while dock follows power is on (10 R180). -/
def followPower (q : PowerReq) (s : State) : List Signal := if s.par.dockFollows = 1 then [.dlcPowerReq q] else []

def emitWith (f : State → List Signal) (s : State) : Act := (s, f s)

/-! ### STANDBY -/

/-- The blocks at STANDBY entry (10 R181, steps 1 and 2). -/
def standbyBlocks (s : State) : State :=
  { s with
    psc :=
      { s.psc with
        power := .standby, standby := none, deferred := false, wakeCause := none, latched := [], uplinkSeen := false }
    hau := s.hau.stop
    oru := s.oru.stop
    pcl := s.pcl.stop
    dlc := s.dlc.stop
    sbu := s.sbu.stop s.par.dockLines
    pcc := s.pcc.stop
    ulp := { s.ulp with rx := [] } }

/-- The dock states that dock lines RELEASE releases (10 R181, step 3). -/
def releasedAtStandby (d : DockState) : Bool :=
  match d with
  | .identified | .active | .quiesced | .covered => true
  | .absent | .settling | .present | .identifying | .powering | .waking | .faulted => false

/-- STANDBY entry (10 R181); the POWER report goes before the reports that the entry causes (10 R185, log 18). -/
def enterStandby (deferred : Bool) (s : State) : Act :=
  let a : Act := (standbyBlocks s, [powerReport .standby s.psc.power .hostOff s.spu.host deferred none []])
  (a.andThen sbuPowerChange).andThen
    (emitWith fun s =>
      (if s.par.dockLines = 1 ∧ releasedAtStandby s.dlc.state then [.dlcRelease (some .psc)] else []) ++ [.pscLevels])

/-- The expiry of the standby timer (10 R179). -/
def standbyDue (s : State) : Act :=
  if deferring s then quiet { s with psc := { s.psc with standby := none, deferred := true } }
  else enterStandby false s

/-- STANDBY_TIMER_EXPIRY (10 R179). -/
def standbyTimerExpiry (s : State) : Act := onExpiry s.psc.standby standbyDue s

/-- The standby condition is judged again in DOZE (10 R179); with a doze delay of 0 a change of the dock state can enter STANDBY at once, before the report of the step that it ends (log 68). -/
def standbyRecheck (s : State) : Act :=
  if s.psc.power = .doze then
    if standbyCondition s then
      if s.psc.standby.isNone ∧ !s.psc.deferred then
        if s.par.dozeDelay = 0 then standbyDue s
        else quiet { s with psc := { s.psc with standby := some (s.par.dozeDelay * 1000) } }
      else quiet s
    else quiet { s with psc := { s.psc with standby := none, deferred := false } }
  else quiet s

/-- While deferred: a phase change or a step end (10 R179). -/
def deferredRecheck (s : State) : Act :=
  if s.psc.power = .doze ∧ s.psc.deferred ∧ standbyCondition s ∧ !deferring s then enterStandby true s else quiet s

/-! ### RUN and DOZE -/

/-- DOZE entry (10 R178); the standby timer is judged last. -/
def enterDoze (s : State) : Act :=
  let s' := { s with psc := { s.psc with power := .doze, doze := none }, oru := s.oru.stop }
  let cause : PowerCause := if s.spu.host = .sleeping then .hostSleeping else .hostOff
  let a : Act := (s', [powerReport .doze s.psc.power cause s.spu.host false none []])
  (a.andThen sbuPowerChange).andThen (emitWith fun s => followPower .quiesce s ++ [.pscRecheck])

/-- The doze timer starts (10 R176). -/
def startDoze (s : State) : Act :=
  if s.par.dozeDelay = 0 then enterDoze s
  else quiet { s with psc := { s.psc with doze := some (s.par.dozeDelay * 1000) } }

/-- DOZE_TIMER_EXPIRY (10 R176). -/
def dozeTimerExpiry (s : State) : Act :=
  if s.psc.power = .run then onExpiry s.psc.doze enterDoze s else quiet s

/-- RUN has been entered (10 R177, R183). -/
def dozeCheck (s : State) : Act :=
  if s.psc.power = .run ∧ s.spu.host.dozes ∧ s.psc.doze.isNone then startDoze s else quiet s

/-- RUN from DOZE (10 R177). -/
def enterRunFromDoze (s : State) : Act :=
  let s' := { s with psc := { s.psc with power := .run, standby := none, deferred := false } }
  let a : Act := (s', [powerReport .run s.psc.power .hostState s.spu.host false none []])
  ((a.andThen orientResume).andThen sbuPowerChange).andThen
    (emitWith fun s => followPower .wake s ++ [.pscDozeCheck])

/-! ### Wake -/

/-- SETTLE entry (10 R182, R183). -/
def enterSettle (src : PowerSource) (s : State) : Act :=
  quiet
    { s with psc := { s.psc with power := .settle, wakeCause := some src, settle := some s.par.wakeSettle } }

/-- The STANDBY wake mask enables a source (10 R182, 10.7). -/
def wakeEnabled (p : Params) (src : PowerSource) : Bool := p.wakeMask.testBit src.code

/-- A wake event or wake condition (10 R182, R183): it ends STANDBY, and is latched in SETTLE; a LEVEL condition, too, only from a source that the mask enables (log 64). -/
def wakeEvent (src : PowerSource) (s : State) : Act :=
  if wakeEnabled s.par src then
    match s.psc.power with
    | .standby => enterSettle src s
    | .settle =>
      if s.psc.wakeCause = some src ∨ s.psc.latched.contains src then quiet s
      else quiet { s with psc := { s.psc with latched := s.psc.latched ++ [src] } }
    | .run | .doze => quiet s
  else quiet s

/-- The wake conditions present (10 R181, step 5): every input in LEVEL mode that is asserted. -/
def levelConditions (s : State) : Act :=
  (s, ([Input.lid, Input.fold, Input.garage, Input.presence].filter fun i =>
    s.par.mode i == 0 && (s.sib.input i).asserted).map fun i => .pscWake (inputSource i))

/-- UPLINK_ACTIVITY (10 R184): the first falling edge after STANDBY entry. -/
def uplinkActivity (s : State) : Act :=
  if !s.awake ∧ !s.psc.uplinkSeen then
    ({ s with psc := { s.psc with uplinkSeen := true } }, [.pscWake .uplink])
  else quiet s

/-- A change of host state reaches the PSC (10 R176, R177, R179, R182, R183). -/
def hostChanged (old new : HostState) (s : State) : Act :=
  match s.psc.power with
  | .run =>
    if new.dozes then if old.dozes then quiet s else startDoze s
    else quiet { s with psc := { s.psc with doze := none } }
  | .doze => if new.dozes then standbyRecheck s else enterRunFromDoze s
  | .standby => if new = .off then quiet s else enterSettle .host s
  | .settle => quiet s

/-- The blocks that restart without a report (10 R183, step 2; R184). -/
def runBlocks (s : State) : State :=
  { s with
    psc := { s.psc with power := .run, settle := none, latched := [] }
    ulp := { s.ulp with rx := [] } }

/-- RUN from SETTLE (10 R183); the POWER report goes before the reports that the entry causes (10 R185, log 18). Every block stores its restarted values, in the order of R183, before what they hand on is run (log 77); a walk that has waited takes its step after the opened slot, the readings and the measurement (log 78). -/
def enterRunFromSettle (w : WakeSense) (s : State) : Act :=
  let a : Act :=
    (runBlocks s, [powerReport .run s.psc.power .wake s.spu.host false s.psc.wakeCause s.psc.latched])
  ((((((a.andThen hauRestart).andThen orientRestart).andThen pclRestart).andThen fun s => quiet (dlcRestart s)).andThen
      (sbuRestart w.rail w.temp)).andThen (pccRestart w.cellV w.cellI)).andThen
    (emitWith fun s => .walkNext :: followPower .wake s ++ [.pscDozeCheck])

/-- SETTLE_TIMER_EXPIRY (10 R183). -/
def settleTimerExpiry (w : WakeSense) (s : State) : Act := onExpiry s.psc.settle (enterRunFromSettle w) s

end Sys2Proof.Machine
end

