-- ==== Sys2Proof/Machine/Cascade.lean ====
section
/-! DEFINITION. The cascade: every handover that a command causes runs, in order, before the command ends (95: a step is whole and indivisible; log 3). -/

namespace Sys2Proof.Machine

/-- What a block does with a handover. -/
def handle : Signal → State → Act
  | .report k f => composeReport k f
  | .reportRemoved => offerOverflow
  | .spaceEvent => spaceEvent
  | .arbiter => arbiterChoice
  | .received ct p => receiveFrame ct p
  | .serve => serveQueue
  | .reply r => commandReply r
  | .holdBegin => beginHold
  | .holdEnd => endHold
  | .hauHall => hallChange
  | .oruEval => orientEvaluate
  | .oruCommit u => orientCommit u
  | .hinge => hingeAtSample
  | .mirror => mirrorSample
  | .pclEval => postureEvaluate
  | .pclCommit => postureCommit
  | .igtCommit c => gateCommit c
  | .spuEval t => spuEvaluate t
  | .wakeRequest src => wakeRequest src
  | .spuAction => spuAction
  | .cutAssert => cutAssert
  | .dockLevel l => dockRequest l
  | .hauDock b => hauDockNotice b
  | .pclDock => pclDockNotice
  | .igtDeparture => gateDeparture
  | .pscRecheck => standbyRecheck
  | .grantApplied b => grantApplied b
  | .dlcPresence a => dlcPresence a
  | .dlcRevoked => dockRevoked
  | .dlcRelease o => dockRelease o
  | .dlcPowerReq q => powerRequest q
  | .dlcBegin st => beginStep st
  | .walkNext => walkNext
  | .servePower => servePower
  | .openDue => openDue
  | .dlcRecover => beginRecovery
  | .pccGarage a => if a then penInserted else penRemoved
  | .pccLimit => limitAfterWrite
  | .headStep => headStep
  | .gateRoute b => gateRoute b
  | .headAdmit => headAdmit
  | .holdCheck b => holdCheck b
  | .pscHost old new => hostChanged old new
  | .pscDeferred => deferredRecheck
  | .pscWake src => wakeEvent src
  | .pscLevels => levelConditions
  | .pscDozeCheck => dozeCheck

/-- What a handover hands on runs before what stands behind it, but for the commands that the beginning of the upstream hold sets free: each is a step of its own and runs when this one is complete (95; log 3). -/
def schedule (g : Signal) (new rest : List Signal) : List Signal :=
  match g with
  | .holdBegin => rest ++ new
  | _ => new ++ rest

/-- The handovers run depth first, in the order of `schedule`. The count bounds the recursion (log 4). -/
def cascade : Nat → List Signal → State → State
  | 0, _, s => s
  | _ + 1, [], s => s
  | n + 1, g :: rest, s => cascade n (schedule g (handle g s).2 rest) (handle g s).1

/-- More handovers than any command causes (log 4). -/
def cascadeBound : Nat := 1048576

/-- The state in which a command ends. -/
def settle (a : Act) : State := cascade cascadeBound a.2 a.1

/-- The outcome of a command: every command ends in a next state. -/
def finish (a : Act) : Host.Outcome State Fault Refusal := .next (settle a)

end Sys2Proof.Machine
end

