-- ==== Sys2Proof/Machine/Reset.lean ====
section
/-! DEFINITION. The resets (11 R197, R202): what each block takes (01 R6, R22, 02 R35, 03 R55, 04 R85, 05 R111, 06 R124, 07 R138, 08 R156, 09 R175, 10 R187), and what the blocks do at the end of a reset. -/

namespace Sys2Proof.Machine

/-- A switch input whose debounced state is taken directly from its pin through the default polarity, without a run (01 R6). -/
def switchFromPin (polarity : Nat) (high : Bool) : SwitchInput := ⟨high, rawState polarity high, none⟩

/-- The four inputs after a power-on, brownout, pin or full reset (01 R6). -/
def sibFromPins (p : Pins) : Sib where
  lid := switchFromPin Params.default.lidPolarity p.lid
  fold := switchFromPin Params.default.foldPolarity p.fold
  garage := switchFromPin Params.default.garagePolarity p.garage
  presence := switchFromPin Params.default.presencePolarity p.presence

/-- The pin levels that the part has seen. -/
def Sib.pins (b : Sib) : Pins := ⟨b.lid.level, b.fold.level, b.garage.level, b.presence.level⟩

/-- The frame that is on the line at a reset: it is completed from its copy (11 R202, log 10). -/
def Ulp.sending (u : Ulp) : Option UpFrame :=
  match u.preReset with
  | some f => some f
  | none => u.line

/-- The hinge record and the lid sample period at a reset (01 R22, log 27). -/
def hauAtReset (s : State) : State :=
  { s with
    hau :=
      { Hau.atReset with
        hinge := (hallForced s).getD Hinge.lost, sampleTimer := some (samplePeriod .run s.par.lidRate) } }

/-- The first readings, taken at the end of a reset (07 R126, R127, R138), the temperature stored before the rail is taken (log 59); the temperature is judged in the SPU's evaluation at the end. -/
def firstReadings (rail temp : Int) (s : State) : Act :=
  takeRail rail { s with sbu := { s.sbu with temp := max (-40) (min 125 temp) } }

/-- The DLC reads PRESENCE (04 R85). -/
def dockAtReset (s : State) : Act := if s.sib.presence.asserted then presenceAsserted s else quiet s

/-- The PCC reads GARAGE (08 R156). -/
def penAtReset (s : State) : Act :=
  if s.sib.garage.asserted then
    if s.par.autoCharge = 0 then quiet { s with pcc := { s.pcc with phase := .idleDocked } } else startSession s
  else quiet s

/-- The end of a reset, on the blocks' reset values: START first, and the arbiter's choice if START has found no room and the line is IDLE (11 R201, log 47), then the hinge record, the first readings, the PCL's first evaluation, PRESENCE, GARAGE, the SPU's one evaluation (11 R202, 01 R22, 07 R138, 03 R55, 04 R85, 08 R156, 09 R175). What the readings and a posture commit of dwell 0 hand on runs once PRESENCE and GARAGE have been read (log 74). -/
def endReset (rail temp : Int) (s : State) : Act :=
  let a : Act := (hauAtReset s, [startReport s.ulp, .arbiter])
  (((((a.andThen (firstReadings rail temp)).andThen postureChoose).andThen dockAtReset).andThen penAtReset)).andThen
    fun s => (s, [.spuEval .other])

/-- Every block at the values of a power-on, brownout, pin or full reset. -/
def fullResetBlocks (cause : ResetCause) (sib : Sib) (s : State) : State where
  sib := sib
  hau := Hau.atReset
  oru := Oru.atReset false
  pcl := Pcl.atReset defaultPostures
  dlc := Dlc.atReset
  igt := Igt.atReset (List.replicate 16 defaultDir) (List.replicate 128 defaultEntry)
  fbf := Fbf.atReset AreaMap.default []
  sbu := Sbu.atReset
  pcc := Pcc.atReset Profile.default
  spu := Spu.atReset .notifyThenCut (List.replicate 16 defaultRule)
  psc := Psc.atReset
  ulp :=
    Ulp.atReset cause false s.ulp.sending (BitVec.allOnes 21) 0 defaultPlatform defaultDriver false
  par := Params.default
  ms := 0
  pending := s.pending

/-- Every block at the values of a soft reset: what the chapters keep is kept; an attached base is taken to ABSENT, and what that leaves in the Input area is emptied with it (04 R85, 06 R124, log 39). -/
def softResetBlocks (s : State) : State where
  sib := s.sib
  hau := Hau.atReset
  oru := Oru.atReset s.oru.lock
  pcl := Pcl.atReset s.pcl.table
  dlc := Dlc.atReset
  igt := Igt.atReset s.igt.dir s.igt.entries
  fbf := Fbf.atReset s.fbf.map s.fbf.report
  sbu := Sbu.atReset
  pcc := Pcc.atReset s.pcc.profile
  spu := Spu.atReset s.spu.forceMode s.spu.rules
  psc := Psc.atReset
  ulp :=
    Ulp.atReset .softCommand true s.ulp.sending s.ulp.mask s.ulp.lost s.ulp.platform s.ulp.driver s.ulp.freeze
  par := s.par
  ms := 0
  pending := s.pending

/-- A power-on, brownout or pin reset, with what the part senses at its end (11 R202). -/
def hardReset (cause : ResetCause) (r : ResetSense) (s : State) : Act :=
  endReset r.rail r.temp (fullResetBlocks cause (sibFromPins r.pins) s)

/-- FULL_RESET: the reset that PART_RESET FULL has ordered (11 R197); the pins stand as the part has last seen them (log 8, log 38). -/
def fullReset (rail temp : Int) (s : State) : Act :=
  if s.ulp.resetDue = some .full then
    endReset rail temp (fullResetBlocks .fullCommand (sibFromPins s.sib.pins) s)
  else quiet s

/-- SOFT_RESET: the reset that PART_RESET SOFT has ordered (11 R197, log 38). -/
def softReset (rail temp : Int) (s : State) : Act :=
  if s.ulp.resetDue = some .soft then endReset rail temp (softResetBlocks s) else quiet s

end Sys2Proof.Machine
end

