-- ==== Sys2Proof/Machine/Events.lean ====
section
/-! DEFINITION. The meanings of the events, one for each row of the table from RAW_CHANGE to SOFT_RESET. -/

namespace Sys2Proof.Machine

/-- A complete answer of the base closes the slot: VALID with its content, or GARBLED (04 R58). -/
def dockAnswer (bytes : List Byte) (s : State) : Act :=
  closeSlot gateArrival (parseAnswer bytes) (if (parseAnswer bytes).isSome then .valid else .garbled) s

/-- RAW_CHANGE (01 R1). -/
def execRawChange (i : Input) (high : Bool) (s : State) : Host.Outcome State Fault Refusal := finish (rawChange i high s)

/-- DEBOUNCE_EXPIRY (01 R1). -/
def execDebounceExpiry (i : Input) (s : State) : Host.Outcome State Fault Refusal := finish (debounceExpiry i s)

/-- LID_SAMPLE_EVENT (01 R7). -/
def execLidSampleEvent (x y z : Int) (s : State) : Host.Outcome State Fault Refusal := finish (lidSample x y z s)

/-- ORIENT_DWELL_EXPIRY (02 R30). -/
def execOrientDwellExpiry (s : State) : Host.Outcome State Fault Refusal := finish (orientDwellExpiry s)

/-- POSTURE_DWELL_EXPIRY (03 R45). -/
def execPostureDwellExpiry (s : State) : Host.Outcome State Fault Refusal := finish (postureDwellExpiry s)

/-- RESTART_HOLD_EXPIRY (03 R54). -/
def execRestartHoldExpiry (s : State) : Host.Outcome State Fault Refusal := finish (restartHoldExpiry s)

/-- SETTLE_TIMER_DOCK_EXPIRY (04 R62). -/
def execSettleTimerDockExpiry (s : State) : Host.Outcome State Fault Refusal := finish (settleTimerDockExpiry s)

/-- POLL_PERIOD_EXPIRY (04 R60). -/
def execPollPeriodExpiry (s : State) : Host.Outcome State Fault Refusal := finish (pollPeriodExpiry s)

/-- IDENT_ATTEMPT_OPEN (04 R63). -/
def execIdentAttemptOpen (s : State) : Host.Outcome State Fault Refusal := finish (identAttemptOpen s)

/-- DOCK_ANSWER (04 R58). -/
def execDockAnswer (bytes : List Byte) (s : State) : Host.Outcome State Fault Refusal := finish (dockAnswer bytes s)

/-- ANSWER_STOPPED_SHORT (04 R58): a GARBLED outcome. -/
def execAnswerStoppedShort (s : State) : Host.Outcome State Fault Refusal := finish (closeSlot gateArrival none .garbled s)

/-- ANSWER_WINDOW_EXPIRY (04 R57, R58): a MISSING outcome. -/
def execAnswerWindowExpiry (s : State) : Host.Outcome State Fault Refusal := finish (closeSlot gateArrival none .missing s)

/-- READY_TIMER_EXPIRY (04 R66, R72). -/
def execReadyTimerExpiry (s : State) : Host.Outcome State Fault Refusal := finish (readyTimerExpiry s)

/-- DOCK_ATTENTION (04 R83). -/
def execDockAttention (s : State) : Host.Outcome State Fault Refusal := finish (dockAttention s)

/-- WALK_STEP_RESUME (04 R83; log 5). -/
def execWalkStepResume (s : State) : Host.Outcome State Fault Refusal := finish (walkNext s)

/-- POWER_REQUEST_SERVE (04 R80; log 5). -/
def execPowerRequestServe (s : State) : Host.Outcome State Fault Refusal := finish (servePower s)

/-- PENDING_GRANT_APPLY (07 R129; log 5). -/
def execPendingGrantApply (s : State) : Host.Outcome State Fault Refusal := finish (pendingGrantApply s)

/-- HOLD_EXPIRY (05 R101). -/
def execHoldExpiry (s : State) : Host.Outcome State Fault Refusal := finish (holdExpiry s)

/-- SPACE_EVENT (06 R114, 05 R96, R105; log 5). -/
def execSpaceEvent (s : State) : Host.Outcome State Fault Refusal := finish (spaceEvent s)

/-- IDLE_TIMER_INCREMENT (05 R108). -/
def execIdleTimerIncrement (s : State) : Host.Outcome State Fault Refusal := finish (idleIncrement s)

/-- RAIL_READING (07 R126). -/
def execRailReading (mv : Int) (s : State) : Host.Outcome State Fault Refusal := finish (railReading mv s)

/-- SHED_TIMER_EXPIRY (07 R133). -/
def execShedTimerExpiry (s : State) : Host.Outcome State Fault Refusal := finish (shedTimerExpiry s)

/-- TEMPERATURE_READING (07 R127). -/
def execTemperatureReading (t : Int) (s : State) : Host.Outcome State Fault Refusal := finish (temperatureReading t s)

/-- MEASUREMENT_EVENT (08 R145). -/
def execMeasurementEvent (mv ma : Int) (s : State) : Host.Outcome State Fault Refusal := finish (measurementEvent mv ma s)

/-- PHASE_LIMIT_EXPIRY (08 R150). -/
def execPhaseLimitExpiry (s : State) : Host.Outcome State Fault Refusal := finish (phaseLimitExpiry s)

/-- SLEEP_DWELL_EXPIRY (09 R162). -/
def execSleepDwellExpiry (s : State) : Host.Outcome State Fault Refusal := finish (sleepDwellExpiry s)

/-- WAKE_TIMER_EXPIRY (09 R166). -/
def execWakeTimerExpiry (s : State) : Host.Outcome State Fault Refusal := finish (wakeTimerExpiry s)

/-- COMPLIANCE_EXPIRY (09 R168). -/
def execComplianceExpiry (s : State) : Host.Outcome State Fault Refusal := finish (complianceExpiry s)

/-- CUT_WAIT_EXPIRY (09 R169). -/
def execCutWaitExpiry (s : State) : Host.Outcome State Fault Refusal := finish (cutWaitExpiry s)

/-- CUT_PULSE_EXPIRY (09 R169). -/
def execCutPulseExpiry (s : State) : Host.Outcome State Fault Refusal := finish (cutPulseExpiry s)

/-- PENDING_WAKE_SERVE (09 R170; log 5). -/
def execPendingWakeServe (s : State) : Host.Outcome State Fault Refusal := finish (servePendingWake s)

/-- UNLOCK_WINDOW_TIMEOUT (09 R171). -/
def execUnlockWindowTimeout (s : State) : Host.Outcome State Fault Refusal := finish (unlockTimeout s)

/-- DOZE_TIMER_EXPIRY (10 R176). -/
def execDozeTimerExpiry (s : State) : Host.Outcome State Fault Refusal := finish (dozeTimerExpiry s)

/-- STANDBY_TIMER_EXPIRY (10 R179). -/
def execStandbyTimerExpiry (s : State) : Host.Outcome State Fault Refusal := finish (standbyTimerExpiry s)

/-- DEFERRED_STANDBY_ENTRY (10 R179; log 5). -/
def execDeferredStandbyEntry (s : State) : Host.Outcome State Fault Refusal := finish (deferredRecheck s)

/-- SETTLE_TIMER_EXPIRY (10 R183). -/
def execSettleTimerExpiry (w : WakeSense) (s : State) : Host.Outcome State Fault Refusal := finish (settleTimerExpiry w s)

/-- UPLINK_ACTIVITY (10 R184). -/
def execUplinkActivity (s : State) : Host.Outcome State Fault Refusal := finish (uplinkActivity s)

/-- COMMAND_FRAME_RECEIVED (11 R188). -/
def execCommandFrameReceived (bytes : List Byte) (s : State) : Host.Outcome State Fault Refusal := finish (receiveBytes false bytes s)

/-- UPLINK_FRAME_DISCARD (11 R188): after a framing error no byte held goes on being a frame (log 26). -/
def execUplinkFrameDiscard (bytes : List Byte) (framingError : Bool) (s : State) : Host.Outcome State Fault Refusal := finish (receiveBytes framingError bytes s)

/-- INTERBYTE_TIMEOUT (11 R188). -/
def execInterbyteTimeout (s : State) : Host.Outcome State Fault Refusal := finish (receiveBytes true [] s)

/-- FRAME_TRANSMIT_END (11 R201). -/
def execFrameTransmitEnd (s : State) : Host.Outcome State Fault Refusal := finish (transmitEnd s)

/-- OVERFLOW_REPORT (11 R200; log 5). -/
def execOverflowReport (s : State) : Host.Outcome State Fault Refusal := finish (offerOverflow s)

/-- POWER_ON_RESET (11 R202). -/
def execPowerOnReset (r : ResetSense) (s : State) : Host.Outcome State Fault Refusal := finish (hardReset .powerOn r s)

/-- BROWNOUT_RESET (11 R202). -/
def execBrownoutReset (r : ResetSense) (s : State) : Host.Outcome State Fault Refusal := finish (hardReset .brownout r s)

/-- PIN_RESET (11 R202). -/
def execPinReset (r : ResetSense) (s : State) : Host.Outcome State Fault Refusal := finish (hardReset .pin r s)

/-- FULL_RESET (11 R197, R202). -/
def execFullReset (rail temp : Int) (s : State) : Host.Outcome State Fault Refusal := finish (fullReset rail temp s)

/-- SOFT_RESET (11 R197, R202). -/
def execSoftReset (rail temp : Int) (s : State) : Host.Outcome State Fault Refusal := finish (softReset rail temp s)

end Sys2Proof.Machine
end

