-- ==== Sys2Proof/Machine/HostCommands.lean ====
section
/-! DEFINITION. The meanings of the host's commands, one for each row of the table from ECHO to PART_RESET_FULL: the payload that spells the command (11 R203) is received whole, on the channel and with the tag of `ct` (log 6). -/

namespace Sys2Proof.Machine

/-- A command of the host. -/
def hostCommand (ct : Byte) (payload : List Byte) (s : State) : Host.Outcome State Fault Refusal :=
  finish (hostFrame ct payload s)

/-- ECHO (11 R192). -/
def execEcho (ct : Byte) (s : State) : Host.Outcome State Fault Refusal :=
  hostCommand ct ([1]) s

/-- TABLE_WRITE POSTURE (03 R39, 11 R195). -/
def execTableWritePosture (ct : Byte) (idx : Byte) (entry : List Byte) (s : State) : Host.Outcome State Fault Refusal :=
  hostCommand ct (2 :: 0 :: idx :: entry) s

/-- TABLE_WRITE GATE_DIR (05 R86, 11 R195). -/
def execTableWriteGateDir (ct : Byte) (idx : Byte) (entry : List Byte) (s : State) : Host.Outcome State Fault Refusal :=
  hostCommand ct (2 :: 1 :: idx :: entry) s

/-- TABLE_WRITE GATE_ENTRY (05 R87, 11 R195). -/
def execTableWriteGateEntry (ct : Byte) (idx : Byte) (entry : List Byte) (s : State) : Host.Outcome State Fault Refusal :=
  hostCommand ct (2 :: 2 :: idx :: entry) s

/-- TABLE_WRITE SLEEP_RULE (09 R159, 11 R195). -/
def execTableWriteSleepRule (ct : Byte) (idx : Byte) (entry : List Byte) (s : State) : Host.Outcome State Fault Refusal :=
  hostCommand ct (2 :: 3 :: idx :: entry) s

/-- TABLE_WRITE CHARGE_PROFILE (08 R152, R153). -/
def execTableWriteChargeProfile (ct : Byte) (idx : Byte) (entry : List Byte) (s : State) : Host.Outcome State Fault Refusal :=
  hostCommand ct (2 :: 4 :: idx :: entry) s

/-- TABLE_READ (11 R195). -/
def execTableRead (ct : Byte) (table idx : Byte) (s : State) : Host.Outcome State Fault Refusal :=
  hostCommand ct ([3, table, idx]) s

/-- HITS_CLEAR (05 R87). -/
def execHitsClear (ct : Byte) (first count : Byte) (s : State) : Host.Outcome State Fault Refusal :=
  hostCommand ct ([4, first, count]) s

/-- CONFIG_SET (11 R195). -/
def execConfigSet (ct : Byte) (num : Byte) (value : BitVec 32) (s : State) : Host.Outcome State Fault Refusal :=
  hostCommand ct (5 :: num :: num4 value.toNat) s

/-- CONFIG_GET (11 R195). -/
def execConfigGet (ct : Byte) (num : Byte) (s : State) : Host.Outcome State Fault Refusal :=
  hostCommand ct ([6, num]) s

/-- STATUS_READ (11 R196). -/
def execStatusRead (ct : Byte) (block page : Byte) (s : State) : Host.Outcome State Fault Refusal :=
  hostCommand ct ([7, block, page]) s

/-- REPORT_ENABLE (11 R199). -/
def execReportEnable (ct : Byte) (mask : BitVec 24) (s : State) : Host.Outcome State Fault Refusal :=
  hostCommand ct ([8, byte mask.toNat, byte (mask.toNat / 256), byte (mask.toNat / 65536)]) s

/-- DOCK_STEP IDENTIFY (04 R63, R78). -/
def execDockStepIdentify (ct : Byte) (s : State) : Host.Outcome State Fault Refusal :=
  hostCommand ct ([9, 0]) s

/-- DOCK_STEP POWER (04 R66, R78). -/
def execDockStepPower (ct : Byte) (s : State) : Host.Outcome State Fault Refusal :=
  hostCommand ct ([9, 1]) s

/-- DOCK_STEP QUIESCE (04 R70, R78). -/
def execDockStepQuiesce (ct : Byte) (s : State) : Host.Outcome State Fault Refusal :=
  hostCommand ct ([9, 2]) s

/-- DOCK_STEP WAKE (04 R72, R78). -/
def execDockStepWake (ct : Byte) (s : State) : Host.Outcome State Fault Refusal :=
  hostCommand ct ([9, 3]) s

/-- DOCK_STEP RELEASE (04 R73, R78). -/
def execDockStepRelease (ct : Byte) (s : State) : Host.Outcome State Fault Refusal :=
  hostCommand ct ([9, 4]) s

/-- DOCK_AUTO (04 R79). -/
def execDockAuto (ct : Byte) (target : Byte) (s : State) : Host.Outcome State Fault Refusal :=
  hostCommand ct ([10, target]) s

/-- PASSDOWN (04 R81). -/
def execPassdown (ct : Byte) (bytes : List Byte) (s : State) : Host.Outcome State Fault Refusal :=
  hostCommand ct (11 :: bytes) s

/-- GATE_RESCAN (05 R104). -/
def execGateRescan (ct : Byte) (s : State) : Host.Outcome State Fault Refusal :=
  hostCommand ct ([12]) s

/-- GATE_FLUSH (05 R106). -/
def execGateFlush (ct : Byte) (s : State) : Host.Outcome State Fault Refusal :=
  hostCommand ct ([13]) s

/-- ROTATION_LOCK (02 R32). -/
def execRotationLock (ct : Byte) (value : Byte) (s : State) : Host.Outcome State Fault Refusal :=
  hostCommand ct ([14, value]) s

/-- CHARGE_CONTROL START (08 R143). -/
def execChargeControlStart (ct : Byte) (s : State) : Host.Outcome State Fault Refusal :=
  hostCommand ct ([15, 0]) s

/-- CHARGE_CONTROL STOP (08 R144). -/
def execChargeControlStop (ct : Byte) (s : State) : Host.Outcome State Fault Refusal :=
  hostCommand ct ([15, 1]) s

/-- HOST_STATE (09 R157). -/
def execHostState (ct : Byte) (value : Byte) (s : State) : Host.Outcome State Fault Refusal :=
  hostCommand ct ([16, value]) s

/-- POLICY_UNLOCK (09 R171). -/
def execPolicyUnlock (ct : Byte) (s : State) : Host.Outcome State Fault Refusal :=
  hostCommand ct ([17]) s

/-- FORCE_MODE (09 R171). -/
def execForceMode (ct : Byte) (mode : Byte) (s : State) : Host.Outcome State Fault Refusal :=
  hostCommand ct ([18, mode]) s

/-- AREA_MAP (06 R120). -/
def execAreaMap (ct : Byte) (words : List (BitVec 16)) (s : State) : Host.Outcome State Fault Refusal :=
  hostCommand ct (19 :: words.flatMap fun w => num2 w.toNat) s

/-- AREA_CLEAR (06 R122). -/
def execAreaClear (ct : Byte) (area : Byte) (s : State) : Host.Outcome State Fault Refusal :=
  hostCommand ct ([20, area]) s

/-- AREA_PEEK (06 R123). -/
def execAreaPeek (ct : Byte) (area : Byte) (index : BitVec 16) (count : Byte) (s : State) : Host.Outcome State Fault Refusal :=
  hostCommand ct (21 :: area :: (num2 index.toNat ++ [count])) s

/-- ACCESS_SET (11 R194). -/
def execAccessSet (ct : Byte) (channel group word : Byte) (s : State) : Host.Outcome State Fault Refusal :=
  hostCommand ct ([22, channel, group, word]) s

/-- ACCESS_FREEZE (11 R194). -/
def execAccessFreeze (ct : Byte) (s : State) : Host.Outcome State Fault Refusal :=
  hostCommand ct ([23]) s

/-- PART_RESET SOFT (11 R197). -/
def execPartResetSoft (ct : Byte) (s : State) : Host.Outcome State Fault Refusal :=
  hostCommand ct ([24, 0]) s

/-- PART_RESET FULL (11 R197). -/
def execPartResetFull (ct : Byte) (s : State) : Host.Outcome State Fault Refusal :=
  hostCommand ct ([24, 1]) s

end Sys2Proof.Machine
end

