-- ==== Sys2Proof/Machine/Dispatch.lean ====
section
/-! DEFINITION. One arm per command: each calls its meaning. -/

namespace Sys2Proof.Machine

def exec (i : Instr) (s : State) : Host.Outcome State Fault Refusal :=
  match i with
  | .rawChange input high => Sys2Proof.Machine.execRawChange input high s
  | .debounceExpiry input => Sys2Proof.Machine.execDebounceExpiry input s
  | .lidSampleEvent x y z => Sys2Proof.Machine.execLidSampleEvent x y z s
  | .orientDwellExpiry => Sys2Proof.Machine.execOrientDwellExpiry s
  | .postureDwellExpiry => Sys2Proof.Machine.execPostureDwellExpiry s
  | .restartHoldExpiry => Sys2Proof.Machine.execRestartHoldExpiry s
  | .settleTimerDockExpiry => Sys2Proof.Machine.execSettleTimerDockExpiry s
  | .pollPeriodExpiry => Sys2Proof.Machine.execPollPeriodExpiry s
  | .identAttemptOpen => Sys2Proof.Machine.execIdentAttemptOpen s
  | .dockAnswer bytes => Sys2Proof.Machine.execDockAnswer bytes s
  | .answerStoppedShort => Sys2Proof.Machine.execAnswerStoppedShort s
  | .answerWindowExpiry => Sys2Proof.Machine.execAnswerWindowExpiry s
  | .readyTimerExpiry => Sys2Proof.Machine.execReadyTimerExpiry s
  | .dockAttention => Sys2Proof.Machine.execDockAttention s
  | .walkStepResume => Sys2Proof.Machine.execWalkStepResume s
  | .powerRequestServe => Sys2Proof.Machine.execPowerRequestServe s
  | .pendingGrantApply => Sys2Proof.Machine.execPendingGrantApply s
  | .holdExpiry => Sys2Proof.Machine.execHoldExpiry s
  | .spaceEvent => Sys2Proof.Machine.execSpaceEvent s
  | .idleTimerIncrement => Sys2Proof.Machine.execIdleTimerIncrement s
  | .railReading mv => Sys2Proof.Machine.execRailReading mv s
  | .shedTimerExpiry => Sys2Proof.Machine.execShedTimerExpiry s
  | .temperatureReading t => Sys2Proof.Machine.execTemperatureReading t s
  | .measurementEvent mv ma => Sys2Proof.Machine.execMeasurementEvent mv ma s
  | .phaseLimitExpiry => Sys2Proof.Machine.execPhaseLimitExpiry s
  | .sleepDwellExpiry => Sys2Proof.Machine.execSleepDwellExpiry s
  | .wakeTimerExpiry => Sys2Proof.Machine.execWakeTimerExpiry s
  | .complianceExpiry => Sys2Proof.Machine.execComplianceExpiry s
  | .cutWaitExpiry => Sys2Proof.Machine.execCutWaitExpiry s
  | .cutPulseExpiry => Sys2Proof.Machine.execCutPulseExpiry s
  | .pendingWakeServe => Sys2Proof.Machine.execPendingWakeServe s
  | .unlockWindowTimeout => Sys2Proof.Machine.execUnlockWindowTimeout s
  | .dozeTimerExpiry => Sys2Proof.Machine.execDozeTimerExpiry s
  | .standbyTimerExpiry => Sys2Proof.Machine.execStandbyTimerExpiry s
  | .deferredStandbyEntry => Sys2Proof.Machine.execDeferredStandbyEntry s
  | .settleTimerExpiry w => Sys2Proof.Machine.execSettleTimerExpiry w s
  | .uplinkActivity => Sys2Proof.Machine.execUplinkActivity s
  | .commandFrameReceived bytes => Sys2Proof.Machine.execCommandFrameReceived bytes s
  | .uplinkFrameDiscard bytes framingError => Sys2Proof.Machine.execUplinkFrameDiscard bytes framingError s
  | .interbyteTimeout => Sys2Proof.Machine.execInterbyteTimeout s
  | .frameTransmitEnd => Sys2Proof.Machine.execFrameTransmitEnd s
  | .overflowReport => Sys2Proof.Machine.execOverflowReport s
  | .powerOnReset r => Sys2Proof.Machine.execPowerOnReset r s
  | .brownoutReset r => Sys2Proof.Machine.execBrownoutReset r s
  | .pinReset r => Sys2Proof.Machine.execPinReset r s
  | .fullReset rail temp => Sys2Proof.Machine.execFullReset rail temp s
  | .softReset rail temp => Sys2Proof.Machine.execSoftReset rail temp s
  | .echo ct => Sys2Proof.Machine.execEcho ct s
  | .tableWritePosture ct idx entry => Sys2Proof.Machine.execTableWritePosture ct idx entry s
  | .tableWriteGateDir ct idx entry => Sys2Proof.Machine.execTableWriteGateDir ct idx entry s
  | .tableWriteGateEntry ct idx entry => Sys2Proof.Machine.execTableWriteGateEntry ct idx entry s
  | .tableWriteSleepRule ct idx entry => Sys2Proof.Machine.execTableWriteSleepRule ct idx entry s
  | .tableWriteChargeProfile ct idx entry => Sys2Proof.Machine.execTableWriteChargeProfile ct idx entry s
  | .tableRead ct table idx => Sys2Proof.Machine.execTableRead ct table idx s
  | .hitsClear ct first count => Sys2Proof.Machine.execHitsClear ct first count s
  | .configSet ct num value => Sys2Proof.Machine.execConfigSet ct num value s
  | .configGet ct num => Sys2Proof.Machine.execConfigGet ct num s
  | .statusRead ct block page => Sys2Proof.Machine.execStatusRead ct block page s
  | .reportEnable ct mask => Sys2Proof.Machine.execReportEnable ct mask s
  | .dockStepIdentify ct => Sys2Proof.Machine.execDockStepIdentify ct s
  | .dockStepPower ct => Sys2Proof.Machine.execDockStepPower ct s
  | .dockStepQuiesce ct => Sys2Proof.Machine.execDockStepQuiesce ct s
  | .dockStepWake ct => Sys2Proof.Machine.execDockStepWake ct s
  | .dockStepRelease ct => Sys2Proof.Machine.execDockStepRelease ct s
  | .dockAuto ct target => Sys2Proof.Machine.execDockAuto ct target s
  | .passdown ct bytes => Sys2Proof.Machine.execPassdown ct bytes s
  | .gateRescan ct => Sys2Proof.Machine.execGateRescan ct s
  | .gateFlush ct => Sys2Proof.Machine.execGateFlush ct s
  | .rotationLock ct value => Sys2Proof.Machine.execRotationLock ct value s
  | .chargeControlStart ct => Sys2Proof.Machine.execChargeControlStart ct s
  | .chargeControlStop ct => Sys2Proof.Machine.execChargeControlStop ct s
  | .hostState ct value => Sys2Proof.Machine.execHostState ct value s
  | .policyUnlock ct => Sys2Proof.Machine.execPolicyUnlock ct s
  | .forceMode ct mode => Sys2Proof.Machine.execForceMode ct mode s
  | .areaMap ct words => Sys2Proof.Machine.execAreaMap ct words s
  | .areaClear ct area => Sys2Proof.Machine.execAreaClear ct area s
  | .areaPeek ct area index count => Sys2Proof.Machine.execAreaPeek ct area index count s
  | .accessSet ct channel group word => Sys2Proof.Machine.execAccessSet ct channel group word s
  | .accessFreeze ct => Sys2Proof.Machine.execAccessFreeze ct s
  | .partResetSoft ct => Sys2Proof.Machine.execPartResetSoft ct s
  | .partResetFull ct => Sys2Proof.Machine.execPartResetFull ct s

end Sys2Proof.Machine
end

