-- ==== Sys2Proof/Safety.lean ====
section
/-! DEFINITION. What counts as a sound state, block by block, and the words in which the statements speak of a command of the host. -/

namespace Sys2Proof.Machine

/-! ### Sound states -/

/-- The keys-down set and its marks (05 5.3): at most 16 codes, each once; at most one mark on a code, and only on a code of the set. -/
abbrev Igt.KeysSound (g : Igt) : Prop :=
  g.keys.length ≤ 16 ∧ g.keys.Nodup ∧ (g.pend.map Pending.code).Nodup ∧ ∀ p ∈ g.pend, p.code ∈ g.keys

/-- The area map is one that AREA_MAP accepts, and every area's frames fit it (06 R112, R120). -/
abbrev Fbf.AreasSound (f : Fbf) : Prop :=
  f.map.valid = true ∧ occupancy f.input ≤ f.map.input.len ∧ holdOccupancy f.hold ≤ f.map.hold.len ∧
    occupancy f.report ≤ f.map.report.len ∧ occupancy f.passdown ≤ f.map.passdown.len ∧
    occupancy f.mirror ≤ f.map.mirror.len

/-- The dock grant and the pen setpoint together stay within the budget; the pen gets nothing in SHED, in STANDBY and SETTLE and outside a charging phase; the PCC holds the setpoint that the SBU computed, and the SBU the phase's current (07 R128, R130, R131). -/
abbrev State.BudgetSound (s : State) : Prop :=
  s.sbu.grant + s.sbu.penSet ≤ s.par.bTotal ∧ s.pcc.penSet = s.sbu.penSet ∧
    s.sbu.iPhase = phaseCurrent s.pcc.profile s.pcc.phase ∧
    (s.sbu.railState = .shed ∨ s.awake = false ∨ s.pcc.phase.charging = false → s.sbu.penSet = 0)

/-- The lines and timers of the SPU go with its host state and its cut stage; the state before waking, one of SLEEPING, ENTERING and OFF, and the wake source are present exactly in WAKING (09 9.1, R158, R163, R165 to R167, R169). -/
abbrev Spu.Sound (b : Spu) : Prop :=
  (b.wakeReq = true ↔ b.host = .waking) ∧ (b.wakeTimer.isSome = true ↔ b.host = .waking) ∧
    (b.pwrCut = true ↔ b.cutStage = .pulse) ∧ (b.cutTimer.isSome = true ↔ b.cutStage ≠ .none) ∧
    (b.cutStage ≠ .none → b.host = .off) ∧
    (b.before.isSome = true ↔ b.host = .waking) ∧
    (∀ h ∈ b.before, h = .sleeping ∨ h = .entering ∨ h = .off) ∧ (b.wakeSrc.isSome = true ↔ b.host = .waking) ∧
    (b.compliance.isSome = true ↔ b.host = .advised ∨ b.host = .entering) ∧
    (b.advising.isSome = true → b.host = .advised ∨ b.host = .entering)

/-- Each timer of the PSC runs in its own power state only, and an entry is deferred in DOZE only (10 10.1). -/
abbrev Psc.Sound (p : Psc) : Prop :=
  (p.doze.isSome = true → p.power = .run) ∧ (p.standby.isSome = true → p.power = .doze) ∧
    (p.deferred = true → p.power = .doze) ∧ (p.settle.isSome = true ↔ p.power = .settle)

/-- The states in which the part exchanges frames with a base (04 R60). -/
def DockState.talks : DockState → Bool
  | .identifying | .powering | .active | .quiesced | .waking => true
  | .absent | .settling | .present | .identified | .covered | .faulted => false

/-- What the dock state says of the rest of the DLC's record (04 4.3, R60 to R77): the timers, the slot in progress, the step in flight, the recovery mark, the fault cause, the base power, the counts of 3. -/
abbrev Dlc.Sound (d : Dlc) : Prop :=
  (d.settle.isSome = true → d.state = .settling) ∧
    (d.ready.isSome = true → d.state = .powering ∨ d.state = .waking) ∧
    (d.attemptTimer.isSome = true → d.state = .identifying) ∧ (d.slot.isSome = true → d.state.talks = true) ∧
    (d.recov = true → d.state = .identifying) ∧ (d.cause.isSome = true ↔ d.state = .faulted) ∧
    (d.basePower = true → d.state.supplied = true) ∧
    (d.await = some .ident → d.state = .identifying) ∧ (d.await = some .run → d.state = .powering ∨ d.state = .waking) ∧
    (d.step = some .identify → d.state = .identifying) ∧ (d.step = some .recover → d.recov = true) ∧
    (d.step = some .power → d.state = .powering) ∧ (d.step = some .wake → d.state = .waking) ∧
    (d.step = some .quiesce → d.state = .active) ∧
    d.attempts ≤ 3 ∧ d.missed ≤ 3 ∧ d.overdraw ≤ 3

/-- The depths of the queue and the overrun list, the lost count, the ten words of each channel, and PLATFORM's own SYSTEM word, which nothing changes (11 R189, R192, R194, R200). -/
abbrev Ulp.Sound (u : Ulp) : Prop :=
  u.queue.length ≤ 4 ∧ u.overruns.length ≤ 4 ∧ u.lost ≤ 255 ∧ u.platform.length = 10 ∧ u.driver.length = 10 ∧
    u.platform[9]? = some .write

/-- Every parameter is within its range, and the two pairs keep their distance (11 R195, 07 R134, R139). -/
def State.ParamsSound (s : State) : Prop :=
  (∀ n, 1 ≤ n → n ≤ 46 → (paramRange n).1 ≤ s.par.get n ∧ s.par.get n ≤ (paramRange n).2) ∧
    s.par.tKnee + 5 ≤ s.par.tCut ∧ s.par.shedLevel + 100 ≤ s.par.warnLevel ∧ s.sbu.grant ≤ s.par.bTotal

/-- A directory entry that a write accepts (05 R86). -/
abbrev GateDir.Sound (d : GateDir) : Prop := d.first ≤ 127 ∧ d.count ≤ 32 ∧ d.first + d.count ≤ 128

/-- A gate entry that a write accepts, its hit count saturated (05 R87, R91). -/
abbrev GateEntry.Sound (g : GateEntry) : Prop :=
  g.hits ≤ 255 ∧ g.low ≤ 255 ∧ g.high ≤ 255 ∧ (g.cls = .key → 1 ≤ g.low ∧ g.low ≤ g.high ∧ g.high ≤ 254)

/-- A sleep rule that a write accepts (09 R159). -/
abbrev SleepRule.Sound (r : SleepRule) : Prop :=
  r.minIdle ≤ 65535 ∧ r.dwell ≤ 60000 ∧ (∀ t ∈ r.temp, -40 ≤ t ∧ t ≤ 125) ∧
    (r.enabled = true → r.postures ≠ 0 ∧ r.bases ≠ 0)

/-- The tables keep their sizes, and hold only what their writes accept (03 R39, 05 R86, R87, 09 R159, 08 R152). -/
abbrev State.TablesSound (s : State) : Prop :=
  s.pcl.table.length = 16 ∧ s.igt.dir.length = 16 ∧ s.igt.entries.length = 128 ∧ s.spu.rules.length = 16 ∧
    (∀ r ∈ s.pcl.table, r.acceptable = true ∧ r.code ≤ 15) ∧ (∀ d ∈ s.igt.dir, d.Sound) ∧
    (∀ g ∈ s.igt.entries, g.Sound) ∧ (∀ r ∈ s.spu.rules, r.Sound) ∧ s.pcc.profile.valid = true

/-! ### Commands of the host -/

/-- The ULP executes a command as soon as its frame has come, whether or not the upstream hold applies: the part is awake, nothing waits, no reset is due (11 R188 to R190, 10 R184). -/
abbrev State.Prompt (s : State) : Prop :=
  s.awake = true ∧ s.ulp.executing = false ∧ s.ulp.resetDue = none ∧ s.ulp.slot = none ∧ s.ulp.queue = [] ∧
    s.ulp.overruns = []

/-- The ULP executes a command as soon as its frame has come: the part is awake, the upstream hold does not apply, nothing waits, no reset is due (11 R188 to R190, 09 R172, 10 R184). -/
abbrev State.Receptive (s : State) : Prop :=
  s.awake = true ∧ s.held = false ∧ s.ulp.executing = false ∧ s.ulp.resetDue = none ∧ s.ulp.slot = none ∧
    s.ulp.queue = [] ∧ s.ulp.overruns = []

/-- The channel of `ct` may use a group's commands of a need (11 R193). -/
abbrev State.Permitted (s : State) (ct : Byte) (g : Group) (write : Bool) : Prop :=
  channelOf ct < 2 ∧
    accessAllows (if channelOf ct = 0 then s.ulp.platform else s.ulp.driver) (some (g, write)) = true

/-- The state in which a command other than FORCE_MODE executes: its frame is counted, and the unlock window is closed (09 R171). -/
def State.afterFrame (s : State) : State := { s with spu := { s.spu.told s.ms with unlock := none } }

/-- A reply in the slot, or taken for the line at once when that is free (11 R190, R201). -/
def State.answered (s : State) (r : Reply) : State :=
  if s.ulp.lineFree then s.send ⟨.reply, r.ct, r.payload, r.reset⟩ else { s with ulp := { s.ulp with slot := some r } }

/-- A reply that orders no reset: discarded under the upstream hold, and otherwise put into the slot or on the free line (09 R172, 11 R190). -/
def State.replied (s : State) (r : Reply) : State := if s.held then s else s.answered r

/-- A reply of a status and fields to a command code. -/
def replyTo (ct code : Byte) (st : Status) (fields : List Byte) : Reply := ⟨ct, replyPayload code st fields, none⟩

/-- The bytes of a command frame on the Uplink: SYNC, KIND, CHANNEL/TAG, LENGTH, payload, CHECK (11.8). -/
def frameBytes (ct : Byte) (payload : List Byte) : List Byte :=
  let body := 1 :: ct :: byte payload.length :: payload
  0xA5 :: (body ++ [crc8 body])

/-! ### Words of the frames -/

/-- The 12 bytes of an IDENT payload (11.8): class, revision, active demand, quiesced demand, flags, layout, five bytes of 0. -/
def Ident.bytes (i : Ident) : List Byte :=
  num1 (BaseRecord.keyboard i).classCode ++ num1 i.rev ++ num2 i.active ++ num1 i.quiesced ++
    num1 ((if i.tilt.isSome then 1 else 0) + (if i.tilt = some .rotated then 2 else 0) + (if i.touchpad then 4 else 0)) ++
    num1 i.layout ++ [0, 0, 0, 0, 0]

/-- No command waits, no head procedure is paused or runs, no release is pending: a report or a reply makes no other block act (11 R190, R201, 05 R96, R105). -/
abbrev State.Calm (s : State) : Prop :=
  s.ulp.queue = [] ∧ s.igt.head = .idle ∧ s.igt.proc = none ∧ s.igt.pend = []

/-- No sleep rule is enabled and none governs: an evaluation of the SPU changes nothing (09 R160 to R162). -/
abbrev State.Unruled (s : State) : Prop := (∀ r ∈ s.spu.rules, r.enabled = false) ∧ s.spu.governing = none

/-! ### Words of the dock and the gate -/

/-- The answer is an IDENT. -/
def Answer.isIdent : Answer → Bool
  | .ident _ => true
  | .key _ _ | .point _ | .tilt _ _ _ | .stat _ _ | .nil => false

/-- The answer is a STAT. -/
def Answer.isStat : Answer → Bool
  | .stat _ _ => true
  | .ident _ | .key _ _ | .point _ | .tilt _ _ _ | .nil => false

/-- An IDENT of the class and the layout of the base record (04 R68). -/
def Dlc.sameBase (d : Dlc) (i : Ident) : Bool :=
  match d.base with
  | some (.keyboard j) => j.cls == i.cls && j.layout == i.layout
  | some .cover | none => false

/-- The answer is a KEY or a POINT frame. -/
def Answer.isInput : Answer → Bool
  | .key _ _ | .point _ => true
  | .ident _ | .tilt _ _ _ | .stat _ _ | .nil => false

/-- A VALID answer has closed its slot; in a POLL or PASSDOWN slot it has cleared the missed count, which a RUN slot of WAKING leaves alone (04 R57, R66, R67, R71, R72). -/
def State.answerTaken (s : State) : State :=
  { s with dlc := { s.dlc with slot := none, missed := if s.dlc.state = .waking then s.dlc.missed else 0 } }

/-- The frame that a VALID answer sends to judgement while the Hold area is empty: a press that is no duplicate and finds the keys-down set below 16 codes, or a touchpad report (05 R89). -/
def State.judgedBody (s : State) : Answer → Option HoldBody
  | .key c false => if s.igt.keys.contains c = true ∨ 16 ≤ s.igt.keys.length then none else some (.press c)
  | .point p => some (.point p)
  | .key _ true | .ident _ | .tilt _ _ _ | .stat _ _ | .nil => none

/-- A judgement has matched entry `k`, which held `e`: its hit count has risen by one, to at most 255, and its note flag is clear (05 R91). -/
def State.matched (s : State) (k : Nat) (e : GateEntry) : State :=
  { s with igt := { s.igt with entries := s.igt.entries.set k { e with hits := min (e.hits + 1) 255, note := false } } }

/-- A press or a touchpad report has entered the Input area: at its tail, the idle timer at 0, a press in the keys-down set (05 R94, R108). -/
def State.entered (s : State) (b : HoldBody) : State :=
  { s with
    fbf := { s.fbf with input := s.fbf.input ++ [⟨b.kind, b.payload⟩] }
    igt := { s.igt with keys := s.igt.keys ++ b.key.toList, idle := 0, idleLeft := 1000 } }

/-- A report has been stored at the tail of the Report area (11 R199). -/
def State.withReport (s : State) (payload : List Byte) : State :=
  { s with fbf := { s.fbf with report := s.fbf.report ++ [⟨.report, payload⟩] } }

/-- The releases owed once a synthesis has marked the keys-down set: the pending ones in their order, then one for each unmarked code in set order (05 R97). -/
def Igt.owed (g : Igt) : List Pending :=
  g.pend ++ (g.keys.filter fun c => !(g.pend.map Pending.code).contains c).map fun c => ⟨c, .synth⟩

/-- The governing rule's action has been taken in the episode (09 R162). -/
def State.acted (s : State) : State := { s with spu := { s.spu with fired := true, dwell := none } }

/-- A second of the input idle timer is complete, before the SPU evaluates (05 R108). -/
def State.idleCounted (s : State) : State :=
  { elapse s.igt.idleLeft s with igt := { s.igt with idle := s.igt.idle + 1, idleLeft := 1000 } }

/-! ### Frames -/

/-- The fields of `State`. -/
inductive Block where
  | sib | hau | oru | pcl | dlc | igt | fbf | sbu | pcc | spu | psc | ulp | par | ms | pending
  deriving DecidableEq, Repr

/-- The state with the fields of `T` put to fixed values. -/
def State.blank (T : List Block) (s : State) : State where
  sib := if T.contains .sib then State.reset.sib else s.sib
  hau := if T.contains .hau then State.reset.hau else s.hau
  oru := if T.contains .oru then State.reset.oru else s.oru
  pcl := if T.contains .pcl then State.reset.pcl else s.pcl
  dlc := if T.contains .dlc then State.reset.dlc else s.dlc
  igt := if T.contains .igt then State.reset.igt else s.igt
  fbf := if T.contains .fbf then State.reset.fbf else s.fbf
  sbu := if T.contains .sbu then State.reset.sbu else s.sbu
  pcc := if T.contains .pcc then State.reset.pcc else s.pcc
  spu := if T.contains .spu then State.reset.spu else s.spu
  psc := if T.contains .psc then State.reset.psc else s.psc
  ulp := if T.contains .ulp then State.reset.ulp else s.ulp
  par := if T.contains .par then State.reset.par else s.par
  ms := if T.contains .ms then State.reset.ms else s.ms
  pending := if T.contains .pending then State.reset.pending else s.pending

/-- `t` differs from `s` at most in the fields of `T`. -/
abbrev Only (T : List Block) (s t : State) : Prop := t.blank T = s.blank T

/-- The state without what waits for the upstream line or is on it: the Input, Report and Mirror areas, the replies, the line, the mark, the lost count. -/
def State.offLine (s : State) : State :=
  { s with
    fbf := { s.fbf with input := [], report := [], mirror := [] }
    ulp := { s.ulp with overruns := [], slot := none, line := none, alt := .report, lost := 0 } }

/-- The configuration: parameters, tables, charge profile, area map, lock flag, force mode, report mask, access words, freeze flag, and the reset's cause. -/
def State.SameConfig (s t : State) : Prop :=
  t.par = s.par ∧ t.pcl.table = s.pcl.table ∧ t.igt.dir = s.igt.dir ∧ t.spu.rules = s.spu.rules ∧
    t.pcc.profile = s.pcc.profile ∧ t.fbf.map = s.fbf.map ∧ t.oru.lock = s.oru.lock ∧
    t.spu.forceMode = s.spu.forceMode ∧ t.ulp.mask = s.ulp.mask ∧ t.ulp.platform = s.ulp.platform ∧
    t.ulp.driver = s.ulp.driver ∧ t.ulp.freeze = s.ulp.freeze ∧ t.ulp.cause = s.ulp.cause ∧
    t.ulp.retained = s.ulp.retained

/-- What a power-on, brownout, pin or full reset of a cause leaves, with the pins, the first rail reading and the first temperature that it meets (01 R6, R22, 02 R35, 03 R55, 04 R85, 05 R111, 06 R124, 07 R138, 08 R156, 09 R175, 10 R187, 11 R202). -/
def State.FreshFrom (cause : ResetCause) (pins : Pins) (rail temp : Int) (s t : State) : Prop :=
  t.par = Params.default ∧ t.sib = sibFromPins pins ∧ t.hau = (hauAtReset { State.reset with sib := t.sib }).hau ∧
    t.oru = Oru.atReset false ∧ t.pcl.table = defaultPostures ∧ t.pcl.code = 0 ∧ t.pcl.row = none ∧ t.pcl.stamp = 0 ∧
    t.dlc = (if pins.presence then { Dlc.atReset with state := .settling, settle := some 50 } else Dlc.atReset) ∧
    t.igt = Igt.atReset (List.replicate 16 defaultDir) (List.replicate 128 defaultEntry) ∧
    t.fbf.map = AreaMap.default ∧ t.fbf.input = [] ∧ t.fbf.hold = [] ∧ t.fbf.passdown = [] ∧ t.fbf.mirror = [] ∧
    t.sbu.requested = 0 ∧ t.sbu.grant = 0 ∧ t.sbu.pending = false ∧ t.sbu.penSet = 0 ∧
    t.sbu.rail = (max 0 (min 6000 rail)).toNat ∧ t.sbu.temp = max (-40) (min 125 temp) ∧
    t.pcc.phase = (if pins.garage then .none else .probe) ∧ t.pcc.profile = Profile.default ∧
    t.spu = Spu.atReset .notifyThenCut (List.replicate 16 defaultRule) ∧ t.psc = Psc.atReset ∧
    t.ulp.cause = cause ∧ t.ulp.retained = false ∧ t.ulp.mask = BitVec.allOnes 21 ∧ t.ulp.platform = defaultPlatform ∧
    t.ulp.driver = defaultDriver ∧ t.ulp.freeze = false ∧ t.ulp.queue = [] ∧ t.ulp.overruns = [] ∧ t.ulp.slot = none ∧
    t.ms = 0 ∧ t.pending = s.pending

/-- The events that are neither a reset nor bytes of the host. -/
def isPlainEvent : Instr → Bool
  | .rawChange _ _ | .debounceExpiry _ | .lidSampleEvent _ _ _ | .orientDwellExpiry | .postureDwellExpiry
  | .restartHoldExpiry | .settleTimerDockExpiry | .pollPeriodExpiry | .identAttemptOpen | .dockAnswer _
  | .answerStoppedShort | .answerWindowExpiry | .readyTimerExpiry | .dockAttention | .walkStepResume
  | .powerRequestServe | .pendingGrantApply | .holdExpiry | .spaceEvent | .idleTimerIncrement | .railReading _
  | .shedTimerExpiry | .temperatureReading _ | .measurementEvent _ _ | .phaseLimitExpiry | .sleepDwellExpiry
  | .wakeTimerExpiry | .complianceExpiry | .cutWaitExpiry | .cutPulseExpiry | .pendingWakeServe
  | .unlockWindowTimeout | .dozeTimerExpiry | .standbyTimerExpiry | .deferredStandbyEntry | .settleTimerExpiry _
  | .uplinkActivity | .frameTransmitEnd | .overflowReport => true
  | .commandFrameReceived _ | .uplinkFrameDiscard _ _ | .interbyteTimeout | .powerOnReset _ | .brownoutReset _
  | .pinReset _ | .fullReset _ _ | .softReset _ _ | .echo _ | .tableWritePosture _ _ _ | .tableWriteGateDir _ _ _
  | .tableWriteGateEntry _ _ _ | .tableWriteSleepRule _ _ _ | .tableWriteChargeProfile _ _ _ | .tableRead _ _ _
  | .hitsClear _ _ _ | .configSet _ _ _ | .configGet _ _ | .statusRead _ _ _ | .reportEnable _ _
  | .dockStepIdentify _ | .dockStepPower _ | .dockStepQuiesce _ | .dockStepWake _ | .dockStepRelease _
  | .dockAuto _ _ | .passdown _ _ | .gateRescan _ | .gateFlush _ | .rotationLock _ _ | .chargeControlStart _
  | .chargeControlStop _ | .hostState _ _ | .policyUnlock _ | .forceMode _ _ | .areaMap _ _ | .areaClear _ _
  | .areaPeek _ _ _ _ | .accessSet _ _ _ _ | .accessFreeze _ | .partResetSoft _ | .partResetFull _ => false

end Sys2Proof.Machine
end

