-- ==== Sys2Proof/WellFormed.lean ====
section
/-! DEFINITION. Well-formed commands: the operands are values that a link, a converter or a pin can carry. `exec` does not consult this check (log 44): it answers for every term. -/

namespace Sys2Proof

/-- A signed reading of 16 bits. -/
def fits16 (v : Int) : Bool := -32768 ≤ v && v ≤ 32767

/-- The widths of a command's operands: readings of 16 signed bits, a Dock Link answer of 3 to 19 bytes (11.8: HEAD, LENGTH of 0..16, CHECK),
Uplink bytes of at most one frame of 65, table entries that fit a payload of 60, five start and length pairs. -/
def Instr.wellFormed : Instr → Bool
  | .lidSampleEvent x y z => fits16 x && fits16 y && fits16 z
  | .dockAnswer bs => 3 ≤ bs.length && bs.length ≤ 19
  | .railReading v => fits16 v
  | .temperatureReading t => fits16 t
  | .measurementEvent v i => fits16 v && fits16 i
  | .settleTimerExpiry w => fits16 w.rail && fits16 w.temp && fits16 w.cellV && fits16 w.cellI
  | .commandFrameReceived bs => 5 ≤ bs.length && bs.length ≤ 65
  | .uplinkFrameDiscard bs _ => 1 ≤ bs.length && bs.length ≤ 65
  | .powerOnReset r => fits16 r.rail && fits16 r.temp
  | .brownoutReset r => fits16 r.rail && fits16 r.temp
  | .pinReset r => fits16 r.rail && fits16 r.temp
  | .fullReset v t => fits16 v && fits16 t
  | .softReset v t => fits16 v && fits16 t
  | .tableWritePosture _ _ e => e.length ≤ 57
  | .tableWriteGateDir _ _ e => e.length ≤ 57
  | .tableWriteGateEntry _ _ e => e.length ≤ 57
  | .tableWriteSleepRule _ _ e => e.length ≤ 57
  | .tableWriteChargeProfile _ _ e => e.length ≤ 57
  | .passdown _ bs => bs.length ≤ 59
  | .areaMap _ ws => ws.length == 10
  | .rawChange _ _ | .debounceExpiry _ | .orientDwellExpiry | .postureDwellExpiry | .restartHoldExpiry
  | .settleTimerDockExpiry | .pollPeriodExpiry | .identAttemptOpen | .answerStoppedShort | .answerWindowExpiry
  | .readyTimerExpiry | .dockAttention | .walkStepResume | .powerRequestServe | .pendingGrantApply | .holdExpiry
  | .spaceEvent | .idleTimerIncrement | .shedTimerExpiry | .phaseLimitExpiry | .sleepDwellExpiry
  | .wakeTimerExpiry | .complianceExpiry | .cutWaitExpiry | .cutPulseExpiry | .pendingWakeServe
  | .unlockWindowTimeout | .dozeTimerExpiry | .standbyTimerExpiry | .deferredStandbyEntry | .uplinkActivity
  | .interbyteTimeout | .frameTransmitEnd | .overflowReport | .echo _ | .tableRead _ _ _ | .hitsClear _ _ _
  | .configSet _ _ _ | .configGet _ _ | .statusRead _ _ _ | .reportEnable _ _ | .dockStepIdentify _
  | .dockStepPower _ | .dockStepQuiesce _ | .dockStepWake _ | .dockStepRelease _ | .dockAuto _ _ | .gateRescan _
  | .gateFlush _ | .rotationLock _ _ | .chargeControlStart _ | .chargeControlStop _ | .hostState _ _
  | .policyUnlock _ | .forceMode _ _ | .areaClear _ _ | .areaPeek _ _ _ _ | .accessSet _ _ _ _ | .accessFreeze _
  | .partResetSoft _ | .partResetFull _ => true

end Sys2Proof
end

