-- ==== Sys2Proof/Certificates/Slice0/Obligations.lean ====
section
/-! DEFINITION. The statements for the provers. A frame is said by `Only`, by `SameConfig`, or by giving the whole next state. -/

open Sys2Proof Sys2Proof.Machine

/-! ### Steps, resets -/

/-- Step runs the command at the front of the queue, on the state with the queue's rest. On an empty queue one millisecond passes, which is the model's choice (log 1): the running count advances by one and wraps. -/
def Obligations.StepRunsFrontCommandOrIdles : Prop :=
  (∀ (c : Instr) (rest : List Instr) (s : State),
      step { s with pending := c :: rest } = exec c { s with pending := rest }) ∧
    (∀ s : State, s.pending = [] →
        step s = .next (elapse 1 s) ∧ (elapse 1 s).ms = s.ms + 1 ∧ Only [.sib, .hau, .oru, .pcl, .dlc, .igt, .sbu, .pcc, .spu, .psc, .ms] s (elapse 1 s) ∧
          (elapse 1 s).spu.host = s.spu.host ∧ (elapse 1 s).psc.power = s.psc.power ∧ (elapse 1 s).dlc.state = s.dlc.state)

/-- Every command ends in a next state, and leaves the queue of commands as it found it. -/
def Obligations.EveryCommandEnds : Prop :=
  ∀ (c : Instr) (s : State), ∃ t, exec c s = .next t ∧ t.pending = s.pending

/-- A power-on reset with every switch deasserted, 5000 mV and 25 °C (the model's environment, log 8) gives the reset state, from every state in which no frame is on the line (log 10). That START is on the line then (log 9), that the first sample period is a whole one (log 27) and that the model's counters begin at 0 (log 36) are the model's. The reset state is sound in every block. -/
def Obligations.PowerOnGivesSoundResetState : Prop :=
  (∀ s : State, s.ulp.line = none → s.ulp.preReset = none →
      exec (.powerOnReset ⟨⟨true, true, true, false⟩, 5000, 25⟩) s = .next { State.reset with pending := s.pending }) ∧
    (State.reset.igt.KeysSound ∧ State.reset.fbf.AreasSound ∧ State.reset.BudgetSound ∧ State.reset.spu.Sound ∧
        State.reset.psc.Sound ∧ State.reset.dlc.Sound ∧ State.reset.ulp.Sound ∧ State.reset.ParamsSound ∧
        State.reset.TablesSound)

/-- A power-on, brownout or pin reset, in any state. The reset that PART_RESET FULL has ordered; the pins stand as last seen (log 8). That the first sample period is a whole one (log 27) and that the counters begin at 0 (log 36) are the model's. -/
def Obligations.FullKindResetsGiveDefaults : Prop :=
  (∀ (r : ResetSense) (s : State),
      (∃ t, exec (.powerOnReset r) s = .next t ∧ State.FreshFrom .powerOn r.pins r.rail r.temp s t) ∧
        (∃ t, exec (.brownoutReset r) s = .next t ∧ State.FreshFrom .brownout r.pins r.rail r.temp s t) ∧
        (∃ t, exec (.pinReset r) s = .next t ∧ State.FreshFrom .pin r.pins r.rail r.temp s t)) ∧
    (∀ (rail temp : Int) (s : State), s.ulp.resetDue = some .full →
        ∃ t, exec (.fullReset rail temp) s = .next t ∧ State.FreshFrom .fullCommand s.sib.pins rail temp s t)

/-- The reset that PART_RESET SOFT has ordered keeps the configuration and the switch inputs; the blocks' records start anew. A commanded reset that no command has ordered does nothing, which is the model's choice (log 38). -/
def Obligations.SoftResetKeepsConfiguration : Prop :=
  (∀ (rail temp : Int) (s : State), s.ulp.resetDue = some .soft →
      ∃ t, exec (.softReset rail temp) s = .next t ∧ t.sib = s.sib ∧ t.par = s.par ∧ t.pcl.table = s.pcl.table ∧
        t.igt.dir = s.igt.dir ∧ t.igt.entries = s.igt.entries ∧ t.igt.keys = [] ∧ t.igt.pend = [] ∧
        t.spu.rules = s.spu.rules ∧ t.spu.forceMode = s.spu.forceMode ∧ t.pcc.profile = s.pcc.profile ∧
        t.fbf.map = s.fbf.map ∧ t.fbf.input = [] ∧ t.fbf.hold = [] ∧ t.fbf.passdown = [] ∧ t.fbf.mirror = [] ∧
        t.oru = Oru.atReset s.oru.lock ∧ t.hau.lid = none ∧ t.hau.cond = .absent ∧
        t.dlc.base = none ∧ t.dlc.state = (if s.sib.presence.asserted then .settling else .absent) ∧ t.sbu.grant = 0 ∧
        t.ulp.mask = s.ulp.mask ∧ t.ulp.platform = s.ulp.platform ∧ t.ulp.driver = s.ulp.driver ∧
        t.ulp.freeze = s.ulp.freeze ∧ t.ulp.cause = .softCommand ∧ t.ulp.retained = true ∧ t.ulp.queue = [] ∧
        t.ms = 0 ∧ t.pending = s.pending) ∧
    (∀ (rail temp : Int) (s : State),
        (s.ulp.resetDue ≠ some .full → exec (.fullReset rail temp) s = .next s) ∧
          (s.ulp.resetDue ≠ some .soft → exec (.softReset rail temp) s = .next s))

/-! ### Invariants of every step -/

/-- The keys-down set holds at most 16 codes, each once, with at most one release-pending mark on each. -/
def Obligations.KeysDownStaysSound : Prop :=
  ∀ s t : State, s.igt.KeysSound → step s = .next t → t.igt.KeysSound

/-- The area map stays valid and no area holds more than its length. -/
def Obligations.AreasStaySound : Prop :=
  ∀ s t : State, s.fbf.AreasSound → step s = .next t → t.fbf.AreasSound

/-- Dock grant and pen setpoint stay within the budget together. -/
def Obligations.BudgetStaysSound : Prop :=
  ∀ s t : State, s.BudgetSound → step s = .next t → t.BudgetSound

/-- The SPU's lines and timers go with its host state and its cut stage; the state before waking, one of SLEEPING, ENTERING and OFF, and the wake source are present exactly in WAKING. Each timer of the PSC runs in its own power state only. -/
def Obligations.SleepPolicyAndPowerStateStaySound : Prop :=
  (∀ s t : State, s.spu.Sound → step s = .next t → t.spu.Sound) ∧
    (∀ s t : State, s.psc.Sound → step s = .next t → t.psc.Sound)

/-- The DLC's record stays one that its dock state allows. -/
def Obligations.DockRecordStaysSound : Prop :=
  ∀ s t : State, s.dlc.Sound → step s = .next t → t.dlc.Sound

/-- The ULP's queue, overrun list, lost count and access words keep their bounds. -/
def Obligations.UplinkStaysSound : Prop :=
  ∀ s t : State, s.ulp.Sound → step s = .next t → t.ulp.Sound

/-- Every parameter stays in its range, the pairs keep their distance, the budget covers the grant. -/
def Obligations.ParametersStayInRange : Prop :=
  ∀ s t : State, s.ParamsSound → step s = .next t → t.ParamsSound

/-- The five tables keep their sizes and hold only what their writes accept: rows of the posture table, directory entries within the 128 gate entries, key ranges of gate entries in 1..254, hit counts to 255, dwells, temperatures and sets of sleep rules, the charge profile. -/
def Obligations.TablesStaySound : Prop :=
  ∀ s t : State, s.TablesSound → step s = .next t → t.TablesSound

/-- While no command of the host waits, no event but a reset changes the configuration, and no event but a raw change moves a pin. -/
def Obligations.EventsKeepConfiguration : Prop :=
  ∀ (c : Instr) (s : State), isPlainEvent c = true → s.ulp.queue = [] →
    ∃ t, exec c s = .next t ∧ s.SameConfig t ∧ t.ulp.queue = [] ∧ ((∀ i b, c ≠ .rawChange i b) → t.sib.pins = s.sib.pins)

/-! ### Links and codings -/

/-- A command frame on the Uplink, whole and correct, is the command that its payload spells: that a host row of the table is the reception of its whole frame is the model's choice (log 6). Bytes that make no frame leave no trace: a frame with a wrong CHECK, and a frame that stops short, without another SYNC in them; that the byte with a framing error is not searched for SYNC is the model's choice (log 26). -/
def Obligations.FrameIsItsCommandOrLeavesNoTrace : Prop :=
  (∀ (ct : Byte) (s : State), s.ulp.rx = [] →
      (∀ p, p.length ≤ 60 → exec (.commandFrameReceived (frameBytes ct p)) s = hostCommand ct p s) ∧
        exec (.commandFrameReceived (frameBytes ct [1])) s = exec (.echo ct) s ∧
        (∀ idx e, e.length ≤ 57 → exec (.commandFrameReceived (frameBytes ct (2 :: 0 :: idx :: e))) s = exec (.tableWritePosture ct idx e) s) ∧
        (∀ n v, exec (.commandFrameReceived (frameBytes ct (5 :: n :: num4 (BitVec.toNat v)))) s = exec (.configSet ct n v) s) ∧
        (∀ bs, bs.length ≤ 59 → exec (.commandFrameReceived (frameBytes ct (11 :: bs))) s = exec (.passdown ct bs) s) ∧
        (∀ v, exec (.commandFrameReceived (frameBytes ct [16, v])) s = exec (.hostState ct v) s) ∧
        (∀ a i n, exec (.commandFrameReceived (frameBytes ct (21 :: a :: (num2 (BitVec.toNat i) ++ [n])))) s = exec (.areaPeek ct a i n) s) ∧
        exec (.commandFrameReceived (frameBytes ct [24, 1])) s = exec (.partResetFull ct) s) ∧
    (∀ s : State, s.awake = true →
        (∀ (ct check : Byte) (p : List Byte), s.ulp.rx = [] → p.length ≤ 60 → ct ≠ 0xA5 → (∀ b ∈ p, b ≠ 0xA5) → check ≠ 0xA5 →
            check ≠ crc8 (1 :: ct :: byte p.length :: p) →
            exec (.uplinkFrameDiscard (0xA5 :: 1 :: ct :: byte p.length :: (p ++ [check])) false) s = .next s) ∧
          (∀ (bs : List Byte), s.ulp.rx = [] → bs.length ≤ 3 → (∀ b ∈ bs, b ≠ 0xA5) →
            exec (.uplinkFrameDiscard (0xA5 :: bs) true) s = .next s) ∧
          (∀ (bs : List Byte), s.ulp.rx = 0xA5 :: bs → bs.length ≤ 3 → (∀ b ∈ bs, b ≠ 0xA5) →
            exec .interbyteTimeout s = .next { s with ulp := { s.ulp with rx := [] } }))

/-- An entry read back from its stored bytes is the entry, for every entry that a table can hold. -/
def Obligations.TableEntriesRoundTrip : Prop :=
  (∀ r : PostureRow, r.acceptable = true → r.code ≤ 15 → PostureRow.ofBytes r.bytes = r) ∧
    (∀ d : GateDir, d.first ≤ 127 → d.count ≤ 32 → d.first + d.count ≤ 128 → gateDirOf d.bytes = some d) ∧
    (∀ g : GateEntry, g.cls = .key → 1 ≤ g.low → g.low ≤ g.high → g.high ≤ 254 → gateEntryOf g.bytes = some { g with hits := 0 }) ∧
    (∀ g : GateEntry, g.cls = .point → g.low ≤ 255 → g.high ≤ 255 → gateEntryOf g.bytes = some { g with hits := 0 }) ∧
    (∀ r : SleepRule, r.minIdle ≤ 65535 → r.dwell ≤ 60000 → (∀ x, r.temp = some x → -40 ≤ x ∧ x ≤ 125) →
      (r.enabled = true → r.postures ≠ 0 ∧ r.bases ≠ 0) → sleepRuleOf r.bytes = some r) ∧
    (∀ p : Profile, p.valid = true → Profile.ofBytes p.bytes = p)

/-- A well-formed frame of the base is read as what it says: KEY, TILT, STAT, POINT, NIL, IDENT; one with a wrong CHECK is not VALID. A STAT is VALID with every flags byte, its undefined bits ignored, which is the model's reading (log 42). -/
def Obligations.DockFramesAreReadBack : Prop :=
  (∀ (code : Nat) (up : Bool), 1 ≤ code → code ≤ 254 →
      parseAnswer (DockFrame.bytes ⟨0x21, [byte code, if up then 1 else 0]⟩) = some (.key code up)) ∧
    (∀ x y z : Int, fits16 x = true → fits16 y = true → fits16 z = true →
      parseAnswer (DockFrame.bytes ⟨0x23, int2 x ++ int2 y ++ int2 z⟩) = some (.tilt x y z)) ∧
    (∀ (flags : Byte) (ma : Nat), ma ≤ 65535 → parseAnswer (DockFrame.bytes ⟨0x24, flags :: num2 ma⟩) = some (.stat flags ma)) ∧
    (∀ bs : List Byte, 4 ≤ bs.length → bs.length ≤ 16 → parseAnswer (DockFrame.bytes ⟨0x22, bs⟩) = some (.point bs)) ∧
    parseAnswer (DockFrame.bytes ⟨0x25, []⟩) = some .nil ∧
    (∀ i : Ident, 1 ≤ i.rev → i.rev ≤ 15 → i.active ≤ 1000 → i.quiesced ≤ 100 → i.layout ≤ 255 →
      parseAnswer (DockFrame.bytes ⟨0x20, i.bytes⟩) = some (.ident i)) ∧
    (∀ (h check : Byte) (p : List Byte), p.length ≤ 16 → check ≠ crc8 (h :: byte p.length :: p) →
      parseAnswer (h :: byte p.length :: (p ++ [check])) = none)

/-- The pages of STATUS_READ hold a block's whole stream in order, each in at most 55 bytes. -/
def Obligations.StatusPagesHoldTheStream : Prop :=
  ∀ (s : State) (block : Nat),
    (paginate [] (blockStream s block)).flatten = (blockStream s block).flatten ∧
      ∀ p ∈ paginate [] (blockStream s block), p.length ≤ 55

/-! ### Computations -/

/-- R12, the magnitude, and its range for clamped inputs. R15, continuity: an angle near an end of travel stays at the end, and never crosses from 4320 or above to below 1440 or back; the previous angle is the hinge record's, absent while its quality is UNKNOWN. R25, the flat test with its hysteresis of 64, and the flat candidate. -/
def Obligations.MagnitudeContinuityAndFlatTest : Prop :=
  ((∀ u v : Int, magnitude u v = max u.natAbs v.natAbs + min u.natAbs v.natAbs / 2) ∧
    ∀ x y : Int, magnitude (clampAxis x) (clampAxis y) ≤ 12288) ∧
    ((∀ r, continuity none r = r) ∧
      (∀ h r,
        (4320 ≤ h → r < 1440 → continuity (some h) r = 5760) ∧ (h ≤ 1440 → 4320 ≤ r → continuity (some h) r = 0) ∧
          (¬(4320 ≤ h ∧ r < 1440) → ¬(h ≤ 1440 ∧ 4320 ≤ r) → continuity (some h) r = r) ∧
          (4320 ≤ h → 1440 ≤ continuity (some h) r) ∧ (h ≤ 1440 → continuity (some h) r < 4320)) ∧
      (∀ (s : State) (l b : Vec), s.hau.lid = some l → s.hau.base = some b → s.hau.cond = .fresh →
        s.par.mMin ≤ magnitude l.y l.z → s.par.mMin ≤ magnitude b.y b.z →
        hingeSample s =
          some (continuity s.hau.hinge.angle (rawAngle (psi l.y l.z) (psi b.y b.z) s.par.hingeOffset))) ∧
      ∀ limit sample h, (Hinge.next limit sample h).quality = .unknown → (Hinge.next limit sample h).angle = none) ∧
    (paramRange 21 = (100, 900) ∧ Params.default.flatThreshold = 300 ∧ (∀ p : Params, p.get 21 = p.flatThreshold) ∧
      ∀ (p : Params) (inRun : Bool) (v : Vec) (o : Oru),
        (o.flat = false → ((o.evaluated p inRun v).1.flat = true ↔ magnitude v.y v.x < p.flatThreshold)) ∧
          (o.flat = true → ((o.evaluated p inRun v).1.flat = true ↔ magnitude v.y v.x < p.flatThreshold + 64)) ∧
          ((o.evaluated p inRun v).1.flat = true →
            (o.evaluated p inRun v).1.angle = none ∧
              (o.evaluated p inRun v).1.candidate = some (if 0 ≤ v.z then .flatUp else .flatDown)))

/-- The angle routine stays in 0..5759, its base angle in 0..1440; a quarter turn adds 1440, a half turn 2880, and a reflection mirrors the angle. A filter step stays in the clamped range, stays where it is for a difference below 2^k, and never passes the sample. -/
def Obligations.AngleAndFilterRanges : Prop :=
  (∀ u v : Int,
      psi u v < 5760 ∧ baseAngle u.natAbs v.natAbs ≤ 1440 ∧
        (0 < u → 0 < v → psi (-v) u = psi u v + 1440 ∧ psi (-u) (-v) = psi u v + 2880 ∧ psi (-u) v = 2880 - psi u v ∧
          psi u (-v) = if psi u v = 0 then 0 else 5760 - psi u v)) ∧
    (∀ (k : Nat) (s v : Int), -8192 ≤ s → s ≤ 8191 → -8192 ≤ v → v ≤ 8191 →
        -8192 ≤ smoothAxis k s v ∧ smoothAxis k s v ≤ 8191 ∧ ((v - s).natAbs < 2 ^ k → smoothAxis k s v = s) ∧
          (smoothAxis 0 s v = v) ∧ min s v ≤ smoothAxis k s v ∧ smoothAxis k s v ≤ max s v)

/-- R42 and R43: when a row matches, with the band widened by a margin; the margin is a parameter, 0 to 480 and 80 by default; a committed row that passes its re-test stays the candidate; otherwise the first row that matches unwidened gives the candidate, and code 0 without a row where none does. -/
def Obligations.PostureChoiceFollowsRowOrder : Prop :=
  (paramRange 24 = (0, 480) ∧ Params.default.hysteresis = 80 ∧ ∀ p : Params, p.get 24 = p.hysteresis) ∧ ∀ s : State,
    (∀ (m : Nat) (r : PostureRow),
        rowMatches m s r = true ↔
          r.valid = true ∧ (∀ a, s.hau.hinge.angle = some a → r.low - m ≤ a ∧ a ≤ min 5760 (r.high + m)) ∧
            (s.hau.hinge.angle = none → r.low = 0 ∧ r.high = 5760) ∧
            (s.oru.committed ≠ .unknown → r.orients.getLsbD s.oru.committed.code = true) ∧
            (s.oru.committed = .unknown → r.orients = BitVec.allOnes 6) ∧ r.bases.getLsbD s.pcl.cond.code = true) ∧
      (∀ (i : Nat) (r : PostureRow), s.pcl.row = some i → s.pcl.table[i]? = some r → r.valid = true → r.code = s.pcl.code →
        rowMatches s.par.hysteresis s r = true → choosePosture s = (s.pcl.code, some i)) ∧
      ((∀ (i : Nat) (r : PostureRow), s.pcl.row = some i → s.pcl.table[i]? = some r → r.valid = true → r.code = s.pcl.code →
          rowMatches s.par.hysteresis s r = false) →
        (∀ (i : Nat) (r : PostureRow), s.pcl.table[i]? = some r → rowMatches 0 s r = true →
          (∀ (j : Nat) (q : PostureRow), j < i → s.pcl.table[j]? = some q → rowMatches 0 s q = false) →
          choosePosture s = (r.code, some i)) ∧
        ((∀ r ∈ s.pcl.table, rowMatches 0 s r = false) → choosePosture s = (0, none)))

/-- R118: the Mirror area keeps the newest frames. The oldest make room, only as many as needed; a frame larger than the area, so any frame in an area of length 0, leaves it empty. The decimation counter advances whatever the area holds, and neither a report nor the loss count comes of it. -/
def Obligations.MirrorKeepsNewestFrames : Prop :=
  (∀ s : State, s.par.mirrorN ≠ 0 →
    (s.hau.mirrorCount + 1 < s.par.mirrorN →
      mirrorSample s = ({ s with hau := { s.hau with mirrorCount := s.hau.mirrorCount + 1 } }, [])) ∧
    (s.par.mirrorN ≤ s.hau.mirrorCount + 1 →
      mirrorSample s =
        ({ s with hau := { s.hau with mirrorCount := 0 }, fbf := s.fbf.putMirror (samplePayload s.hau) }, [.arbiter]))) ∧
  ∀ (b : Fbf) (p : List Byte), occupancy b.mirror ≤ b.map.mirror.len →
    (b.map.mirror.len < p.length + 4 → b.putMirror p = { b with mirror := [] }) ∧
      (p.length + 4 ≤ b.map.mirror.len →
        ∃ n, b.putMirror p = { b with mirror := b.mirror.drop n ++ [⟨.sample, p⟩] } ∧
          occupancy (b.mirror.drop n) + (p.length + 4) ≤ b.map.mirror.len ∧
          ∀ k, k < n → b.map.mirror.len < occupancy (b.mirror.drop k) + (p.length + 4))

/-- R130: the six stages of the pen setpoint, the room that a recomputation and a rising grant leave, and the pause decision. In a state whose parameters are sound the room is not negative and the divisor is at least 5. -/
def Obligations.PenSetpointStages : Prop :=
  ∀ (room : Nat) (s : State),
    ((s.sbu.temp ≤ s.par.tKnee → derated s.par s.sbu.temp s.sbu.iPhase = s.sbu.iPhase) ∧
      ((s.par.tKnee : Int) < s.sbu.temp → s.par.tCut ≤ s.sbu.temp → derated s.par s.sbu.temp s.sbu.iPhase = 0) ∧
      ((s.par.tKnee : Int) < s.sbu.temp → s.sbu.temp < s.par.tCut →
        (derated s.par s.sbu.temp s.sbu.iPhase : Int) =
          s.sbu.iPhase * (s.par.tCut - s.sbu.temp) / (s.par.tCut - s.par.tKnee))) ∧
      (s.sbu.railState = .shed ∨ s.awake = false ∨ s.pcc.phase.charging = false → penSetpoint room s = 0) ∧
      (s.sbu.railState = .normal → s.awake = true → s.pcc.phase.charging = true →
        penSetpoint room s =
          if min s.sbu.iPhase (min room (derated s.par s.sbu.temp s.sbu.iPhase)) < s.par.iMin then 0
          else min s.sbu.iPhase (min room (derated s.par s.sbu.temp s.sbu.iPhase))) ∧
      (s.sbu.railState = .warn → s.awake = true → s.pcc.phase.charging = true →
        penSetpoint room s =
          if min s.sbu.iPhase (min room (derated s.par s.sbu.temp s.sbu.iPhase)) / 2 < s.par.iMin then 0
          else min s.sbu.iPhase (min room (derated s.par s.sbu.temp s.sbu.iPhase)) / 2) ∧
      (∀ told, (recompute told s).1.sbu.penSet = penSetpoint (s.par.bTotal - s.sbu.grant) s ∧
        ((recompute told s).1.sbu.pause = true ↔
          penSetpoint (s.par.bTotal - s.sbu.grant) s = 0 ∧ s.pcc.phase.charging = true)) ∧
      (∀ level capped, (raiseGrant level capped s).1.sbu.penSet = penSetpoint (s.par.bTotal - level) s) ∧
      (s.ParamsSound → s.sbu.grant ≤ s.par.bTotal ∧ 5 ≤ (s.par.tCut : Int) - s.par.tKnee)

/-- When a rule holds (R160), and that the governing rule is the first in index order that does, none where none does (the search of R161; its triggers are not stated here). -/
def Obligations.GoverningRuleIsFirstThatHolds : Prop :=
  ∀ s : State,
    (∀ r : SleepRule,
        ruleHolds s r = true ↔
          r.enabled = true ∧ r.postures.getLsbD s.pcl.code = true ∧ r.bases.getLsbD s.pcl.cond.code = true ∧
            (r.lid = .any ∨ r.lid = .closed ∧ s.sib.lid.asserted = true ∨ r.lid = .opened ∧ s.sib.lid.asserted = false) ∧
            (r.pen = .any ∨ r.pen = .inGarage ∧ s.pcc.phase ≠ .none ∨ r.pen = .out ∧ s.pcc.phase = .none) ∧
            (r.minIdle = 0 ∨ r.minIdle ≤ s.igt.idle) ∧ ∀ t, r.temp = some t → t ≤ s.sbu.temp) ∧
      (∀ (i : Nat) (r : SleepRule), s.spu.rules[i]? = some r → ruleHolds s r = true →
        (∀ (j : Nat) (q : SleepRule), j < i → s.spu.rules[j]? = some q → ruleHolds s q = false) → governingRule s = some i) ∧
      ((∀ r ∈ s.spu.rules, ruleHolds s r = false) → governingRule s = none)

/-- A report that is raised and enabled, FORCE_CUT aside, moves nothing but what waits for the upstream line or is on it. Where the arbiter takes nothing (the line is busy, or the upstream hold applies and no cut waits) it waits at the tail of the Report area when it fits, behind an OVERFLOW report with the loss count when there is one and both fit; one that does not fit is counted, to at most 255, after the OVERFLOW report where that fits. On a free line with nothing else waiting it is sent at once. -/
def Obligations.RaisedReportIsKeptOrCounted : Prop :=
  ∀ (k : ReportKind) (fields : List Byte) (s : State), s.Calm → reportEnabled s.ulp.mask k = true → k ≠ .forceCut →
    (settle (s, [.report k fields])).offLine = s.offLine ∧
      (s.ulp.lineFree = false ∨ s.held = true ∧ s.spu.cutStage ≠ .wait →
        (s.ulp.lost = 0 ∨ s.fbf.reportFree < 10 → fields.length + 9 ≤ s.fbf.reportFree →
          settle (s, [.report k fields]) =
            { s with fbf := { s.fbf with report := s.fbf.report ++ [⟨.report, reportPayload k s.ms fields⟩] } }) ∧
        (0 < s.ulp.lost → fields.length + 19 ≤ s.fbf.reportFree →
          settle (s, [.report k fields]) =
            { s with
              fbf :=
                { s.fbf with
                  report :=
                    s.fbf.report ++
                      [⟨.report, reportPayload .overflow s.ms [byte s.ulp.lost]⟩, ⟨.report, reportPayload k s.ms fields⟩] }
              ulp := { s.ulp with lost := 0 } }) ∧
        (0 < s.ulp.lost → 10 ≤ s.fbf.reportFree → s.fbf.reportFree < fields.length + 19 →
          settle (s, [.report k fields]) =
            { s with
              fbf := { s.fbf with report := s.fbf.report ++ [⟨.report, reportPayload .overflow s.ms [byte s.ulp.lost]⟩] }
              ulp := { s.ulp with lost := 1 } })) ∧
      (s.ulp.lost = 0 ∨ s.fbf.reportFree < 10 → s.fbf.reportFree < fields.length + 9 →
        settle (s, [.report k fields]) = { s with ulp := { s.ulp with lost := min (s.ulp.lost + 1) 255 } }) ∧
      (fields.length + 9 ≤ s.fbf.reportFree → s.ulp.lost = 0 → s.held = false → s.ulp.lineFree = true →
        s.ulp.slot = none → s.ulp.overruns = [] → s.fbf.report = [] → s.fbf.input = [] →
        (settle (s, [.report k fields])).ulp.line =
          some ⟨.report, Config.unsolicitedChannelTag, reportPayload k s.ms fields, none⟩)

/-! ### Switch inputs, hinge angle, orientation, posture -/

/-- RAW_CHANGE: a new raw state starts a debounce run, a return to the debounced state stops it; with a debounce time of 0 the debounced state follows at once. DEBOUNCE_EXPIRY: the debounced state takes the raw state; a lid that closes while the part is awake forces the hinge record (no head procedure paused over held frames). A presence drop, with no head procedure paused, takes the dock to ABSENT: nothing in flight, no timer, no count, no base record, no grant, the Passdown area empty. With the posture dwell above 0, no sleep rule and the upstream line busy, the base vector is ABSENT, the base condition DETACHED, and where the dock delivered frames the Hold area is discarded and a release is owed for each key down: those that fit enter the Input area in their order, the others stay pending. -/
def Obligations.SwitchInputsAreDebounced : Prop :=
  (∀ (i : Input) (high : Bool) (s : State),
      ((s.sib.input i).level = high → exec (.rawChange i high) s = .next s) ∧
        ((s.sib.input i).level ≠ high → 0 < s.par.debounce i →
          exec (.rawChange i high) s =
            .next
              { s with
                sib :=
                  s.sib.setInput i
                    ⟨high, (s.sib.input i).asserted,
                      if rawState (s.par.polarity i) high = (s.sib.input i).asserted then none
                      else some (s.par.debounce i)⟩ }) ∧
        ((s.sib.input i).level ≠ high → s.par.debounce i = 0 → s.ulp.queue = [] →
          ∃ t, exec (.rawChange i high) s = .next t ∧
            t.sib = s.sib.setInput i ⟨high, rawState (s.par.polarity i) high, none⟩)) ∧
    (∀ (i : Input) (r : Nat) (s : State), (s.sib.input i).run = some r → s.ulp.queue = [] →
        ∃ t, exec (.debounceExpiry i) s = .next t ∧
          t.sib = (s.sib.pass r).setInput i ⟨(s.sib.input i).level, rawState (s.par.polarity i) (s.sib.input i).level, none⟩ ∧
          s.SameConfig t ∧ t.ms = s.ms + BitVec.ofNat 32 r ∧
          (i = .lid → s.awake = true → s.igt.head = .idle ∨ s.fbf.hold = [] → s.sib.lid.asserted = false →
            rawState s.par.lidPolarity s.sib.lid.level = true → t.hau.hinge = ⟨some 0, .hall, 0⟩)) ∧
    (∀ (r : Nat) (s : State), s.sib.presence.run = some r → s.sib.presence.asserted = true →
        rawState s.par.presencePolarity s.sib.presence.level = false → s.dlc.state ≠ .absent → s.igt.head = .idle → s.ulp.queue = [] →
        ∃ t, exec (.debounceExpiry .presence) s = .next t ∧ t.dlc.state = .absent ∧ t.dlc.recov = false ∧ t.dlc.step = none ∧
          t.dlc.walk = none ∧ t.dlc.powerReq = none ∧ t.dlc.settle = none ∧ t.dlc.ready = none ∧ t.dlc.slot = none ∧
          t.dlc.slotTimer = none ∧ t.dlc.attemptTimer = none ∧ t.dlc.attempts = 0 ∧ t.dlc.outcomes = [] ∧ t.dlc.missed = 0 ∧
          t.dlc.overdraw = 0 ∧ t.dlc.cause = none ∧ t.dlc.base = none ∧ t.dlc.basePower = false ∧ t.sbu.requested = 0 ∧
          t.sbu.grant = 0 ∧ t.fbf.passdown = [] ∧ s.SameConfig t ∧
          (0 < s.par.postureDwell → s.Unruled → s.ulp.lineFree = false →
            (s.awake = true → t.hau.cond = .absent) ∧ t.pcl.cond = .detached ∧
              (s.dlc.state.delivers = false →
                t.igt = (elapse r s).igt ∧ t.fbf.hold = s.fbf.hold ∧ t.fbf.input = s.fbf.input) ∧
              (s.dlc.state.delivers = true →
                t.fbf.hold = [] ∧ t.igt.head = .idle ∧ t.igt.displaced = false ∧ t.igt.expired = false ∧
                  ∀ owed, owed = s.igt.owed → ∀ n, n = min owed.length (s.fbf.inputFree / 6) →
                    t.fbf.input = s.fbf.input ++ (owed.take n).map (fun p => ⟨.key, [byte p.code, 1]⟩) ∧
                      t.igt.pend = owed.drop n ∧ t.igt.keys = (owed.take n).foldl (fun ks p => ks.erase p.code) s.igt.keys)))

/-- LID_SAMPLE_EVENT in RUN and DOZE: the clamped sample enters the lid filter and the next sample is due one period later. Where the orientation that it gives commits no posture before the hinge computation (an orientation dwell above 0, or nothing held and no sleep rule; in DOZE, where no orientation is committed, a posture dwell above 0 and no head procedure paused), a hall forces the hinge record, a base vector that is not ABSENT lets the hinge computation move it, and with the base vector ABSENT an UNKNOWN record stays UNKNOWN. ORIENT_DWELL_EXPIRY: the candidate is committed. -/
def Obligations.LidSampleAndOrientDwell : Prop :=
  (∀ (x y z : Int) (r : Nat) (s : State), s.awake = true → s.hau.sampleTimer = some r → s.ulp.queue = [] →
      ∃ t, exec (.lidSampleEvent x y z) s = .next t ∧
        t.hau.lid = some (smooth s.par.shift s.hau.lid ⟨clampAxis x, clampAxis y, clampAxis z⟩) ∧
        t.hau.sampleTimer = some (samplePeriod s.psc.power s.par.lidRate) ∧
        (s.psc.power = .run ∧ (0 < s.par.orientDwell ∨ s.fbf.hold = [] ∧ s.Unruled) ∨
            s.psc.power = .doze ∧ 0 < s.par.postureDwell ∧ s.igt.head = .idle →
          (s.sib.lid.asserted = true → t.hau.hinge = ⟨some 0, .hall, 0⟩) ∧
            (s.sib.lid.asserted = false → s.sib.fold.asserted = true → t.hau.hinge = ⟨some 5760, .hall, 0⟩) ∧
            (s.sib.lid.asserted = false → s.sib.fold.asserted = false →
              (s.hau.cond ≠ .absent →
                t.hau.hinge = s.hau.hinge.next s.par.holdLimit (hingeSample (takeLidSample x y z (elapse r s)).1)) ∧
                (s.hau.cond = .absent → s.hau.hinge = ⟨none, .unknown, 0⟩ → t.hau.hinge = ⟨none, .unknown, 0⟩))) ∧
        s.SameConfig t ∧ t.sib = (elapse r s).sib ∧ t.ms = (elapse r s).ms ∧
        (s.psc.power = .run → Only [.hau, .oru, .pcl, .igt, .fbf, .spu, .psc, .ulp] (elapse r s) t)) ∧
    (∀ (c : Orient) (r : Nat) (s : State), s.psc.power = .run → s.oru.dwell = some r → s.oru.candidate = some c →
        s.ulp.queue = [] →
        ∃ t, exec .orientDwellExpiry s = .next t ∧ t.oru = { s.oru with committed := c, dwell := none } ∧
          s.SameConfig t ∧ Only [.oru, .pcl, .igt, .fbf, .spu, .psc, .ulp] (elapse r s) t)

/-- POSTURE_DWELL_EXPIRY: the candidate code is committed with the time of the commit, and a restart hold ends. RESTART_HOLD_EXPIRY: the hold ends; a candidate that differs starts the full dwell. -/
def Obligations.PostureTimersCommitAndRelease : Prop :=
  (∀ (c r : Nat) (s : State), s.psc.power = .run → s.pcl.dwell = some r → s.pcl.cand = some c → 0 < s.par.postureDwell →
      s.ulp.queue = [] →
      ∃ t, exec .postureDwellExpiry s = .next t ∧ t.pcl.code = c ∧ t.pcl.row = s.pcl.candRow ∧
        t.pcl.stamp = s.ms + BitVec.ofNat 32 r ∧ t.pcl.dwell = none ∧ t.pcl.restart = none ∧ s.SameConfig t ∧
        Only [.pcl, .igt, .fbf, .spu, .psc, .ulp] (elapse r s) t) ∧
    (∀ (r : Nat) (s : State), s.pcl.restart = some r → 0 < s.par.postureDwell →
        exec .restartHoldExpiry s =
          .next
            { elapse r s with
              pcl :=
                { (elapse r s).pcl with
                  restart := none
                  dwell := if s.pcl.differs then some s.par.postureDwell else (elapse r s).pcl.dwell } })

/-! ### Dock Link -/

/-- SETTLE_TIMER_DOCK_EXPIRY: PRESENT; under the AUTO policy in RUN the IDENTIFY step begins at once, with a probe request of 50 mA and with base power, which is the model's reading of the moment at which it goes on (log 25), or fails for a budget below 50 mA (no head procedure paused, the base condition DETACHED and the base vector ABSENT, as they are in SETTLING); in STANDBY and SETTLE the walk is begun and waits in PRESENT. READY_TIMER_EXPIRY: FAULTED with cause POWER. -/
def Obligations.DockSettleAndReadyTimers : Prop :=
  (∀ (r : Nat) (s : State), s.psc.power = .run → s.dlc.settle = some r → s.dlc.step = none → s.ulp.queue = [] →
      (s.par.attachPolicy = 0 → s.dlc.walk = none →
        ∃ t, exec .settleTimerDockExpiry s = .next t ∧ t.dlc.state = .present ∧ t.dlc.base = none ∧ t.dlc.walk = none ∧
          t.sbu.grant = 0 ∧ t.fbf.passdown = [] ∧ s.SameConfig t ∧ t.sib = (elapse r s).sib) ∧
        (s.par.attachPolicy = 1 → s.igt.head = .idle → s.hau.cond = .absent → s.pcl.cond = .detached →
          (50 ≤ s.par.bTotal →
            ∃ t, exec .settleTimerDockExpiry s = .next t ∧ t.dlc.state = .identifying ∧ t.dlc.recov = false ∧
              t.dlc.step = some .identify ∧ t.dlc.walk = some ⟨.attach, .policy⟩ ∧ t.dlc.basePower = true ∧
              t.sbu.requested = 50 ∧ s.SameConfig t ∧ t.sib = (elapse r s).sib) ∧
            (s.par.bTotal < 50 →
              ∃ t, exec .settleTimerDockExpiry s = .next t ∧ t.dlc.state = .faulted ∧ t.dlc.cause = some .budget ∧
                t.dlc.step = none ∧ t.dlc.walk = none ∧ t.dlc.base = none ∧ t.sbu.grant = 0 ∧ s.SameConfig t ∧
                t.sib = (elapse r s).sib))) ∧
    (∀ (r : Nat) (s : State), s.awake = false → s.dlc.settle = some r → s.dlc.step = none → s.ulp.queue = [] →
        s.par.attachPolicy = 1 →
        ∃ t, exec .settleTimerDockExpiry s = .next t ∧ t.dlc.state = .present ∧ t.dlc.base = none ∧ t.dlc.step = none ∧
          t.dlc.walk = some ⟨.attach, .policy⟩ ∧ t.fbf.passdown = [] ∧ s.SameConfig t ∧ t.sib = (elapse r s).sib) ∧
    (∀ (r : Nat) (s : State), s.dlc.ready = some r → s.psc.power = .run → s.ulp.queue = [] →
        ∃ t, exec .readyTimerExpiry s = .next t ∧ t.dlc.state = .faulted ∧ t.dlc.cause = some .power ∧ t.dlc.step = none ∧
          t.dlc.walk = none ∧ t.dlc.basePower = false ∧ t.dlc.base = s.dlc.base ∧ t.sbu.grant = 0 ∧ t.fbf.passdown = [] ∧
          s.SameConfig t ∧ t.sib = (elapse r s).sib ∧ t.oru = (elapse r s).oru)

/-- POLL_PERIOD_EXPIRY: the frame that opens the next slot, by the dock state. IDENT_ATTEMPT_OPEN: the next IDENT_REQ, 10 ms after the opening of the last. -/
def Obligations.SlotTimersOpenSlots : Prop :=
  (∀ (r : Nat) (s : State), s.dlc.slotTimer = some r →
      (s.dlc.slot.isSome = true → exec .pollPeriodExpiry s = .next (elapse r s)) ∧
        (s.dlc.slot = none → s.dlc.state = .powering ∨ s.dlc.state = .waking →
          exec .pollPeriodExpiry s =
            .next { elapse r s with dlc := { (elapse r s).dlc with slot := some ⟨headRun, []⟩, sinceOpen := 0, slotTimer := some s.par.pollPeriod } }) ∧
        (s.dlc.slot = none → s.dlc.state = .active → s.awake = true → s.dlc.step = some .quiesce → s.dlc.quiesceSent = false →
          exec .pollPeriodExpiry s =
            .next { elapse r s with dlc := { (elapse r s).dlc with slot := some ⟨headQuiesce, []⟩, sinceOpen := 0, slotTimer := some s.par.pollPeriod, quiesceSent := true } }) ∧
        (s.dlc.slot = none → s.dlc.state = .active → s.awake = true → s.dlc.step ≠ some .quiesce → s.fbf.passdown = [] →
          exec .pollPeriodExpiry s =
            .next { elapse r s with dlc := { (elapse r s).dlc with slot := some ⟨headPoll, []⟩, sinceOpen := 0, slotTimer := some s.par.pollPeriod } }) ∧
        (∀ f rest, s.fbf.passdown = f :: rest → s.dlc.slot = none → s.dlc.state = .active → s.awake = true →
          s.dlc.step ≠ some .quiesce →
          exec .pollPeriodExpiry s =
            .next
              { elapse r s with
                dlc := { (elapse r s).dlc with slot := some ⟨headPassdown, f.payload⟩, sinceOpen := 0, slotTimer := some s.par.pollPeriod }
                fbf := { s.fbf with passdown := rest } }) ∧
        (s.dlc.slot = none → s.dlc.state = .quiesced → s.awake = true →
          exec .pollPeriodExpiry s =
            .next { elapse r s with dlc := { (elapse r s).dlc with slot := some ⟨headPoll, []⟩, sinceOpen := 0, slotTimer := some s.par.quiescedPeriod } })) ∧
    (∀ (r : Nat) (s : State), s.dlc.attemptTimer = some r →
        (s.dlc.state = .identifying → s.dlc.slot = none →
          exec .identAttemptOpen s =
            .next { elapse r s with dlc := { (elapse r s).dlc with slot := some ⟨headIdentReq, []⟩, sinceOpen := 0, attemptTimer := some 10 } }) ∧
          (s.dlc.state ≠ .identifying ∨ s.dlc.slot ≠ none → exec .identAttemptOpen s = .next (elapse r s)))

/-- DOCK_ANSWER in a slot of POLL or PASSDOWN in ACTIVE and of POLL in QUIESCED whose successor is not yet due: NIL, IDENT, TILT and STAT; in a RUN slot of POWERING and WAKING NIL and IDENT, a missed response, and in POWERING KEY and POINT too, only close the slot, TILT reaches the HAU, and a STAT with the ready flag ends the step in ACTIVE (in RUN, no power request stored) with the report DOCK STEP_DONE (stated with no sleep rule, the upstream line busy, no tilt in the base, the grant at the active demand and room for the report; the codes of its fields are the model's reading, log 15). In all four states a STAT with the base fault flag, and the third in a row over the limit, fault the dock with the grant at 0. Without a slot in progress an answer is discarded. That the answer to a slot still open in STANDBY or SETTLE counts in the same way is the model's choice (log 49). -/
def Obligations.ActiveAnswersAreRouted : Prop :=
  ∀ (bytes : List Byte) (f : DockFrame) (s : State),
    (s.dlc.slot = none → exec (.dockAnswer bytes) s = .next s) ∧
      (s.dlc.state = .active ∧ f.head ≠ headQuiesce ∨ s.dlc.state = .quiesced → s.dlc.slot = some f → s.dlc.slotTimer ≠ some 0 →
        (parseAnswer bytes = some .nil ∨ (parseAnswer bytes).any Answer.isIdent = true →
          exec (.dockAnswer bytes) s = .next { s with dlc := { s.dlc with slot := none, missed := 0 } }) ∧
        (∀ x y z, parseAnswer bytes = some (.tilt x y z) →
          exec (.dockAnswer bytes) s = .next (acceptTilt x y z { s with dlc := { s.dlc with slot := none, missed := 0 } })) ∧
        (∀ flags ma, parseAnswer bytes = some (.stat flags ma) → flags.getLsbD 2 = false →
          overdrawNext s.sbu.grant ma s.dlc.overdraw ≠ 3 →
          exec (.dockAnswer bytes) s =
            .next { s with dlc := { s.dlc with slot := none, missed := 0, overdraw := overdrawNext s.sbu.grant ma s.dlc.overdraw } })) ∧
      (s.dlc.state = .powering ∨ s.dlc.state = .waking → s.dlc.slot = some f → s.dlc.slotTimer ≠ some 0 →
        (∀ c ∈ [Instr.answerWindowExpiry, .answerStoppedShort, .dockAnswer bytes],
          c ≠ .dockAnswer bytes ∨ parseAnswer bytes = none ∨ parseAnswer bytes = some .nil ∨
              (parseAnswer bytes).any Answer.isIdent = true ∨
              s.dlc.state = .powering ∧ (parseAnswer bytes).any Answer.isInput = true →
          exec c s = .next { s with dlc := { s.dlc with slot := none } }) ∧
        (∀ x y z, parseAnswer bytes = some (.tilt x y z) →
          exec (.dockAnswer bytes) s = .next (acceptTilt x y z { s with dlc := { s.dlc with slot := none } })) ∧
        (∀ flags ma, parseAnswer bytes = some (.stat flags ma) → flags.getLsbD 2 = false →
          overdrawNext s.sbu.grant ma s.dlc.overdraw ≠ 3 →
          (flags.getLsbD 0 = false →
            exec (.dockAnswer bytes) s =
              .next { s with dlc := { s.dlc with slot := none, overdraw := overdrawNext s.sbu.grant ma s.dlc.overdraw } }) ∧
            (∀ st, s.dlc.step = some st → flags.getLsbD 0 = true → s.dlc.powerReq = none → s.psc.power = .run → s.ulp.queue = [] →
              ∃ t, exec (.dockAnswer bytes) s = .next t ∧ t.dlc.state = .active ∧ t.dlc.step = none ∧ t.dlc.walk = none ∧
                t.dlc.ready = none ∧ t.dlc.slot = none ∧ t.dlc.slotTimer = s.dlc.slotTimer ∧ t.dlc.missed = 0 ∧
                t.dlc.overdraw = 0 ∧ t.dlc.base = s.dlc.base ∧ t.dlc.basePower = s.dlc.basePower ∧
                t.sbu.requested = s.dlc.activeDemand ∧ t.fbf.passdown = s.fbf.passdown ∧ s.SameConfig t ∧ t.sib = s.sib ∧
                t.ms = s.ms ∧
                (s.Unruled → s.ulp.lineFree = false → s.pcl.cond = .keyboard → s.dlc.tilt = none → s.hau.cond = .absent →
                  s.sbu.grant = s.dlc.activeDemand → reportEnabled s.ulp.mask .dock = true → s.ulp.lost = 0 →
                  18 ≤ s.fbf.reportFree →
                  t.fbf.report =
                    s.fbf.report ++
                      [⟨.report,
                        reportPayload .dock s.ms
                          ([byte DockEvent.stepDone.code, 1, byte st.code] ++
                            (match s.dlc.walk with | some w => [1, byte w.origin.code] | none => [0]) ++
                            [byte DockState.active.code, 0] ++
                            (match s.dlc.base with | some b => [1, byte b.classCode] | none => [0]))⟩])))) ∧
      (s.dlc.state = .active ∧ f.head ≠ headQuiesce ∨ s.dlc.state = .quiesced ∨ s.dlc.state = .powering ∨ s.dlc.state = .waking →
        s.dlc.slot = some f → s.ulp.queue = [] → ∀ flags ma, parseAnswer bytes = some (.stat flags ma) →
          flags.getLsbD 2 = true ∨ overdrawNext s.sbu.grant ma s.dlc.overdraw = 3 →
          ∃ t, exec (.dockAnswer bytes) s = .next t ∧ t.dlc.state = .faulted ∧
            t.dlc.cause = some (if flags.getLsbD 2 then .base else .overdraw) ∧ t.dlc.step = none ∧ t.dlc.walk = none ∧
            t.dlc.slot = none ∧ t.dlc.basePower = false ∧ t.dlc.base = s.dlc.base ∧ t.sbu.requested = 0 ∧ t.sbu.grant = 0 ∧
            s.SameConfig t ∧ t.sib = s.sib ∧ t.ms = s.ms)

/-- KEY and POINT frames in ACTIVE, the second part in QUIESCED and WAKING too, with nothing held or pending and the upstream line busy. A press of a new code that no gate entry matches: under a PASS directory it enters the Input area and the keys-down set, a release of a code of the set enters and leaves it, a DROP directory discards the press, a HOLD directory holds it. A press or a touchpad report that goes to judgement: the first matching entry counts a hit, to at most 255, and its PASS, WAKE, DROP or HOLD routes the frame, which a full Input area refuses; a WAKE hands its wake request over first, which has no effect on a host RUNNING or WAKING, waits where a cut is in progress, and in RUN with no sleep rule enabled wakes a host that sleeps, enters sleep or is off and withdraws an advice; a DROP entry's note is cleared, with a GATE_NOTE report; with no match the directory's action routes it, and under an entry not present it is held, with one GATE_MISSING report. A duplicate is dropped, a seventeenth key down is dropped with a ROLLOVER report. That the wake request goes before the frame is the model's reading (log 20); that the answer to a slot still open in STANDBY or SETTLE counts in the same way is its choice (log 49). -/
def Obligations.KeyFramesMeetTheGate : Prop :=
  (∀ (bytes : List Byte) (f : DockFrame) (code : Nat) (s : State), s.dlc.state = .active → s.dlc.slot = some f →
      f.head ≠ headQuiesce → s.dlc.slotTimer ≠ some 0 → s.fbf.hold = [] → s.igt.pend = [] → s.ulp.lineFree = false →
      6 ≤ s.fbf.inputFree →
      (parseAnswer bytes = some (.key code true) → s.igt.keys.contains code = true →
        exec (.dockAnswer bytes) s =
          .next
            { s with
              dlc := { s.dlc with slot := none, missed := 0 }
              fbf := { s.fbf with input := s.fbf.input ++ [⟨.key, [byte code, 1]⟩] }
              igt := { s.igt with keys := s.igt.keys.erase code, idle := 0, idleLeft := 1000 } }) ∧
        (parseAnswer bytes = some (.key code false) → s.igt.keys.contains code = false → s.igt.keys.length < 16 →
          s.gateDir.present = true → findEntry (.press code) s.igt.entries s.gateDir.first s.gateDir.count = none →
          (s.gateDir.action = .pass →
            exec (.dockAnswer bytes) s =
              .next
                { s with
                  dlc := { s.dlc with slot := none, missed := 0 }
                  fbf := { s.fbf with input := s.fbf.input ++ [⟨.key, [byte code, 0]⟩] }
                  igt := { s.igt with keys := s.igt.keys ++ [code], idle := 0, idleLeft := 1000 } }) ∧
          (s.gateDir.action = .drop →
            exec (.dockAnswer bytes) s = .next { s with dlc := { s.dlc with slot := none, missed := 0 } }) ∧
          (s.gateDir.action = .hold → 6 ≤ s.fbf.map.hold.len → 0 < s.par.gateHold →
            exec (.dockAnswer bytes) s =
              .next
                { s with
                  dlc := { s.dlc with slot := none, missed := 0 }
                  fbf := { s.fbf with hold := [⟨.press code, false, s.ms⟩] } }))) ∧
    (∀ (bytes : List Byte) (f : DockFrame) (s : State), s.dlc.state.delivers = true → s.dlc.slot = some f →
        (s.dlc.state = .active → f.head ≠ headQuiesce) → s.dlc.slotTimer ≠ some 0 → s.fbf.hold = [] → s.igt.pend = [] →
        s.ulp.lineFree = false →
        (∀ a, parseAnswer bytes = some a → ∀ b, s.judgedBody a = some b →
          (∀ k, findEntry b s.igt.entries s.gateDir.first s.gateDir.count = some k → ∀ e, s.igt.entries[k]? = some e →
            s.gateDir.present = true →
            (e.note = false →
              (e.action = .drop → exec (.dockAnswer bytes) s = .next (s.answerTaken.matched k e)) ∧
                (e.action = .pass →
                  exec (.dockAnswer bytes) s =
                    .next
                      (if b.payload.length + 4 ≤ s.fbf.inputFree then (s.answerTaken.matched k e).entered b
                      else s.answerTaken.matched k e)) ∧
                (e.action = .hold → b.payload.length + 4 ≤ s.fbf.map.hold.len → 0 < s.par.gateHold →
                  exec (.dockAnswer bytes) s = .next ((s.answerTaken.matched k e).setHold [⟨b, false, s.ms⟩])) ∧
                (e.action = .wake → b.payload.length + 4 ≤ s.fbf.inputFree →
                  (s.spu.cutStage = .none → s.spu.host = .running ∨ s.spu.host = .waking →
                    exec (.dockAnswer bytes) s = .next ((s.answerTaken.matched k e).entered b)) ∧
                    (s.spu.cutStage ≠ .none →
                      exec (.dockAnswer bytes) s =
                        .next
                          { (s.answerTaken.matched k e).entered b with spu := { s.spu with pendingWake := some .key } }) ∧
                    (s.spu.cutStage = .none → s.psc.power = .run → s.Unruled → s.ulp.queue = [] →
                      (s.spu.host = .sleeping ∨ s.spu.host = .entering ∨ s.spu.host = .off →
                        ∃ t, exec (.dockAnswer bytes) s = .next t ∧ t.spu.host = .waking ∧ t.spu.before = some s.spu.host ∧
                          t.spu.wakeSrc = some .key ∧ t.spu.wakeReq = true ∧ t.spu.wakeTimer = some (s.par.wakeTime * 1000) ∧
                          t.spu.compliance = none ∧ t.spu.advising = none ∧ t.dlc = s.answerTaken.dlc ∧
                          t.igt = ((s.answerTaken.matched k e).entered b).igt ∧
                          t.fbf.input = s.fbf.input ++ [⟨b.kind, b.payload⟩] ∧ s.SameConfig t) ∧
                        (s.spu.host = .advised →
                          ∃ t, exec (.dockAnswer bytes) s = .next t ∧ t.spu.host = .running ∧ t.spu.compliance = none ∧
                            t.spu.advising = none ∧ t.dlc = s.answerTaken.dlc ∧
                            t.igt = ((s.answerTaken.matched k e).entered b).igt ∧
                            t.fbf.input = s.fbf.input ++ [⟨b.kind, b.payload⟩] ∧ s.SameConfig t)))) ∧
              (e.note = true → e.action = .drop →
                (reportEnabled s.ulp.mask .gateNote = false →
                  exec (.dockAnswer bytes) s = .next (s.answerTaken.matched k e)) ∧
                  (reportEnabled s.ulp.mask .gateNote = true → s.ulp.lost = 0 → 14 ≤ s.fbf.reportFree →
                    exec (.dockAnswer bytes) s =
                      .next
                        ((s.answerTaken.matched k e).withReport
                          (reportPayload .gateNote s.ms
                            ([byte s.pcl.code, byte k, byte b.cls.code] ++ (match b.key with | some c => [1, byte c] | none => [0]))))))) ∧
            (findEntry b s.igt.entries s.gateDir.first s.gateDir.count = none → s.gateDir.present = true →
              (s.gateDir.action = .drop → exec (.dockAnswer bytes) s = .next s.answerTaken) ∧
                (s.gateDir.action = .pass →
                  exec (.dockAnswer bytes) s =
                    .next (if b.payload.length + 4 ≤ s.fbf.inputFree then s.answerTaken.entered b else s.answerTaken)) ∧
                (s.gateDir.action = .hold → b.payload.length + 4 ≤ s.fbf.map.hold.len → 0 < s.par.gateHold →
                  exec (.dockAnswer bytes) s = .next (s.answerTaken.setHold [⟨b, false, s.ms⟩]))) ∧
            (s.gateDir.present = false → b.payload.length + 4 ≤ s.fbf.map.hold.len → 0 < s.par.gateHold →
              (s.igt.missing = true → exec (.dockAnswer bytes) s = .next (s.answerTaken.setHold [⟨b, false, s.ms⟩])) ∧
                (s.igt.missing = false → reportEnabled s.ulp.mask .gateMissing = true → s.ulp.lost = 0 → 10 ≤ s.fbf.reportFree →
                  exec (.dockAnswer bytes) s =
                    .next
                      (({ s.answerTaken with igt := { s.igt with missing := true } }.setHold [⟨b, false, s.ms⟩]).withReport
                        (reportPayload .gateMissing s.ms [byte s.pcl.code]))))) ∧
          (∀ code up, parseAnswer bytes = some (.key code up) → up = false →
            (s.igt.keys.contains code = true → exec (.dockAnswer bytes) s = .next s.answerTaken) ∧
              (s.igt.keys.contains code = false → 16 ≤ s.igt.keys.length → reportEnabled s.ulp.mask .rollover = true →
                s.ulp.lost = 0 → 11 ≤ s.fbf.reportFree →
                exec (.dockAnswer bytes) s =
                  .next (s.answerTaken.withReport (reportPayload .rollover s.ms [byte code, byte s.pcl.code])))))

/-- A missed response in ACTIVE (a window that expires, an answer that stops short, a garbled one) counts, and the third in a row starts the recovery in RUN. In QUIESCED it counts too, and the third in a row faults the dock with cause LINK, the base record kept. That a slot still open in STANDBY or SETTLE counts its miss in the same way is the model's choice (log 49). The answer to a QUIESCE frame, in RUN with no power request stored: after the tests of base fault and overdraw a STAT with the quiesced flag ends the step in QUIESCED, with a request of the quiesced demand; anything else fails the step in ACTIVE and counts as a miss, a TILT in it still reaches the HAU, and the third in a row starts the recovery (no head procedure paused). -/
def Obligations.MissedResponsesCountToRecovery : Prop :=
  (∀ (bytes : List Byte) (f : DockFrame) (s : State), s.dlc.state = .active → s.dlc.slot = some f →
      f.head ≠ headQuiesce → s.dlc.slotTimer ≠ some 0 → parseAnswer bytes = none →
      (s.dlc.missed < 2 →
        exec .answerWindowExpiry s = .next { s with dlc := { s.dlc with slot := none, missed := s.dlc.missed + 1 } } ∧
          exec .answerStoppedShort s = .next { s with dlc := { s.dlc with slot := none, missed := s.dlc.missed + 1 } } ∧
          exec (.dockAnswer bytes) s = .next { s with dlc := { s.dlc with slot := none, missed := s.dlc.missed + 1 } }) ∧
        (s.dlc.missed = 2 → s.psc.power = .run → s.ulp.queue = [] →
          ∀ c ∈ [Instr.answerWindowExpiry, .answerStoppedShort, .dockAnswer bytes],
            ∃ t, exec c s = .next t ∧ t.dlc.state = .identifying ∧ t.dlc.recov = true ∧ t.dlc.step = some .recover ∧
              t.dlc.walk = none ∧ t.dlc.slot = some ⟨headIdentReq, []⟩ ∧ t.dlc.base = s.dlc.base ∧
              t.dlc.basePower = s.dlc.basePower ∧ s.SameConfig t ∧ t.sib = s.sib)) ∧
    (∀ (bytes : List Byte) (f : DockFrame) (s : State), s.dlc.state = .active → s.dlc.slot = some f →
        f.head = headQuiesce → s.dlc.powerReq = none → s.psc.power = .run → s.ulp.queue = [] →
        (∀ flags ma, parseAnswer bytes = some (.stat flags ma) →
          (flags.getLsbD 2 = true ∨ overdrawNext s.sbu.grant ma s.dlc.overdraw = 3 →
            ∃ t, exec (.dockAnswer bytes) s = .next t ∧ t.dlc.state = .faulted ∧
              t.dlc.cause = some (if flags.getLsbD 2 then .base else .overdraw) ∧ t.dlc.step = none ∧ t.dlc.walk = none ∧
              t.dlc.basePower = false ∧ t.sbu.grant = 0 ∧ s.SameConfig t ∧ t.sib = s.sib) ∧
            (flags.getLsbD 2 = false → overdrawNext s.sbu.grant ma s.dlc.overdraw ≠ 3 →
              (flags.getLsbD 1 = true →
                ∃ t, exec (.dockAnswer bytes) s = .next t ∧ t.dlc.state = .quiesced ∧ t.dlc.step = none ∧ t.dlc.walk = none ∧
                  t.dlc.missed = 0 ∧ t.dlc.base = s.dlc.base ∧ t.fbf.passdown = s.fbf.passdown ∧
                  (∀ j, s.dlc.base = some (.keyboard j) → t.sbu.requested = j.quiesced) ∧ s.SameConfig t ∧ t.sib = s.sib) ∧
                (flags.getLsbD 1 = false → s.dlc.missed < 2 → s.dlc.slotTimer ≠ some 0 →
                  ∃ t, exec (.dockAnswer bytes) s = .next t ∧
                    t.dlc =
                      { s.dlc with
                        slot := none, step := none, quiesceSent := false, walk := none, missed := s.dlc.missed + 1
                        overdraw := overdrawNext s.sbu.grant ma s.dlc.overdraw } ∧
                    s.SameConfig t ∧ t.sib = s.sib))) ∧
          (∀ c ∈ [Instr.answerWindowExpiry, .answerStoppedShort, .dockAnswer bytes],
            (parseAnswer bytes).any Answer.isStat = false →
            (s.dlc.missed < 2 → s.dlc.slotTimer ≠ some 0 →
              ∃ t, exec c s = .next t ∧
                t.dlc =
                  { s.dlc with
                    slot := none, step := none, quiesceSent := false, walk := none, missed := s.dlc.missed + 1 } ∧
                (∀ x y z, parseAnswer bytes = some (.tilt x y z) → c = .dockAnswer bytes → t.hau = (acceptTilt x y z s).hau) ∧
                s.SameConfig t ∧ t.sib = s.sib) ∧
              (s.dlc.missed = 2 → s.igt.head = .idle → c ≠ .dockAnswer bytes ∨ parseAnswer bytes = none ∨ parseAnswer bytes = some .nil →
                ∃ t, exec c s = .next t ∧ t.dlc.state = .identifying ∧ t.dlc.recov = true ∧ t.dlc.step = some .recover ∧
                  t.dlc.walk = none ∧ t.dlc.slot = some ⟨headIdentReq, []⟩ ∧ t.dlc.base = s.dlc.base ∧
                  t.dlc.basePower = s.dlc.basePower ∧ s.SameConfig t ∧ t.sib = s.sib))) ∧
    (∀ (bytes : List Byte) (f : DockFrame) (s : State), s.dlc.state = .quiesced → s.dlc.slot = some f → parseAnswer bytes = none →
        ∀ c ∈ [Instr.answerWindowExpiry, .answerStoppedShort, .dockAnswer bytes],
          (s.dlc.missed < 2 → s.dlc.slotTimer ≠ some 0 →
            exec c s = .next { s with dlc := { s.dlc with slot := none, missed := s.dlc.missed + 1 } }) ∧
            (s.dlc.missed = 2 → s.ulp.queue = [] →
              ∃ t, exec c s = .next t ∧ t.dlc.state = .faulted ∧ t.dlc.cause = some .link ∧ t.dlc.step = none ∧
                t.dlc.walk = none ∧ t.dlc.slot = none ∧ t.dlc.base = s.dlc.base ∧ t.dlc.basePower = false ∧
                t.sbu.requested = 0 ∧ t.sbu.grant = 0 ∧ t.fbf.passdown = [] ∧ s.SameConfig t ∧ t.sib = s.sib ∧ t.ms = s.ms))

/-- The attempts of a first identification in RUN, no head procedure paused: a VALID IDENT gives IDENTIFIED with its base record, and in an ATTACH walk POWER follows at once, or fails for the budget (base vector ABSENT and base condition DETACHED, as they are in IDENTIFYING); three silent attempts give a cover, three attempts with a garbled one FAULTED; an attempt before the third is noted. The outcomes of a recovery in RUN, with the base condition KEYBOARD, as it is then, no walk and no power request stored, and the Hold area empty, as it is then, or with the dwell or the base vector such that no posture is committed: the same class and layout give ACTIVE again with the request of the new active demand, and the first slot opens one poll period after the attempt's, at once where that has passed; another class or layout begins POWER with the Passdown area emptied; a demand above the budget, and three attempts without an IDENT, fault the dock. -/
def Obligations.IdentificationOutcomes : Prop :=
  (∀ (bytes : List Byte) (f : DockFrame) (i : Ident) (s : State), s.dlc.state = .identifying → s.dlc.recov = false →
      s.dlc.slot = some f → s.psc.power = .run → s.igt.head = .idle → s.ulp.queue = [] →
      (parseAnswer bytes = some (.ident i) →
        (s.dlc.walk = none →
          ∃ t, exec (.dockAnswer bytes) s = .next t ∧ t.dlc.state = .identified ∧ t.dlc.base = some (.keyboard i) ∧
            t.dlc.step = none ∧ t.dlc.walk = none ∧ t.dlc.basePower = s.dlc.basePower ∧ t.sbu.requested = 50 ∧
            s.SameConfig t ∧ t.sib = s.sib) ∧
          (∀ w, s.dlc.walk = some w → w.target = .attach → s.hau.cond = .absent → s.pcl.cond = .detached →
            (i.active ≤ s.par.bTotal →
              ∃ t, exec (.dockAnswer bytes) s = .next t ∧ t.dlc.state = .powering ∧ t.dlc.base = some (.keyboard i) ∧
                t.dlc.step = some .power ∧ t.dlc.walk = some w ∧ t.sbu.requested = i.active ∧ s.SameConfig t ∧ t.sib = s.sib) ∧
              (s.par.bTotal < i.active →
                ∃ t, exec (.dockAnswer bytes) s = .next t ∧ t.dlc.state = .faulted ∧ t.dlc.cause = some .budget ∧
                  t.dlc.base = some (.keyboard i) ∧ t.dlc.step = none ∧ t.dlc.walk = none ∧ t.dlc.basePower = false ∧
                  t.sbu.grant = 0 ∧ s.SameConfig t ∧ t.sib = s.sib))) ∧
        (s.dlc.outcomes = [.missing, .missing] →
          ∃ t, exec .answerWindowExpiry s = .next t ∧ t.dlc.state = .covered ∧ t.dlc.base = some .cover ∧ t.dlc.step = none ∧
            t.dlc.walk = none ∧ t.dlc.basePower = false ∧ t.sbu.grant = 0 ∧ t.fbf.passdown = [] ∧ s.SameConfig t ∧
            t.sib = s.sib) ∧
        (∀ c ∈ [Instr.answerWindowExpiry, .answerStoppedShort, .dockAnswer bytes],
          (parseAnswer bytes).any Answer.isIdent = false →
          (s.dlc.outcomes.length = 2 → c ≠ .answerWindowExpiry ∨ .garbled ∈ s.dlc.outcomes →
            ∃ t, exec c s = .next t ∧ t.dlc.state = .faulted ∧ t.dlc.cause = some .ident ∧ t.dlc.base = none ∧
              t.dlc.step = none ∧ t.dlc.walk = none ∧ t.dlc.basePower = false ∧ t.sbu.grant = 0 ∧ s.SameConfig t ∧
              t.sib = s.sib) ∧
            (s.dlc.outcomes.length < 2 → s.dlc.attemptTimer ≠ some 0 →
              exec c s =
                .next
                  { s with
                    dlc :=
                      { s.dlc with
                        slot := none
                        attempts := min (s.dlc.attempts + 1) 3
                        outcomes := s.dlc.outcomes ++ [if c = .answerWindowExpiry then .missing else .garbled] } }))) ∧
    (∀ (bytes : List Byte) (f : DockFrame) (i : Ident) (s : State), s.dlc.state = .identifying → s.dlc.recov = true →
        s.dlc.slot = some f → s.dlc.walk = none → s.dlc.powerReq = none → s.psc.power = .run → s.pcl.cond = .keyboard →
        s.igt.head = .idle → s.ulp.queue = [] →
        (parseAnswer bytes = some (.ident i) → s.hau.cond = .absent ∨ i.tilt.isSome = true ∨ 0 < s.par.postureDwell ∨ s.fbf.hold = [] →
          (s.dlc.sameBase i = true → i.active ≤ s.par.bTotal →
            ∃ t, exec (.dockAnswer bytes) s = .next t ∧ t.dlc.state = .active ∧ t.dlc.recov = false ∧
              t.dlc.base = some (.keyboard i) ∧ t.dlc.step = none ∧ t.dlc.walk = none ∧ t.dlc.missed = 0 ∧ t.dlc.overdraw = 0 ∧
              t.sbu.requested = i.active ∧ t.pcl.cond = .keyboard ∧
              (s.dlc.sinceOpen < s.par.pollPeriod →
                t.dlc.slot = none ∧ t.dlc.slotTimer = some (s.par.pollPeriod - s.dlc.sinceOpen) ∧ t.fbf.passdown = s.fbf.passdown) ∧
              (s.par.pollPeriod ≤ s.dlc.sinceOpen →
                t.dlc.slotTimer = some s.par.pollPeriod ∧ t.dlc.sinceOpen = 0 ∧
                  (s.fbf.passdown = [] → t.dlc.slot = some ⟨headPoll, []⟩) ∧
                  (∀ m rest, s.fbf.passdown = m :: rest →
                    t.dlc.slot = some ⟨headPassdown, m.payload⟩ ∧ t.fbf.passdown = rest)) ∧
              s.SameConfig t ∧ t.sib = s.sib) ∧
            (s.dlc.sameBase i = false → i.active ≤ s.par.bTotal →
              ∃ t, exec (.dockAnswer bytes) s = .next t ∧ t.dlc.state = .powering ∧ t.dlc.recov = false ∧
                t.dlc.base = some (.keyboard i) ∧ t.dlc.step = some .power ∧ t.dlc.walk = none ∧ t.fbf.passdown = [] ∧
                t.sbu.requested = i.active ∧ t.pcl.cond = .keyboard ∧ s.SameConfig t ∧ t.sib = s.sib) ∧
            (s.par.bTotal < i.active → s.hau.cond = .absent ∨ 0 < s.par.postureDwell ∨ s.fbf.hold = [] →
              ∃ t, exec (.dockAnswer bytes) s = .next t ∧ t.dlc.state = .faulted ∧ t.dlc.cause = some .budget ∧
                t.dlc.recov = false ∧ t.dlc.base = some (.keyboard i) ∧ t.dlc.step = none ∧ t.dlc.basePower = false ∧
                t.fbf.passdown = [] ∧ t.sbu.grant = 0 ∧ s.SameConfig t ∧ t.sib = s.sib)) ∧
          (∀ c ∈ [Instr.answerWindowExpiry, .answerStoppedShort, .dockAnswer bytes],
            (parseAnswer bytes).any Answer.isIdent = false → s.dlc.outcomes.length = 2 →
            ∃ t, exec c s = .next t ∧ t.dlc.state = .faulted ∧ t.dlc.cause = some .link ∧ t.dlc.recov = false ∧
              t.dlc.base = s.dlc.base ∧ t.dlc.step = none ∧ t.dlc.basePower = false ∧ t.sbu.grant = 0 ∧ s.SameConfig t ∧
              t.sib = s.sib))

/-- WALK_STEP_RESUME and POWER_REQUEST_SERVE in ACTIVE, awake, with no step in flight: the QUIESCE step begins. PENDING_GRANT_APPLY: a request that rises to a level within the budget, once the rail is out of SHED. -/
def Obligations.FollowOnStepsAndGrants : Prop :=
  (∀ (o : Origin) (s : State), s.dlc.state = .active → s.awake = true → s.dlc.step = none →
      (s.dlc.walk = some ⟨.quiesce, o⟩ →
        exec .walkStepResume s = .next { s with dlc := { s.dlc with step := some .quiesce, quiesceSent := false } }) ∧
        (s.dlc.walk = none → s.dlc.powerReq = some .quiesce →
          exec .powerRequestServe s =
            .next { s with dlc := { s.dlc with step := some .quiesce, quiesceSent := false, walk := some ⟨.quiesce, .psc⟩, powerReq := none } }) ∧
        (s.dlc.walk = none → s.dlc.powerReq = some .wake →
          exec .powerRequestServe s = .next { s with dlc := { s.dlc with powerReq := none } })) ∧
    (∀ s : State, s.Calm → s.sbu.pending = true → s.sbu.railState ≠ .shed → s.sbu.grant < s.sbu.requested →
        s.sbu.requested ≤ s.par.bTotal →
        ∃ t, exec .pendingGrantApply s = .next t ∧ t.sbu.grant = s.sbu.requested ∧ t.sbu.pending = false ∧
          t.sbu.capped = false ∧ t.sbu.requested = s.sbu.requested ∧ t.sbu.grant + t.sbu.penSet ≤ s.par.bTotal ∧
          (s.dlc.await = some .ident → t.dlc.slot = some ⟨headIdentReq, []⟩) ∧
          (s.dlc.await = some .run → t.dlc.slot = some ⟨headRun, []⟩ ∧ t.dlc.ready = some 200) ∧ s.SameConfig t ∧
          Only [.dlc, .fbf, .sbu, .pcc, .ulp] s t)

/-! ### Input Gate and Frame Buffer -/

/-- HOLD_EXPIRY: an undecided frame alone in the Hold area leaves it at its limit, and the episode ends. SPACE_EVENT: a pending release enters the Input area when 6 bytes are free, and waits while they are not (upstream line busy, no procedure paused). -/
def Obligations.HoldExpiryAndSpaceEvent : Prop :=
  (∀ (f : HoldFrame) (s : State), s.fbf.hold = [f] → f.decided = false → s.Calm →
      ∃ t, exec .holdExpiry s = .next t ∧
        t.offLine =
          State.offLine
            { elapse (s.par.gateHold - since s.ms f.stamp) s with
              fbf := { s.fbf with hold := [] }
              igt := { (elapse (s.par.gateHold - since s.ms f.stamp) s).igt with displaced := false, expired := false } }) ∧
    (∀ (p : Pending) (s : State), s.igt.pend = [p] → s.igt.head = .idle → s.ulp.lineFree = false →
        (s.fbf.inputFree < 6 → exec .spaceEvent s = .next s) ∧
          (6 ≤ s.fbf.inputFree →
            exec .spaceEvent s =
              .next
                { s with
                  fbf := { s.fbf with input := s.fbf.input ++ [⟨.key, [byte p.code, 1]⟩] }
                  igt :=
                    { s.igt with
                      keys := s.igt.keys.erase p.code
                      pend := []
                      idle := if p.origin = .base then 0 else s.igt.idle
                      idleLeft := if p.origin = .base then 1000 else s.igt.idleLeft } }))

/-- IDLE_TIMER_INCREMENT: the count rises by one each second, to at most 65535. CUT_WAIT_EXPIRY asserts PWR_CUT for the configured pulse, CUT_PULSE_EXPIRY ends it; UNLOCK_WINDOW_TIMEOUT closes the window 100 ms after its frame. -/
def Obligations.IdleCutAndUnlockTimers : Prop :=
  (∀ s : State, s.Unruled →
      exec .idleTimerIncrement s =
        .next
          { elapse s.igt.idleLeft s with
            igt := { s.igt with idle := if s.igt.idle < 65535 then s.igt.idle + 1 else s.igt.idle, idleLeft := 1000 } }) ∧
    (∀ (r : Nat) (s : State),
        (s.spu.cutTimer = some r → s.spu.cutStage = .wait →
          exec .cutWaitExpiry s =
            .next { elapse r s with spu := { (elapse r s).spu with cutStage := .pulse, pwrCut := true, cutTimer := some s.par.cutPulse } }) ∧
          (s.spu.cutTimer = some r → s.spu.cutStage = .pulse → s.spu.pendingWake = none →
            exec .cutPulseExpiry s =
              .next { elapse r s with spu := { (elapse r s).spu with cutStage := .none, pwrCut := false, cutTimer := none } }) ∧
          (∀ u, s.spu.unlock = some u → s.spu.rxSeq = u.seq →
            exec .unlockWindowTimeout s =
              .next
                { elapse (100 - since s.ms u.time) s with
                  spu := { (elapse (100 - since s.ms u.time) s).spu with unlock := none } }))

/-! ### Supply budget and pen charging -/

/-- RAIL_READING: the clamped reading is stored and moves the rail state; one that moves no state changes nothing but the reading and the shed timer. TEMPERATURE_READING: the clamped reading is stored, and the next is due 100 ms later. -/
def Obligations.RailAndTemperatureReadings : Prop :=
  (∀ (mv : Int) (r : Nat) (s : State), s.sbu.railTimer = some r → s.ulp.queue = [] →
      (∃ t, exec (.railReading mv) s = .next t ∧ t.sbu.rail = (max 0 (min 6000 mv)).toNat ∧
        t.sbu.railState = s.sbu.railState.next s.par (max 0 (min 6000 mv)).toNat ∧ s.SameConfig t ∧
        t.sib = (elapse r s).sib ∧ t.ms = (elapse r s).ms) ∧
        (s.sbu.railState.next s.par (max 0 (min 6000 mv)).toNat = s.sbu.railState →
          exec (.railReading mv) s =
            .next
              { elapse r s with
                sbu :=
                  { (elapse r s).sbu with
                    rail := (max 0 (min 6000 mv)).toNat
                    shed := shedTimerNext s.par (max 0 (min 6000 mv)).toNat s.sbu.railState (elapse r s).sbu.shed
                    railTimer := railInterval s } })) ∧
    (∀ (v : Int) (r : Nat) (s : State), s.sbu.tempTimer = some r → s.psc.power = .run → s.ulp.queue = [] →
        ∃ t, exec (.temperatureReading v) s = .next t ∧ t.sbu.temp = max (-40) (min 125 v) ∧ t.sbu.tempTimer = some 100 ∧
          t.sbu.grant = s.sbu.grant ∧ s.SameConfig t ∧
          Only [.igt, .fbf, .sbu, .pcc, .spu, .psc, .ulp] (elapse r s) t)

/-- SHED_TIMER_EXPIRY: the dock grant is revoked, the base is switched off, and the DLC faults a supplied dock. -/
def Obligations.ShedTimerRevokesGrant : Prop :=
  ∀ (r : Nat) (s : State), s.sbu.shed = some r → s.Calm → s.psc.power = .run →
    ∃ t, exec .shedTimerExpiry s = .next t ∧ t.sbu.grant = 0 ∧ t.sbu.requested = 0 ∧ t.sbu.pending = false ∧
      t.sbu.shed = none ∧ t.dlc.basePower = false ∧
      (s.dlc.state.supplied = true → t.dlc.state = .faulted ∧ t.dlc.cause = some .supply ∧ t.dlc.step = none ∧ t.dlc.walk = none) ∧
      (s.dlc.state.supplied = false → t.dlc.state = s.dlc.state) ∧
      s.SameConfig t ∧ t.sib = (elapse r s).sib ∧ t.oru = (elapse r s).oru

/-- MEASUREMENT_EVENT: the clamped measurement is stored; the over-voltage test comes first, then the phase test of the phase, in TOPUP the termination dwell, whose 10000 ms end in DONE. PHASE_LIMIT_EXPIRY: FAULT with the phase's timeout as the cause, and no current. -/
def Obligations.MeasurementAndLimitMoveChargePhase : Prop :=
  (∀ (mv ma : Int) (r : Nat) (s : State), s.pcc.measTimer = some r → s.ulp.queue = [] → 0 ≤ mv → mv ≤ 6000 →
      ∃ t, exec (.measurementEvent mv ma) s = .next t ∧ t.pcc.vCell = some mv.toNat ∧
        t.pcc.iMeas = some (max 0 (min 500 ma)).toNat ∧
        (s.pcc.profile.vReg + 100 < mv.toNat → t.pcc.phase = .fault ∧ (s.pcc.phase ≠ .fault → t.pcc.cause = some .cell)) ∧
        (mv.toNat ≤ s.pcc.profile.vReg + 100 →
          (s.pcc.phase = .probe →
            t.pcc.phase =
              if mv.toNat < s.pcc.profile.vPreExit then .precharge
              else if s.pcc.profile.vFull ≤ mv.toNat then .resting else .bulk) ∧
          (s.pcc.phase = .precharge → t.pcc.phase = if s.pcc.profile.vPreExit ≤ mv.toNat then .bulk else .precharge) ∧
          (s.pcc.phase = .bulk → t.pcc.phase = if s.pcc.profile.vReg ≤ mv.toNat then .topup else .bulk) ∧
          (s.pcc.phase = .topup →
            (s.pcc.penSet = 0 ∨ s.pcc.profile.iTerm < (max 0 (min 500 ma)).toNat → t.pcc.phase = .topup ∧ t.pcc.term = none) ∧
              (0 < s.pcc.penSet → (max 0 (min 500 ma)).toNat ≤ s.pcc.profile.iTerm →
                (s.pcc.term = none → t.pcc.phase = .topup ∧ t.pcc.term = some 0) ∧
                  (∀ e, s.pcc.term = some e → e + 100 < 10000 → t.pcc.phase = .topup ∧ t.pcc.term = some (e + 100)) ∧
                  (∀ e, s.pcc.term = some e → 10000 ≤ e + 100 →
                    t.pcc.phase = .done ∧ t.pcc.prev = .topup ∧ t.pcc.term = none ∧ t.pcc.penSet = 0))) ∧
          (s.pcc.phase = .done → t.pcc.phase = .resting) ∧
          (s.pcc.phase = .resting → t.pcc.phase = if mv.toNat < s.pcc.profile.vRecharge then .bulk else .resting) ∧
          (s.pcc.phase = .fault → t.pcc.phase = .fault ∧ t.pcc.cause = s.pcc.cause)) ∧
        s.SameConfig t ∧ t.sib = (elapse r s).sib ∧ t.ms = (elapse r s).ms) ∧
    (∀ s : State, s.pcc.phase.charging = true → 0 < s.pcc.penSet → s.ulp.queue = [] →
        ∃ t, exec .phaseLimitExpiry s = .next t ∧ t.pcc.phase = .fault ∧ t.pcc.prev = s.pcc.phase ∧
          t.pcc.cause = some (match s.pcc.phase with | .precharge => .prechargeTimeout | .bulk => .bulkTimeout | _ => .topupTimeout) ∧
          t.pcc.timer = 0 ∧ t.pcc.penSet = 0 ∧ t.sbu.iPhase = 0 ∧ s.SameConfig t ∧
          t.sib = (elapse (s.pcc.profile.limit s.pcc.phase * 60000 - s.pcc.timer) s).sib)

/-! ### Sleep policy -/

/-- SLEEP_DWELL_EXPIRY of a governing ADVISE_SLEEP rule with the host RUNNING: ADVISED, and the compliance timer at stage 1. WAKE_TIMER_EXPIRY and PENDING_WAKE_SERVE with no sleep rule enabled: a host that does not answer goes back to the state before, and a wake that waited for the cut starts it. SLEEP_DWELL_EXPIRY of another rule: KEEP_AWAKE has no effect but to be taken, ADVISE_SLEEP none outside RUNNING; ADVISE_WAKE has none in RUNNING and WAKING, waits for a cut, wakes a host that sleeps, enters sleep or is off, and withdraws an advice (in RUN); a changed host state begins a new episode of the rule. Advice is withdrawn where an idle increment changes the governing rule to another than the advising one, or to none, and where a TABLE_WRITE SLEEP_RULE rewrites the advising rule; in ENTERING it stands (enabled rules with dwells above 0). -/
def Obligations.SleepAdviceAndWakeTimers : Prop :=
  (∀ (r i : Nat) (s : State), s.spu.dwell = some r → s.spu.governing = some i → s.spu.fired = false →
      governingRule (elapse r s) = some i → (s.spu.rules.getD i defaultRule).action = .adviseSleep →
      s.spu.host = .running → s.Calm → s.psc.power = .run →
      ∃ t, exec .sleepDwellExpiry s = .next t ∧ t.spu.host = .advised ∧ t.spu.advising = some i ∧
        t.spu.governing = some i ∧ t.spu.compliance = some (s.par.compliance * 1000) ∧ t.spu.stage = 1 ∧ s.SameConfig t ∧
        Only [.fbf, .spu, .psc, .ulp] (elapse r s) t) ∧
    (∀ (s : State), s.Unruled → s.Calm →
        (∀ r, s.spu.wakeTimer = some r → ∀ b, s.spu.before = some b → s.spu.host = .waking → s.psc.power = .run →
          ∃ t, exec .wakeTimerExpiry s = .next t ∧ t.spu.host = b ∧ t.spu.wakeReq = false ∧ t.spu.wakeTimer = none ∧
            t.spu.before = none ∧ t.spu.wakeSrc = none ∧
            (b = .entering → t.spu.compliance = some (s.par.compliance * 1000) ∧ t.spu.stage = 1) ∧ s.SameConfig t ∧
            t.sib = (elapse r s).sib) ∧
          (∀ src, s.spu.pendingWake = some src → s.spu.cutStage = .none → s.spu.host = .off →
            ∃ t, exec .pendingWakeServe s = .next t ∧ t.spu.host = .waking ∧ t.spu.wakeReq = true ∧
              t.spu.before = some .off ∧ t.spu.wakeSrc = some src ∧ t.spu.pendingWake = none ∧
              t.spu.wakeTimer = some (s.par.wakeTime * 1000) ∧ s.SameConfig t ∧ t.sib = s.sib) ∧
          (∀ src, s.spu.pendingWake = some src → s.spu.cutStage = .none → s.spu.host = .running →
            exec .pendingWakeServe s = .next { s with spu := { s.spu with pendingWake := none } })) ∧
    (∀ (r i : Nat) (s : State), s.spu.dwell = some r → s.spu.governing = some i → s.spu.fired = false →
        ((s.spu.rules.getD i defaultRule).action = .keepAwake → exec .sleepDwellExpiry s = .next (elapse r s).acted) ∧
          ((s.spu.rules.getD i defaultRule).action = .adviseSleep → s.spu.host ≠ .running →
            exec .sleepDwellExpiry s = .next (elapse r s).acted) ∧
          ((s.spu.rules.getD i defaultRule).action = .adviseWake →
            (s.spu.cutStage = .none → s.spu.host = .running ∨ s.spu.host = .waking →
              exec .sleepDwellExpiry s = .next (elapse r s).acted) ∧
              (s.spu.cutStage ≠ .none →
                exec .sleepDwellExpiry s =
                  .next { (elapse r s).acted with spu := { (elapse r s).acted.spu with pendingWake := some (.rule i) } }) ∧
              (s.spu.cutStage = .none → governingRule (elapse r s) = some i → s.Calm → s.psc.power = .run →
                (s.spu.host = .sleeping ∨ s.spu.host = .entering ∨ s.spu.host = .off →
                  ∃ t, exec .sleepDwellExpiry s = .next t ∧ t.spu.host = .waking ∧ t.spu.before = some s.spu.host ∧
                    t.spu.wakeSrc = some (.rule i) ∧ t.spu.wakeReq = true ∧ t.spu.wakeTimer = some (s.par.wakeTime * 1000) ∧
                    t.spu.compliance = none ∧ t.spu.advising = none ∧ t.spu.governing = some i ∧
                    (0 < (s.spu.rules.getD i defaultRule).dwell →
                      t.spu.fired = false ∧ t.spu.dwell = some (s.spu.rules.getD i defaultRule).dwell) ∧
                    s.SameConfig t ∧ Only [.fbf, .spu, .psc, .ulp] (elapse r s) t) ∧
                  (s.spu.host = .advised →
                    ∃ t, exec .sleepDwellExpiry s = .next t ∧ t.spu.host = .running ∧ t.spu.compliance = none ∧
                      t.spu.advising = none ∧ t.spu.governing = some i ∧
                      (0 < (s.spu.rules.getD i defaultRule).dwell →
                        t.spu.fired = false ∧ t.spu.dwell = some (s.spu.rules.getD i defaultRule).dwell) ∧
                      s.SameConfig t ∧ Only [.fbf, .spu, .psc, .ulp] (elapse r s) t)))) ∧
    (∀ (s : State), s.spu.host = .advised ∨ s.spu.host = .entering → s.igt.idle < 65535 → s.Calm → s.psc.power = .run →
        (∀ q ∈ s.spu.rules, q.enabled = true → 0 < q.dwell) →
        ∀ u, u = State.idleCounted s → ∀ g, g = governingRule u → g ≠ s.spu.governing →
          ∃ t, exec .idleTimerIncrement s = .next t ∧ t.spu.governing = g ∧
            t.spu.dwell = g.map (fun i => (s.spu.rules.getD i defaultRule).dwell) ∧ (g ≠ none → t.spu.fired = false) ∧
            (s.spu.host = .advised → s.spu.advising ≠ g →
              t.spu.host = .running ∧ t.spu.advising = none ∧ t.spu.compliance = none) ∧
            (s.spu.host = .entering ∨ s.spu.advising = g →
              t.spu.host = s.spu.host ∧ t.spu.advising = s.spu.advising ∧ t.spu.compliance = u.spu.compliance) ∧
            s.SameConfig t ∧ Only [.fbf, .spu, .psc, .ulp] u t) ∧
    (∀ (ct idx : Byte) (e : List Byte) (q : SleepRule) (s : State), s.Receptive → s.Permitted ct .sleep true → s.Calm →
        s.psc.power = .run → s.spu.host = .advised → s.spu.advising = some idx.toNat → s.spu.governing = some idx.toNat →
        e.length = 13 → sleepRuleOf e = some q → idx.toNat ≤ 15 →
        (∀ p ∈ s.spu.rules.set idx.toNat q, p.enabled = true → 0 < p.dwell) →
        ∃ t, exec (.tableWriteSleepRule ct idx e) s = .next t ∧ t.spu.rules = s.spu.rules.set idx.toNat q ∧
          t.spu.host = .running ∧ t.spu.advising = none ∧ t.spu.compliance = none ∧ t.par = s.par ∧
          Only [.fbf, .spu, .psc, .ulp] s t)

/-- COMPLIANCE_EXPIRY: the timer restarts at stage 2; at stage 2 under NOTIFY_THEN_CUT the cut sequence begins and the host state is OFF. -/
def Obligations.ComplianceRemindsThenCuts : Prop :=
  ∀ (r : Nat) (s : State), s.spu.compliance = some r → s.spu.host = .advised ∨ s.spu.host = .entering → s.Calm →
    (s.spu.stage ≠ 2 ∨ s.spu.forceMode = .notifyOnly →
      ∃ t, exec .complianceExpiry s = .next t ∧
        t.offLine =
          State.offLine
            { elapse r s with
              spu := { (elapse r s).spu with compliance := some (s.par.compliance * 1000), stage := 2 } }) ∧
      (s.spu.stage = 2 → s.spu.forceMode = .notifyThenCut →
        ∃ t, exec .complianceExpiry s = .next t ∧ t.spu.host = .off ∧ t.spu.cutStage ≠ .none ∧ t.spu.advising = none ∧
          t.spu.compliance = none ∧ t.spu.cutTimer.isSome = true ∧ s.SameConfig t ∧ t.sib = (elapse r s).sib)

/-! ### Power states -/

/-- DOZE_TIMER_EXPIRY: DOZE, with the ORU's dwell stopped and no standby timer while the host sleeps. STANDBY_TIMER_EXPIRY and DEFERRED_STANDBY_ENTRY: STANDBY when nothing defers it, no switch presents a wake condition, and the base is not released on the way while sleep rules stand, one of which could then wake the host; a deferring condition marks the entry deferred. -/
def Obligations.DozeAndStandbyAreEntered : Prop :=
  (∀ (r : Nat) (s : State), s.psc.power = .run → s.psc.doze = some r → s.spu.host = .sleeping → s.Calm →
      ∃ t, exec .dozeTimerExpiry s = .next t ∧ t.psc.power = .doze ∧ t.psc.doze = none ∧ t.psc.standby = none ∧
        t.oru = { (elapse r s).oru with dwell := none } ∧ t.spu = (elapse r s).spu ∧ s.SameConfig t ∧
        t.sib = (elapse r s).sib) ∧
    (∀ (r : Nat) (s : State), s.Calm → (∀ i, s.par.mode i ≠ 0) →
        (s.psc.standby = some r → deferring s = true →
          exec .standbyTimerExpiry s = .next { elapse r s with psc := { (elapse r s).psc with standby := none, deferred := true } }) ∧
          (s.psc.standby = some r → deferring s = false → s.Unruled ∨ s.par.dockLines = 0 →
            ∃ t, exec .standbyTimerExpiry s = .next t ∧
              t.psc = { (elapse r s).psc with power := .standby, standby := none, deferred := false, wakeCause := none, latched := [], uplinkSeen := false } ∧
              t.hau.sampleTimer = none ∧ t.oru.dwell = none ∧ t.pcl.dwell = none ∧ t.pcl.restart = none ∧
              t.pcc.measTimer = none ∧ t.sbu.tempTimer = none ∧ t.sbu.penSet = 0 ∧ t.ulp.rx = [] ∧ s.SameConfig t ∧
              t.sib = (elapse r s).sib) ∧
          (s.psc.power = .doze → s.psc.deferred = true → deferring s = false → standbyCondition s = true →
            s.Unruled ∨ s.par.dockLines = 0 →
            ∃ t, exec .deferredStandbyEntry s = .next t ∧
              t.psc = { s.psc with power := .standby, standby := none, deferred := false, wakeCause := none, latched := [], uplinkSeen := false } ∧
              t.hau.sampleTimer = none ∧ t.oru.dwell = none ∧ t.pcl.dwell = none ∧ t.sbu.penSet = 0 ∧ t.ulp.rx = [] ∧
              s.SameConfig t ∧ t.sib = s.sib))

/-- DOCK_ATTENTION and UPLINK_ACTIVITY end STANDBY where the wake mask enables them: SETTLE with the wake time and the wake cause. SETTLE_TIMER_EXPIRY: RUN, with the lid vector and the orientation record started anew, a closed lid forcing the hinge record, and fresh readings taken. That the first lid sample is due one whole sample period after the entry to RUN is the model's choice (log 27). -/
def Obligations.WakeEventsAndSettleTimer : Prop :=
  (∀ s : State, s.psc.power = .standby →
      (s.dlc.state = .active ∨ s.dlc.state = .quiesced →
        exec .dockAttention s =
          .next
            (if s.par.wakeMask.testBit 4 then
              { s with psc := { s.psc with power := .settle, wakeCause := some .dockAttention, settle := some s.par.wakeSettle } }
            else s)) ∧
        (s.dlc.state ≠ .active → s.dlc.state ≠ .quiesced → exec .dockAttention s = .next s) ∧
        (s.psc.uplinkSeen = false →
          exec .uplinkActivity s =
            .next
              (if s.par.wakeMask.testBit 5 then
                { s with psc := { s.psc with power := .settle, wakeCause := some .uplink, settle := some s.par.wakeSettle, uplinkSeen := true } }
              else { s with psc := { s.psc with uplinkSeen := true } })) ∧
        (s.psc.uplinkSeen = true → exec .uplinkActivity s = .next s)) ∧
    (∀ (w : WakeSense) (r : Nat) (s : State), s.psc.settle = some r → 0 < s.par.dozeDelay → s.ulp.queue = [] →
        ∃ t, exec (.settleTimerExpiry w) s = .next t ∧ t.psc.power = .run ∧ t.psc.settle = none ∧ t.psc.latched = [] ∧
          t.psc.wakeCause = s.psc.wakeCause ∧ t.hau.lid = none ∧ t.hau.sampleTimer = some (samplePeriod .run s.par.lidRate) ∧
          t.oru = { s.oru with committed := .unknown, candidate := none, dwell := none, flat := false, angle := none } ∧
          t.sbu.rail = (max 0 (min 6000 w.rail)).toNat ∧ t.sbu.temp = max (-40) (min 125 w.temp) ∧
          (s.sib.lid.asserted = true → t.hau.hinge = ⟨some 0, .hall, 0⟩) ∧ t.ulp.rx = [] ∧ s.SameConfig t ∧
          t.sib = (elapse r s).sib)

/-! ### Uplink events -/

/-- FRAME_TRANSMIT_END: the line is IDLE when nothing else waits, goes on with a waiting reply first, with the area that the alternation mark names when both wait, and otherwise with the oldest report that waits; the tag byte of an unsolicited frame is a free value (log 12). The end of a FORCE_CUT report while the cut waits asserts PWR_CUT; that any report of that kind counts is the model's reading (log 14). The reset that a PART_RESET reply carries falls due: it runs as a command of its own, and until then the arbiter chooses nothing, which is the model's choice (log 38). OVERFLOW_REPORT: the loss count goes into the Report area when its report fits there, and starts again at 0. -/
def Obligations.TransmitEndAndOverflowReport : Prop :=
  (∀ (f : UpFrame) (s : State), s.ulp.line = some f → s.ulp.preReset = none → f.kind ≠ .report →
      s.held = false → s.ulp.slot = none → s.ulp.resetDue = none →
      (∀ k, f.reset = some k →
        exec .frameTransmitEnd s = .next { s with ulp := { s.ulp with line := none, resetDue := some k } }) ∧
        (f.reset = none → s.fbf.report = [] → s.fbf.input = [] → s.fbf.mirror = [] →
          exec .frameTransmitEnd s = .next { s with ulp := { s.ulp with line := none } }) ∧
        (∀ m rest, s.fbf.report = m :: rest → f.reset = none → s.fbf.input = [] → s.ulp.lost = 0 →
          exec .frameTransmitEnd s =
            .next
              { s with
                fbf := { s.fbf with report := rest }
                ulp := { s.ulp with line := some ⟨.report, Config.unsolicitedChannelTag, m.payload, none⟩, alt := .input } })) ∧
    (∀ (f : UpFrame) (s : State), s.ulp.line = some f → s.ulp.preReset = none → f.reset = none → s.ulp.resetDue = none →
        (s.held = false → (f.kind = .report → isForceCut f.payload = false) →
          (∀ r, s.ulp.slot = some r → s.ulp.overruns = [] → s.ulp.queue = [] →
            exec .frameTransmitEnd s =
              .next { s with ulp := { s.ulp with line := some ⟨.reply, r.ct, r.payload, r.reset⟩, slot := none } }) ∧
            (s.ulp.slot = none → ∀ m rest, s.fbf.report = m :: rest → ∀ i waits, s.fbf.input = i :: waits →
              (s.ulp.alt = .report → s.ulp.lost = 0 →
                exec .frameTransmitEnd s =
                  .next
                    { s with
                      fbf := { s.fbf with report := rest }
                      ulp := { s.ulp with line := some ⟨.report, Config.unsolicitedChannelTag, m.payload, none⟩, alt := .input } }) ∧
                (s.ulp.alt = .input → s.igt.pend = [] → s.igt.head = .idle →
                  exec .frameTransmitEnd s =
                    .next
                      { s with
                        fbf := { s.fbf with input := waits }
                        ulp := { s.ulp with line := some ⟨.input, Config.unsolicitedChannelTag, i.payload, none⟩, alt := .report } }))) ∧
          (s.held = true → s.spu.cutStage = .wait → f.kind = .report → isForceCut f.payload = true →
            exec .frameTransmitEnd s =
              .next
                { s with
                  spu := { s.spu with cutStage := .pulse, pwrCut := true, cutTimer := some s.par.cutPulse }
                  ulp := { s.ulp with line := none } })) ∧
    (∀ s : State, s.ulp.lineFree = false →
        (0 < s.ulp.lost → 10 ≤ s.fbf.reportFree →
          exec .overflowReport s =
            .next
              { s with
                fbf := { s.fbf with report := s.fbf.report ++ [⟨.report, 21 :: (num4 s.ms.toNat ++ [byte s.ulp.lost])⟩] }
                ulp := { s.ulp with lost := 0 } }) ∧
          (s.ulp.lost = 0 ∨ s.fbf.reportFree < 10 → exec .overflowReport s = .next s))

/-! ### Commands of the host

`Receptive` says that the part is awake, the upstream hold is off and nothing waits at the Uplink; `Permitted` that the channel may use the command. `s.afterFrame` is the state with the frame counted and the unlock window closed, and `answered` puts the reply into the slot or on the free line. -/

/-- The tests 1 to 4 of a command, in their order: channel, code, length, access. In STANDBY and SETTLE the bytes of a command frame are lost, and a fifth waiting command is answered OVERRUN. -/
def Obligations.CommandFramesAreRefusedInOrder : Prop :=
  (∀ (ct : Byte) (p : List Byte) (s : State), s.Receptive → s.ulp.rx = [] → p.length ≤ 60 →
      (2 ≤ channelOf ct →
        exec (.commandFrameReceived (frameBytes ct p)) s = .next (s.afterFrame.answered ⟨ct, [p.headD 0, 2], none⟩)) ∧
        (channelOf ct < 2 → p = [] ∨ p.headD 0 = 0 ∨ 24 < (p.headD 0).toNat →
          exec (.commandFrameReceived (frameBytes ct p)) s = .next (s.afterFrame.answered ⟨ct, [p.headD 0, 8], none⟩)) ∧
        (channelOf ct < 2 → 1 ≤ (p.headD 0).toNat → (p.headD 0).toNat ≤ 24 → lengthOk p = false →
          exec (.commandFrameReceived (frameBytes ct p)) s = .next (s.afterFrame.answered ⟨ct, [p.headD 0, 7], none⟩)) ∧
        (channelOf ct < 2 → 1 ≤ (p.headD 0).toNat → (p.headD 0).toNat ≤ 24 → lengthOk p = true →
          accessAllows (if channelOf ct = 0 then s.ulp.platform else s.ulp.driver) (commandNeed p) = false →
          exec (.commandFrameReceived (frameBytes ct p)) s = .next (s.afterFrame.answered ⟨ct, [p.headD 0, 2], none⟩))) ∧
    (∀ (ct : Byte) (s : State),
        (s.awake = false → ∀ bs, exec (.commandFrameReceived bs) s = .next s) ∧
          (s.awake = true → s.held = false → s.ulp.queue.length = 4 → s.ulp.slot.isSome = true → s.ulp.overruns.length < 4 →
            exec (.echo ct) s =
              .next
                { s with
                  spu := s.spu.told s.ms
                  ulp := { s.ulp with overruns := s.ulp.overruns ++ [⟨ct, [1, 6], none⟩] } }))

/-- ECHO, TABLE_READ, CONFIG_GET, STATUS_READ and AREA_PEEK answer what they read and change nothing else but an open unlock window, which they close. That STATUS_READ shows the window closed already is the model's choice (log 55). -/
def Obligations.ReadsAnswerWithoutEffect : Prop :=
  ∀ (ct a b : Byte) (idx : BitVec 16) (s : State), s.Receptive →
    (channelOf ct < 2 →
      exec (.echo ct) s = .next (s.afterFrame.answered (replyTo ct 1 .ok [6, 0x6C, 0x02, Config.siliconRevision]))) ∧
      (s.Permitted ct .user false →
        exec (.statusRead ct a b) s =
          .next (s.afterFrame.answered (match statusRead a.toNat b.toNat s.afterFrame with | some fs => replyTo ct 7 .ok fs | none => replyTo ct 7 .range []))) ∧
      (s.Permitted ct .buffer false →
        exec (.areaPeek ct a idx b) s =
          .next (s.afterFrame.answered (match areaPeek a.toNat idx.toNat b.toNat s with | some fs => replyTo ct 21 .ok fs | none => replyTo ct 21 .range []))) ∧
      (∀ g, tableGroup a.toNat = some g → s.Permitted ct g false →
        exec (.tableRead ct a b) s =
          .next (s.afterFrame.answered (match readTable a.toNat b.toNat s with | some e => replyTo ct 3 .ok (a :: b :: e) | none => replyTo ct 3 .range []))) ∧
      (∀ g, paramGroup a.toNat = some g → s.Permitted ct g false →
        exec (.configGet ct a) s = .next (s.afterFrame.answered (replyTo ct 6 .ok (a :: num4 (s.par.get a.toNat)))))

/-- TABLE_WRITE GATE_DIR and GATE_ENTRY and HITS_CLEAR: the accepted entry is stored, an entry that contradicts itself or an index out of range is answered RANGE. -/
def Obligations.GateTablesAreWritten : Prop :=
  ∀ (ct idx n : Byte) (e : List Byte) (s : State), s.Receptive → s.Permitted ct .gate true →
    (e.length = 4 → ∀ d, gateDirOf e = some d → idx.toNat ≤ 15 →
      exec (.tableWriteGateDir ct idx e) s =
        .next (State.answered { s.afterFrame with igt := { s.igt with dir := s.igt.dir.set idx.toNat d } } (replyTo ct 2 .ok []))) ∧
      (e.length = 4 → gateDirOf e = none ∨ 15 < idx.toNat →
        exec (.tableWriteGateDir ct idx e) s = .next (s.afterFrame.answered (replyTo ct 2 .range []))) ∧
      (e.length = 6 → ∀ g, gateEntryOf e = some g → idx.toNat ≤ 127 →
        exec (.tableWriteGateEntry ct idx e) s =
          .next (State.answered { s.afterFrame with igt := { s.igt with entries := s.igt.entries.set idx.toNat g } } (replyTo ct 2 .ok []))) ∧
      (e.length = 6 → gateEntryOf e = none ∨ 127 < idx.toNat →
        exec (.tableWriteGateEntry ct idx e) s = .next (s.afterFrame.answered (replyTo ct 2 .range []))) ∧
      (idx.toNat ≤ 127 → 1 ≤ n.toNat → n.toNat ≤ 128 → idx.toNat + n.toNat ≤ 128 →
        exec (.hitsClear ct idx n) s =
          .next
            (State.answered
              { s.afterFrame with igt := { s.igt with entries := clearHits idx.toNat n.toNat s.igt.entries } }
              (replyTo ct 4 .ok []))) ∧
      (127 < idx.toNat ∨ n.toNat = 0 ∨ 128 < n.toNat ∨ 128 < idx.toNat + n.toNat →
        exec (.hitsClear ct idx n) s = .next (s.afterFrame.answered (replyTo ct 4 .range [])))

/-- TABLE_WRITE POSTURE: an accepted row is stored and evaluated at once, a contradictory one or an index above 15 is answered RANGE. TABLE_WRITE SLEEP_RULE and CHARGE_PROFILE: the accepted entry is stored; a refused one is answered RANGE, and a profile from the DRIVER channel DENIED. -/
def Obligations.PostureRuleAndProfileWrites : Prop :=
  (∀ (ct idx : Byte) (e : List Byte) (s : State), s.Receptive → s.Permitted ct .sensing true → e.length = 7 →
      (idx.toNat ≤ 15 → (PostureRow.ofBytes e).acceptable = true → 0 < s.par.postureDwell →
        exec (.tableWritePosture ct idx e) s =
          .next
            ((postureChoose
                { s.afterFrame with
                  pcl := { s.pcl with table := s.pcl.table.set idx.toNat (PostureRow.ofBytes e) } }).1.answered
              (replyTo ct 2 .ok []))) ∧
        (15 < idx.toNat ∨ (PostureRow.ofBytes e).acceptable = false →
          exec (.tableWritePosture ct idx e) s = .next (s.afterFrame.answered (replyTo ct 2 .range [])))) ∧
    (∀ (ct idx : Byte) (e : List Byte) (s : State), s.Receptive →
        (s.Permitted ct .sleep true → e.length = 13 →
          (∀ r, sleepRuleOf e = some r → idx.toNat ≤ 15 →
            ∃ t, exec (.tableWriteSleepRule ct idx e) s = .next t ∧ t.spu.rules = s.spu.rules.set idx.toNat r ∧ t.par = s.par ∧
              t.sib = s.sib ∧ t.ms = s.ms) ∧
          (sleepRuleOf e = none ∨ 15 < idx.toNat →
            exec (.tableWriteSleepRule ct idx e) s = .next (s.afterFrame.answered (replyTo ct 2 .range [])))) ∧
          (s.Permitted ct .charge true → e.length = 17 →
            (channelOf ct = 0 → idx = 0 → (Profile.ofBytes e).valid = true →
              ∃ t, exec (.tableWriteChargeProfile ct idx e) s = .next t ∧ t.pcc.profile = Profile.ofBytes e ∧
                t.par = s.par ∧ t.sib = s.sib ∧ t.ms = s.ms) ∧
            (channelOf ct = 0 → idx ≠ 0 ∨ (Profile.ofBytes e).valid = false →
              exec (.tableWriteChargeProfile ct idx e) s = .next (s.afterFrame.answered (replyTo ct 2 .range []))) ∧
            (channelOf ct = 1 →
              exec (.tableWriteChargeProfile ct idx e) s = .next (s.afterFrame.answered (replyTo ct 2 .denied [])))))

/-- CONFIG_SET stores the clamped value; one without an immediate effect changes nothing else and answers the stored value; a number that names no parameter is answered RANGE. REPORT_ENABLE stores the mask of 21 kinds and answers it with the three fixed enables shown as set. -/
def Obligations.ConfigSetAndReportEnableStore : Prop :=
  (∀ (ct num : Byte) (v : BitVec 32) (s : State), s.Receptive →
      (∀ g, paramGroup num.toNat = some g → s.Permitted ct g true →
        (∃ t, exec (.configSet ct num v) s = .next t ∧ t.par = s.par.set num.toNat (clampParam s num.toNat v.toInt) ∧
          t.ms = s.ms ∧ t.pcl.table = s.pcl.table ∧ t.spu.rules = s.spu.rules ∧ t.pcc.profile = s.pcc.profile) ∧
        ((num.toNat ≤ 4 ∨ 13 ≤ num.toNat ∧ num.toNat ≤ 19 ∨ 21 ≤ num.toNat ∧ num.toNat ≤ 30 ∨ 36 ≤ num.toNat) →
          exec (.configSet ct num v) s =
            .next
              (State.answered { s.afterFrame with par := s.par.set num.toNat (clampParam s num.toNat v.toInt) }
                (replyTo ct 5 (if (clampParam s num.toNat v.toInt : Int) = v.toInt then .ok else .adjusted)
                  (num :: num4 (clampParam s num.toNat v.toInt)))))) ∧
        (channelOf ct < 2 → num = 0 ∨ 46 < num.toNat →
          exec (.configSet ct num v) s = .next (s.afterFrame.answered (replyTo ct 5 .range [])))) ∧
    (∀ (ct : Byte) (m : BitVec 24) (s : State), s.Receptive → s.Permitted ct .user true →
        exec (.reportEnable ct m) s =
          .next
            (State.answered { s.afterFrame with ulp := { s.ulp with mask := m.setWidth 21 } }
              (replyTo ct 8 .ok (maskField (shownMask (m.setWidth 21))))))

/-- DOCK_STEP in the state of each step, with no step or walk in progress and the budget sufficient, and POWER with it insufficient. RELEASE in each of its states, also with a step in flight; its grant of 0 is stated for no step in flight, or no head procedure paused. That the base power goes on when the IDENTIFY step begins is the model's reading (log 25). -/
def Obligations.DockStepsBeginInTheirStates : Prop :=
  ∀ (ct : Byte) (s : State), s.Receptive → s.Permitted ct .dock true → s.psc.power = .run →
    (s.dlc.step = none → s.dlc.walk = none →
      (s.dlc.state = .present → 50 ≤ s.par.bTotal →
        ∃ t, exec (.dockStepIdentify ct) s = .next t ∧ t.dlc.state = .identifying ∧ t.dlc.step = some .identify ∧
          t.dlc.basePower = true ∧ t.dlc.walk = none ∧ t.sbu.requested = 50 ∧ s.SameConfig t ∧ t.sib = s.sib ∧ t.ms = s.ms) ∧
      (s.dlc.state = .identified → s.dlc.activeDemand ≤ s.par.bTotal →
        ∃ t, exec (.dockStepPower ct) s = .next t ∧ t.dlc.state = .powering ∧ t.dlc.step = some .power ∧
          t.dlc.base = s.dlc.base ∧ t.sbu.requested = s.dlc.activeDemand ∧ s.SameConfig t ∧ t.sib = s.sib ∧ t.ms = s.ms) ∧
      (s.dlc.state = .identified → s.par.bTotal < s.dlc.activeDemand →
        ∃ t, exec (.dockStepPower ct) s = .next t ∧ t.dlc.state = .faulted ∧ t.dlc.cause = some .budget ∧
          t.dlc.step = none ∧ t.dlc.basePower = false ∧ t.sbu.grant = 0 ∧ s.SameConfig t ∧ t.sib = s.sib) ∧
      (s.dlc.state = .active →
        exec (.dockStepQuiesce ct) s =
          .next
            (State.answered { s.afterFrame with dlc := { s.dlc with step := some .quiesce, quiesceSent := false } }
              (replyTo ct 9 .ok []))) ∧
      (s.dlc.state = .quiesced → s.dlc.activeDemand ≤ s.par.bTotal →
        ∃ t, exec (.dockStepWake ct) s = .next t ∧ t.dlc.state = .waking ∧ t.dlc.step = some .wake ∧
          t.dlc.base = s.dlc.base ∧ t.sbu.requested = s.dlc.activeDemand ∧ s.SameConfig t ∧ t.sib = s.sib ∧ t.ms = s.ms)) ∧
      (s.dlc.state.releasable = true →
        ∃ t, exec (.dockStepRelease ct) s = .next t ∧ t.dlc.state = .present ∧ t.dlc.base = none ∧ t.dlc.step = none ∧
          t.dlc.walk = none ∧ t.dlc.basePower = false ∧ t.dlc.cause = none ∧ t.fbf.passdown = [] ∧
          (s.dlc.step = none ∨ s.igt.head = .idle → t.sbu.requested = 0 ∧ t.sbu.grant = 0) ∧
          s.SameConfig t ∧ t.sib = s.sib ∧ t.ms = s.ms)

/-- DOCK_STEP and DOCK_AUTO in a state that does not accept them are answered STATE, while a step or walk is in progress BUSY, and a target of another code RANGE; none changes the dock. DOCK_AUTO: a walk to each target begins its first step from each state that has one, a target already reached is answered OK without effect. That the base power goes on when the IDENTIFY step of the walk begins is the model's reading (log 25). -/
def Obligations.DockAutoWalksAndRefusals : Prop :=
  (∀ (ct v : Byte) (s : State), s.Receptive → s.Permitted ct .dock true →
      (s.dlc.step ≠ none ∨ s.dlc.walk ≠ none →
        exec (.dockStepIdentify ct) s = .next (s.afterFrame.answered (replyTo ct 9 .busy [])) ∧
          exec (.dockStepPower ct) s = .next (s.afterFrame.answered (replyTo ct 9 .busy [])) ∧
          exec (.dockStepQuiesce ct) s = .next (s.afterFrame.answered (replyTo ct 9 .busy [])) ∧
          exec (.dockStepWake ct) s = .next (s.afterFrame.answered (replyTo ct 9 .busy [])) ∧
          (v.toNat ≤ 2 → exec (.dockAuto ct v) s = .next (s.afterFrame.answered (replyTo ct 10 .busy [])))) ∧
        (s.dlc.step = none → s.dlc.walk = none →
          (s.dlc.state ≠ .present → exec (.dockStepIdentify ct) s = .next (s.afterFrame.answered (replyTo ct 9 .state []))) ∧
          (s.dlc.state ≠ .identified → exec (.dockStepPower ct) s = .next (s.afterFrame.answered (replyTo ct 9 .state []))) ∧
          (s.dlc.state ≠ .active → exec (.dockStepQuiesce ct) s = .next (s.afterFrame.answered (replyTo ct 9 .state []))) ∧
          (s.dlc.state ≠ .quiesced → exec (.dockStepWake ct) s = .next (s.afterFrame.answered (replyTo ct 9 .state [])))) ∧
        (s.dlc.state.releasable = false →
          exec (.dockStepRelease ct) s = .next (s.afterFrame.answered (replyTo ct 9 .state []))) ∧
        (2 < v.toNat → exec (.dockAuto ct v) s = .next (s.afterFrame.answered (replyTo ct 10 .range [])))) ∧
    (∀ (ct : Byte) (s : State), s.Receptive → s.Permitted ct .dock true → s.dlc.step = none → s.dlc.walk = none →
        (s.dlc.state = .active →
          exec (.dockAuto ct 2) s =
            .next
              (State.answered
                { s.afterFrame with
                  dlc := { s.dlc with step := some .quiesce, quiesceSent := false, walk := some ⟨.quiesce, .host⟩ } }
                (replyTo ct 10 .ok []))) ∧
          (s.dlc.state = .active ∨ s.dlc.state = .covered →
            exec (.dockAuto ct 0) s = .next (s.afterFrame.answered (replyTo ct 10 .ok []))) ∧
          (s.dlc.state = .active → exec (.dockAuto ct 1) s = .next (s.afterFrame.answered (replyTo ct 10 .ok []))) ∧
          (s.dlc.state = .quiesced → exec (.dockAuto ct 2) s = .next (s.afterFrame.answered (replyTo ct 10 .ok []))) ∧
          (s.dlc.state = .present → s.psc.power = .run → 50 ≤ s.par.bTotal →
            ∃ t, exec (.dockAuto ct 0) s = .next t ∧ t.dlc.state = .identifying ∧ t.dlc.step = some .identify ∧
              t.dlc.walk = some ⟨.attach, .host⟩ ∧ t.dlc.basePower = true ∧ s.SameConfig t ∧ t.sib = s.sib ∧ t.ms = s.ms) ∧
          (s.dlc.state = .identified → s.psc.power = .run → s.dlc.activeDemand ≤ s.par.bTotal →
            ∃ t, exec (.dockAuto ct 0) s = .next t ∧ t.dlc.state = .powering ∧ t.dlc.step = some .power ∧
              t.dlc.walk = some ⟨.attach, .host⟩ ∧ t.dlc.base = s.dlc.base ∧ t.sbu.requested = s.dlc.activeDemand ∧
              s.SameConfig t ∧ t.sib = s.sib ∧ t.ms = s.ms) ∧
          (s.dlc.state = .quiesced → s.psc.power = .run → s.dlc.activeDemand ≤ s.par.bTotal →
            ∃ t, exec (.dockAuto ct 1) s = .next t ∧ t.dlc.state = .waking ∧ t.dlc.step = some .wake ∧
              t.dlc.walk = some ⟨.wake, .host⟩ ∧ t.dlc.base = s.dlc.base ∧ t.sbu.requested = s.dlc.activeDemand ∧
              s.SameConfig t ∧ t.sib = s.sib ∧ t.ms = s.ms) ∧
          (s.dlc.state ∉ [DockState.present, .identified, .active, .covered] →
            exec (.dockAuto ct 0) s = .next (s.afterFrame.answered (replyTo ct 10 .state []))) ∧
          (s.dlc.state ∉ [DockState.quiesced, .active] →
            exec (.dockAuto ct 1) s = .next (s.afterFrame.answered (replyTo ct 10 .state []))) ∧
          (s.dlc.state ∉ [DockState.active, .quiesced] →
            exec (.dockAuto ct 2) s = .next (s.afterFrame.answered (replyTo ct 10 .state []))))

/-- PASSDOWN: stored at the tail of its area in ACTIVE when it fits, BUSY when it does not, STATE in any other dock state. -/
def Obligations.PassdownIsStoredOrRefused : Prop :=
  ∀ (ct : Byte) (bs : List Byte) (s : State), s.Receptive → s.Permitted ct .dock true → 1 ≤ bs.length → bs.length ≤ 16 →
    (s.dlc.state = .active → bs.length + 4 ≤ s.fbf.passdownFree →
      exec (.passdown ct bs) s =
        .next
          (State.answered { s.afterFrame with fbf := { s.fbf with passdown := s.fbf.passdown ++ [⟨.passdown, bs⟩] } }
            (replyTo ct 11 .ok []))) ∧
      (s.dlc.state = .active → s.fbf.passdownFree < bs.length + 4 →
        exec (.passdown ct bs) s = .next (s.afterFrame.answered (replyTo ct 11 .busy []))) ∧
      (s.dlc.state ≠ .active → exec (.passdown ct bs) s = .next (s.afterFrame.answered (replyTo ct 11 .state [])))

/-- GATE_RESCAN with an empty Hold area re-arms the missing-directory note and ends the episode; a held press that the directory now passes enters the Input area (upstream line busy). GATE_FLUSH removes the undecided frames and keeps the decided ones in their order: a paused procedure stays paused; in IDLE a drain begins, by R106 also at a head where one had stopped (the model's reading, log 58), which pauses where the head does not fit or a release is pending, stops at a press or a touchpad report where the posture has no directory, and lets a lone decided frame that is admitted enter the Input area (upstream line busy). -/
def Obligations.GateRescanAndFlush : Prop :=
  ∀ (ct : Byte) (s : State), s.Receptive → s.Permitted ct .gate true → s.igt.proc = none →
    (s.fbf.hold = [] →
      exec (.gateRescan ct) s =
        .next
          (State.answered
            { s.afterFrame with
              igt := { s.igt with missing := false, displaced := false, expired := false, head := .idle } }
            (replyTo ct 12 .ok []))) ∧
      (∀ code stamp, s.fbf.hold = [⟨.press code, false, stamp⟩] → s.gateDir.present = true → s.gateDir.action = .pass →
        findEntry (.press code) s.igt.entries s.gateDir.first s.gateDir.count = none →
        s.igt.keys.contains code = false → s.igt.keys.length < 16 → s.igt.pend = [] → 6 ≤ s.fbf.inputFree →
        s.ulp.lineFree = false →
        exec (.gateRescan ct) s =
          .next
            (State.answered
              { s.afterFrame with
                fbf := { s.fbf with hold := [], input := s.fbf.input ++ [⟨.key, [byte code, 0]⟩] }
                igt :=
                  { s.igt with
                    keys := s.igt.keys ++ [code], missing := false, displaced := false, expired := false, head := .idle
                    idle := 0, idleLeft := 1000 } }
              (replyTo ct 12 .ok []))) ∧
      ((∀ f ∈ s.fbf.hold, f.decided = false) →
        exec (.gateFlush ct) s =
          .next
            (State.answered
              { s.afterFrame with
                fbf := { s.fbf with hold := [] }
                igt := { s.igt with displaced := false, expired := false, head := .idle } }
              (replyTo ct 13 .ok []))) ∧
      (∀ l, l = s.fbf.hold.filter HoldFrame.decided → l ≠ [] →
          (s.igt.head ≠ .idle →
            exec (.gateFlush ct) s = .next (State.answered (s.afterFrame.setHold l) (replyTo ct 13 .ok []))) ∧
            (s.igt.head = .idle → ∀ f rest, l = f :: rest →
              (s.igt.pend ≠ [] ∨ s.fbf.inputFree < f.size →
                exec (.gateFlush ct) s =
                  .next
                    (State.answered { s.afterFrame.setHold l with igt := { s.igt with head := .drainPaused } } (replyTo ct 13 .ok []))) ∧
                (s.igt.pend = [] → f.size ≤ s.fbf.inputFree →
                  (∀ c p, f.body ≠ .release c p) → s.gateDir.present = false →
                  exec (.gateFlush ct) s = .next (State.answered (s.afterFrame.setHold l) (replyTo ct 13 .ok []))) ∧
                (s.igt.pend = [] → f.size ≤ s.fbf.inputFree → rest = [] → s.ulp.lineFree = false →
                  ((∀ c p, f.body ≠ .release c p) → s.gateDir.present = true →
                    (∀ c, f.body = .press c → s.igt.keys.contains c = false ∧ s.igt.keys.length < 16) →
                    exec (.gateFlush ct) s =
                      .next
                        (State.answered
                          { (s.afterFrame.entered f.body).setHold [] with
                            igt := { (s.entered f.body).igt with displaced := false, expired := false } }
                          (replyTo ct 13 .ok []))) ∧
                    (∀ c p, f.body = .release c p → s.igt.keys.contains c = true →
                      exec (.gateFlush ct) s =
                        .next
                          (State.answered
                            { s.afterFrame with
                              fbf := { s.fbf with hold := [], input := s.fbf.input ++ [⟨.key, [byte c, 1]⟩] }
                              igt :=
                                { s.igt with
                                  keys := s.igt.keys.erase c, displaced := false, expired := false, idle := 0, idleLeft := 1000 } }
                            (replyTo ct 13 .ok []))))))

/-- ROTATION_LOCK: ON stops a running dwell; OFF commits a candidate that differs; another value is answered RANGE. -/
def Obligations.RotationLockHoldsAndCommits : Prop :=
  ∀ (ct v : Byte) (s : State), s.Receptive → s.Permitted ct .user true →
    (s.oru.lock = false →
      exec (.rotationLock ct 1) s =
        .next (State.answered { s.afterFrame with oru := { s.oru with lock := true, dwell := none } } (replyTo ct 14 .ok []))) ∧
      (s.oru.lock = true → exec (.rotationLock ct 1) s = .next (s.afterFrame.answered (replyTo ct 14 .ok []))) ∧
      (s.oru.lock = false → exec (.rotationLock ct 0) s = .next (s.afterFrame.answered (replyTo ct 14 .ok []))) ∧
      (∀ c, s.oru.candidate = some c → s.oru.lock = true → c ≠ s.oru.committed → s.psc.power = .run →
        ∃ t, exec (.rotationLock ct 0) s = .next t ∧ t.oru = { s.oru with committed := c, dwell := none, lock := false } ∧
          t.par = s.par ∧ Only [.oru, .pcl, .igt, .fbf, .spu, .psc, .ulp] s t) ∧
      (1 < v.toNat → exec (.rotationLock ct v) s = .next (s.afterFrame.answered (replyTo ct 14 .range [])))

/-- CHARGE_CONTROL START, by the phase. CHARGE_CONTROL STOP, by the phase. -/
def Obligations.ChargeControlByPhase : Prop :=
  (∀ (ct : Byte) (s : State), s.Receptive → s.Permitted ct .charge true →
      (s.pcc.phase = .none → exec (.chargeControlStart ct) s = .next (s.afterFrame.answered (replyTo ct 15 .state []))) ∧
        (s.pcc.phase = .idleDocked ∨ s.pcc.phase = .fault →
          ∃ t, exec (.chargeControlStart ct) s = .next t ∧ t.pcc.phase = .probe ∧ t.pcc.prev = s.pcc.phase ∧
            t.pcc.cause = none ∧ t.pcc.cycles = 0 ∧ t.pcc.vCell = none ∧ t.pcc.timer = 0 ∧ t.pcc.measTimer = some 100 ∧
            s.SameConfig t ∧ Only [.fbf, .igt, .sbu, .pcc, .spu, .psc, .dlc, .pcl, .oru, .hau, .ulp] s t) ∧
        (s.pcc.phase = .probe ∨ s.pcc.phase.charging = true ∨ s.pcc.phase = .done ∨ s.pcc.phase = .resting →
          exec (.chargeControlStart ct) s = .next (s.afterFrame.answered (replyTo ct 15 .busy [])))) ∧
    (∀ (ct : Byte) (s : State), s.Receptive → s.Permitted ct .charge true →
        (s.pcc.phase = .none → exec (.chargeControlStop ct) s = .next (s.afterFrame.answered (replyTo ct 15 .state []))) ∧
          (s.pcc.phase = .idleDocked → exec (.chargeControlStop ct) s = .next (s.afterFrame.answered (replyTo ct 15 .ok []))) ∧
          (s.pcc.phase.session = true →
            ∃ t, exec (.chargeControlStop ct) s = .next t ∧ t.pcc.phase = .idleDocked ∧ t.pcc.prev = s.pcc.phase ∧
              t.pcc.vCell = none ∧ t.pcc.iMeas = none ∧ t.pcc.cause = none ∧ t.pcc.cycles = 0 ∧ t.pcc.timer = 0 ∧
              t.pcc.measTimer = none ∧ t.pcc.penSet = 0 ∧ t.sbu.penSet = 0 ∧ s.SameConfig t ∧ t.sib = s.sib ∧ t.ms = s.ms))

/-- HOST_STATE executed at once, with no sleep rule enabled: from every host state the state that the value names (RUNNING is ignored in ADVISED), the compliance timer at ENTERING, which an advised host keeps, the doze timer at SLEEPING and OFF, which runs on between them, and the end of WAKING; RUN again from DOZE. A reply composed under the upstream hold is discarded. STATE without effect while a cut proceeds; RANGE without effect for another value, in a cut sequence too, which is the model's reading (log 46). -/
def Obligations.HostStateMovesTheHost : Prop :=
  (∀ (ct : Byte) (s : State), s.Prompt → s.Permitted ct .sleep true → s.Calm → s.Unruled → s.spu.cutStage = .none →
      (s.spu.host = .running ∨ s.spu.host = .advised →
        exec (.hostState ct 0) s = .next (s.afterFrame.replied (replyTo ct 16 .ok []))) ∧
        (s.spu.host = .entering → exec (.hostState ct 1) s = .next (s.afterFrame.replied (replyTo ct 16 .ok []))) ∧
        (s.spu.host = .sleeping → exec (.hostState ct 2) s = .next (s.afterFrame.replied (replyTo ct 16 .ok []))) ∧
        (s.spu.host = .off → exec (.hostState ct 3) s = .next (s.afterFrame.replied (replyTo ct 16 .ok []))) ∧
        (s.psc.power = .run →
          (s.spu.host ≠ .running → s.spu.host ≠ .advised →
            ∃ t, exec (.hostState ct 0) s = .next t ∧ t.spu.host = .running ∧ t.spu.compliance = none ∧
              t.spu.advising = none ∧ t.psc.doze = none ∧
              (s.spu.host = .waking → t.spu.wakeReq = false ∧ t.spu.wakeTimer = none ∧ t.spu.before = none ∧ t.spu.wakeSrc = none) ∧
              s.SameConfig t ∧ Only [.fbf, .spu, .psc, .ulp] s t) ∧
            (s.spu.host ≠ .entering →
              ∃ t, exec (.hostState ct 1) s = .next t ∧ t.spu.host = .entering ∧ t.psc.doze = none ∧
                (s.spu.host = .advised →
                  t.spu.compliance = s.spu.compliance ∧ t.spu.stage = s.spu.stage ∧ t.spu.advising = s.spu.advising) ∧
                (s.spu.host ≠ .advised → t.spu.compliance = some (s.par.compliance * 1000) ∧ t.spu.stage = 1) ∧
                (s.spu.host = .waking → t.spu.wakeReq = false ∧ t.spu.wakeTimer = none ∧ t.spu.before = none ∧ t.spu.wakeSrc = none) ∧
                s.SameConfig t ∧ Only [.fbf, .spu, .psc, .ulp] s t) ∧
            (s.spu.host ≠ .sleeping → 0 < s.par.dozeDelay →
              ∃ t, exec (.hostState ct 2) s = .next t ∧ t.spu.host = .sleeping ∧ t.spu.compliance = none ∧
                t.spu.advising = none ∧ t.ulp.slot = none ∧
                t.psc.doze = (if s.spu.host = .off then s.psc.doze else some (s.par.dozeDelay * 1000)) ∧
                (s.spu.host = .waking → t.spu.wakeReq = false ∧ t.spu.wakeTimer = none ∧ t.spu.before = none ∧ t.spu.wakeSrc = none) ∧
                s.SameConfig t ∧ Only [.fbf, .spu, .psc, .ulp] s t) ∧
            (s.spu.host ≠ .off → 0 < s.par.dozeDelay →
              ∃ t, exec (.hostState ct 3) s = .next t ∧ t.spu.host = .off ∧ t.spu.compliance = none ∧
                t.spu.advising = none ∧ t.ulp.slot = none ∧
                t.psc.doze = (if s.spu.host = .sleeping then s.psc.doze else some (s.par.dozeDelay * 1000)) ∧
                (s.spu.host = .waking → t.spu.wakeReq = false ∧ t.spu.wakeTimer = none ∧ t.spu.before = none ∧ t.spu.wakeSrc = none) ∧
                s.SameConfig t ∧ Only [.fbf, .spu, .psc, .ulp] s t)) ∧
        (s.psc.power = .doze → s.spu.host = .sleeping ∨ s.spu.host = .off → s.fbf.hold = [] →
          ∃ t, exec (.hostState ct 0) s = .next t ∧ t.spu.host = .running ∧ t.psc.power = .run ∧ t.psc.standby = none ∧
            t.psc.deferred = false ∧ s.SameConfig t ∧ t.sib = s.sib ∧ t.ms = s.ms)) ∧
    (∀ (ct v : Byte) (s : State), s.Prompt → s.Permitted ct .sleep true →
        (s.spu.cutStage ≠ .none → v.toNat ≤ 3 →
          exec (.hostState ct v) s = .next (s.afterFrame.replied (replyTo ct 16 .state []))) ∧
          (3 < v.toNat → exec (.hostState ct v) s = .next (s.afterFrame.replied (replyTo ct 16 .range []))))

/-- POLICY_UNLOCK opens the window on the PLATFORM channel only. FORCE_MODE NOTIFY_ONLY is taken only from the PLATFORM channel through a window that the frame right before has opened less than 100 ms ago, and is answered DENIED otherwise; either value closes the window. That a frame 100 ms after the POLICY_UNLOCK finds the window closed is the model's choice (log 31), and that another value of FORCE_MODE leaves it open is its reading (log 45). A reply composed under the upstream hold is discarded. -/
def Obligations.NotifyOnlyNeedsTheUnlockWindow : Prop :=
  ∀ (ct v : Byte) (s : State), s.Prompt → s.Permitted ct .sleep true →
    (channelOf ct = 0 →
      exec (.policyUnlock ct) s =
        .next
          (State.replied { s.afterFrame with spu := { s.afterFrame.spu with unlock := some ⟨s.spu.rxSeq + 1, s.ms⟩ } }
            (replyTo ct 17 .ok []))) ∧
      (channelOf ct = 1 → exec (.policyUnlock ct) s = .next (s.afterFrame.replied (replyTo ct 17 .denied []))) ∧
      exec (.forceMode ct 0) s =
        .next
          (State.replied { s.afterFrame with spu := { s.afterFrame.spu with forceMode := .notifyThenCut } }
            (replyTo ct 18 .ok [])) ∧
      (∀ u, s.spu.unlock = some u → channelOf ct = 0 → u.seq = s.spu.rxSeq → since s.ms u.time < 100 →
        exec (.forceMode ct 1) s =
          .next
            (State.replied { s.afterFrame with spu := { s.afterFrame.spu with forceMode := .notifyOnly } }
              (replyTo ct 18 .ok []))) ∧
      (s.spu.unlock = none ∨ channelOf ct = 1 →
        exec (.forceMode ct 1) s = .next (s.afterFrame.replied (replyTo ct 18 .denied []))) ∧
      (∀ u, s.spu.unlock = some u → u.seq ≠ s.spu.rxSeq ∨ 100 ≤ since s.ms u.time →
        exec (.forceMode ct 1) s = .next (s.afterFrame.replied (replyTo ct 18 .denied []))) ∧
      (1 < v.toNat →
        exec (.forceMode ct v) s =
          .next (State.replied { s with spu := s.spu.told s.ms } (replyTo ct 18 .range [])))

/-- AREA_MAP: a valid map is stored as adjusted, and the Hold and Passdown areas are emptied if it changes them (no paused head procedure that could resume over held frames); an invalid one is answered RANGE, one while the map is locked or the Input area holds frames STATE. AREA_CLEAR: the Passdown and Mirror areas are emptied, the Input area keeps its key releases, the Report area's frames are not counted as lost (upstream line busy), the Hold area loses every frame but its unpaired decided releases, which drain once the discard is done, the model's reading of an order that R106 leaves open (log 58); another code is answered RANGE. The status of an AREA_MAP that is adjusted, and the Report and Mirror areas after one, are not stated here. -/
def Obligations.AreaMapAndAreaClear : Prop :=
  (∀ (ct : Byte) (ws : List (BitVec 16)) (s : State), s.Receptive → s.Permitted ct .buffer true → ws.length = 10 →
      ((adjustMap (mapOfWords (ws.map BitVec.toNat))).valid = false →
        exec (.areaMap ct ws) s = .next (s.afterFrame.answered (replyTo ct 19 .range []))) ∧
        ((adjustMap (mapOfWords (ws.map BitVec.toNat))).valid = true → s.dlc.state.mapLocked = true ∨ s.fbf.input ≠ [] →
          exec (.areaMap ct ws) s = .next (s.afterFrame.answered (replyTo ct 19 .state []))) ∧
        ((adjustMap (mapOfWords (ws.map BitVec.toNat))).valid = true → s.dlc.state.mapLocked = false → s.fbf.input = [] →
          s.igt.proc = none → s.igt.head = .idle ∨ s.fbf.hold = [] →
          ∃ t, exec (.areaMap ct ws) s = .next t ∧ t.fbf.map = adjustMap (mapOfWords (ws.map BitVec.toNat)) ∧
            (t.fbf.map.hold ≠ s.fbf.map.hold → t.fbf.hold = []) ∧
            (t.fbf.map.passdown ≠ s.fbf.map.passdown → t.fbf.passdown = []) ∧
            (t.fbf.map.passdown = s.fbf.map.passdown → t.fbf.passdown = s.fbf.passdown) ∧ t.par = s.par ∧ t.sib = s.sib ∧
            t.ms = s.ms ∧ t.dlc = s.dlc)) ∧
    (∀ (ct v : Byte) (s : State), s.Receptive → s.Permitted ct .buffer true → s.Calm → s.ulp.lost = 0 → s.ulp.lineFree = false →
        exec (.areaClear ct 3) s =
            .next (State.answered { s.afterFrame with fbf := { s.fbf with passdown := [] } } (replyTo ct 20 .ok [])) ∧
          exec (.areaClear ct 4) s =
            .next (State.answered { s.afterFrame with fbf := { s.fbf with mirror := [] } } (replyTo ct 20 .ok [])) ∧
          exec (.areaClear ct 0) s =
            .next
              (State.answered { s.afterFrame with fbf := { s.fbf with input := s.fbf.input.filter Stored.isRelease } }
                (replyTo ct 20 .ok [])) ∧
          exec (.areaClear ct 2) s =
            .next (State.answered { s.afterFrame with fbf := { s.fbf with report := [] } } (replyTo ct 20 .ok [])) ∧
          ((∀ f ∈ s.fbf.hold, (f.loneRelease && f.decided) = false) →
            exec (.areaClear ct 1) s =
              .next
                (State.answered
                  { s.afterFrame with
                    fbf := { s.fbf with hold := [] }
                    igt := { s.igt with displaced := false, expired := false } }
                  (replyTo ct 20 .ok []))) ∧
          (∀ f c stamp, s.fbf.hold = [f, ⟨.release c false, true, stamp⟩] → (f.loneRelease && f.decided) = false →
            (6 ≤ s.fbf.inputFree → s.igt.keys.contains c = true →
              exec (.areaClear ct 1) s =
                .next
                  (State.answered
                    { s.afterFrame with
                      fbf := { s.fbf with hold := [], input := s.fbf.input ++ [⟨.key, [byte c, 1]⟩] }
                      igt :=
                        { s.igt with
                          displaced := false, expired := false, keys := s.igt.keys.erase c, idle := 0, idleLeft := 1000 } }
                    (replyTo ct 20 .ok []))) ∧
              (s.fbf.inputFree < 6 →
                exec (.areaClear ct 1) s =
                  .next
                    (State.answered
                      { s.afterFrame with
                        fbf := { s.fbf with hold := [⟨.release c false, true, stamp⟩] }
                        igt := { s.igt with head := .drainPaused } }
                      (replyTo ct 20 .ok [])))) ∧
          (4 < v.toNat → exec (.areaClear ct v) s = .next (s.afterFrame.answered (replyTo ct 20 .range []))))

/-- ACCESS_SET and ACCESS_FREEZE: WRITE for a group of DRIVER and NONE for a group of PLATFORM are stored from the PLATFORM channel until the freeze (the other words are not stated here); PLATFORM's own SYSTEM word, and a channel, group or word that is not one, are answered RANGE; after the freeze, and from the DRIVER channel, DENIED. PART_RESET: the reply OK carries the reset that begins when it has gone; another value is answered RANGE. -/
def Obligations.AccessWordsAndPartReset : Prop :=
  (∀ (ct c g w : Byte) (s : State), s.Receptive → s.Permitted ct .system true →
      (channelOf ct = 1 ∨ s.ulp.freeze = true →
        exec (.accessSet ct c g w) s = .next (s.afterFrame.answered (replyTo ct 22 .denied []))) ∧
        (channelOf ct = 0 → s.ulp.freeze = false → 1 < c.toNat ∨ 9 < g.toNat ∨ 2 < w.toNat ∨ c = 0 ∧ g = 9 →
          exec (.accessSet ct c g w) s = .next (s.afterFrame.answered (replyTo ct 22 .range []))) ∧
        (channelOf ct = 0 → s.ulp.freeze = false → c = 1 → g.toNat ≤ 9 → w = 2 →
          exec (.accessSet ct c g w) s =
            .next (State.answered { s.afterFrame with ulp := { s.ulp with driver := s.ulp.driver.set g.toNat .write } } (replyTo ct 22 .ok []))) ∧
        (channelOf ct = 0 → s.ulp.freeze = false → c = 0 → g.toNat ≤ 8 → w = 0 →
          exec (.accessSet ct c g w) s =
            .next (State.answered { s.afterFrame with ulp := { s.ulp with platform := s.ulp.platform.set g.toNat .none } } (replyTo ct 22 .ok []))) ∧
        exec (.accessFreeze ct) s =
          .next (State.answered { s.afterFrame with ulp := { s.ulp with freeze := true } } (replyTo ct 23 .ok []))) ∧
    (∀ (ct v : Byte) (s : State), s.Receptive → s.Permitted ct .system true → s.ulp.rx = [] →
        exec (.partResetSoft ct) s = .next (s.afterFrame.answered ⟨ct, [24, 0], some .soft⟩) ∧
          exec (.partResetFull ct) s = .next (s.afterFrame.answered ⟨ct, [24, 0], some .full⟩) ∧
          (1 < v.toNat →
            exec (.commandFrameReceived (frameBytes ct [24, v])) s = .next (s.afterFrame.answered (replyTo ct 24 .range []))))
end

