-- ==== Sys2Proof/Laws/Cascade.lean ====
section
/-! SUPPORT. The cascade of a command, and what is true of the state in which it ends. -/

namespace Sys2Proof.Machine

@[simp] theorem cascade_nil (n : Nat) (s : State) : cascade n [] s = s := by cases n <;> rfl

/-- Everything but what the beginning of the upstream hold sets free runs before what stands behind it. -/
@[simp] theorem schedule_of_ne {g : Signal} (h : g ≠ .holdBegin) (new rest : List Signal) :
    schedule g new rest = new ++ rest := by
  unfold schedule
  split
  · exact absurd rfl h
  · rfl

@[simp] theorem schedule_holdBegin (new rest : List Signal) : schedule .holdBegin new rest = rest ++ new := rfl

/-- No handover is lost or added. -/
theorem mem_schedule {g g' : Signal} {new rest : List Signal} :
    g' ∈ schedule g new rest ↔ g' ∈ new ∨ g' ∈ rest := by
  by_cases h : g = .holdBegin
  · subst h; simp [or_comm]
  · simp [h]

theorem cascade_cons (n : Nat) (g : Signal) (l : List Signal) (s : State) :
    cascade (n + 1) (g :: l) s = cascade n (schedule g (handle g s).2 l) (handle g s).1 := rfl

/-- One handover of a command runs, with the count as a numeral. -/
theorem cascade_pos {n : Nat} (hn : 0 < n) (g : Signal) (l : List Signal) (s : State) :
    cascade n (g :: l) s = cascade (n - 1) (schedule g (handle g s).2 l) (handle g s).1 := by
  cases n with
  | zero => exact absurd hn (Nat.lt_irrefl 0)
  | succ n => rfl

/-- What every handover of a class keeps, and hands on only the class, a whole cascade of the class keeps. -/
theorem cascade_keeps (G : Signal → Prop) (P : State → Prop)
    (h : ∀ g s, G g → P s → P (handle g s).1 ∧ ∀ g' ∈ (handle g s).2, G g') :
    ∀ n l s, (∀ g ∈ l, G g) → P s → P (cascade n l s) := by
  intro n
  induction n with
  | zero => intro l s _ hs; exact hs
  | succ n ih =>
    intro l s hl hs
    cases l with
    | nil => simpa using hs
    | cons g rest =>
      obtain ⟨hp, hg⟩ := h g s (hl g (by simp)) hs
      refine ih _ _ (fun g' hg' => ?_) hp
      rcases mem_schedule.mp hg' with h' | h'
      · exact hg g' h'
      · exact hl g' (List.mem_cons_of_mem _ h')

/-- What every handover keeps, a whole cascade keeps. -/
theorem cascade_inv (P : State → Prop) (h : ∀ g s, P s → P (handle g s).1) (n : Nat) (l : List Signal) (s : State)
    (hs : P s) : P (cascade n l s) :=
  cascade_keeps (fun _ => True) P (fun g s _ hp => ⟨h g s hp, fun _ _ => trivial⟩) n l s (fun _ _ => trivial) hs

/-- What a block's own effect sets up and every handover keeps stands when the command ends. -/
theorem settle_keeps (G : Signal → Prop) (P : State → Prop)
    (h : ∀ g s, G g → P s → P (handle g s).1 ∧ ∀ g' ∈ (handle g s).2, G g') (a : Act) (hl : ∀ g ∈ a.2, G g)
    (ha : P a.1) : P (settle a) :=
  cascade_keeps G P h _ _ _ hl ha

theorem settle_inv (P : State → Prop) (h : ∀ g s, P s → P (handle g s).1) (a : Act) (ha : P a.1) : P (settle a) :=
  cascade_inv P h _ _ _ ha

@[simp] theorem settle_quiet (s : State) : settle (s, []) = s := cascade_nil _ s

theorem finish_eq (a : Act) : finish a = .next (settle a) := rfl

/-- A command that is the expiry of a stopped timer leaves the state as it is. -/
@[simp] theorem onExpiry_none (f : State → Act) (s : State) : onExpiry none f s = (s, []) := rfl

/-- The expiry of a running timer: its remaining time passes, then it acts. -/
@[simp] theorem onExpiry_some (r : Nat) (f : State → Act) (s : State) : onExpiry (some r) f s = f (elapse r s) := rfl

end Sys2Proof.Machine
end

