-- ==== Sys2Proof/Laws/Only.lean ====
section
/-! SUPPORT. Laws of the relation `Only`, by which the frame of each operation is said once. -/

namespace Sys2Proof.Machine

theorem Only.refl (T : List Block) (s : State) : Only T s s := rfl

theorem Only.trans {T : List Block} {s t u : State} (h : Only T s t) (k : Only T t u) : Only T s u := Eq.trans k h

/-- The fields in the larger list hide those in the smaller. -/
theorem blank_blank (T U : List Block) (h : T.all U.contains = true) (s : State) : (s.blank T).blank U = s.blank U := by
  have key : ∀ b, T.contains b = true → U.contains b = true := by
    intro b hb
    rw [List.all_eq_true] at h
    exact h b (List.contains_iff_mem.mp hb)
  simp only [State.blank]
  congr 1 <;> (split <;> first | rfl | (split <;> first | rfl | (rename_i h1 h2; exact absurd (key _ h2) h1)))

theorem Only.mono {T U : List Block} {s t : State} (h : Only T s t) (k : T.all U.contains = true) : Only U s t := by
  have := congrArg (State.blank U) h
  rwa [blank_blank T U k, blank_blank T U k] at this

theorem Only.sib {T : List Block} {s t : State} (h : Only T s t) (k : T.contains .sib = false) : t.sib = s.sib := by
  simpa only [State.blank, k, Bool.false_eq_true, if_false] using congrArg State.sib h

theorem Only.hau {T : List Block} {s t : State} (h : Only T s t) (k : T.contains .hau = false) : t.hau = s.hau := by
  simpa only [State.blank, k, Bool.false_eq_true, if_false] using congrArg State.hau h

theorem Only.oru {T : List Block} {s t : State} (h : Only T s t) (k : T.contains .oru = false) : t.oru = s.oru := by
  simpa only [State.blank, k, Bool.false_eq_true, if_false] using congrArg State.oru h

theorem Only.pcl {T : List Block} {s t : State} (h : Only T s t) (k : T.contains .pcl = false) : t.pcl = s.pcl := by
  simpa only [State.blank, k, Bool.false_eq_true, if_false] using congrArg State.pcl h

theorem Only.dlc {T : List Block} {s t : State} (h : Only T s t) (k : T.contains .dlc = false) : t.dlc = s.dlc := by
  simpa only [State.blank, k, Bool.false_eq_true, if_false] using congrArg State.dlc h

theorem Only.igt {T : List Block} {s t : State} (h : Only T s t) (k : T.contains .igt = false) : t.igt = s.igt := by
  simpa only [State.blank, k, Bool.false_eq_true, if_false] using congrArg State.igt h

theorem Only.fbf {T : List Block} {s t : State} (h : Only T s t) (k : T.contains .fbf = false) : t.fbf = s.fbf := by
  simpa only [State.blank, k, Bool.false_eq_true, if_false] using congrArg State.fbf h

theorem Only.sbu {T : List Block} {s t : State} (h : Only T s t) (k : T.contains .sbu = false) : t.sbu = s.sbu := by
  simpa only [State.blank, k, Bool.false_eq_true, if_false] using congrArg State.sbu h

theorem Only.pcc {T : List Block} {s t : State} (h : Only T s t) (k : T.contains .pcc = false) : t.pcc = s.pcc := by
  simpa only [State.blank, k, Bool.false_eq_true, if_false] using congrArg State.pcc h

theorem Only.spu {T : List Block} {s t : State} (h : Only T s t) (k : T.contains .spu = false) : t.spu = s.spu := by
  simpa only [State.blank, k, Bool.false_eq_true, if_false] using congrArg State.spu h

theorem Only.psc {T : List Block} {s t : State} (h : Only T s t) (k : T.contains .psc = false) : t.psc = s.psc := by
  simpa only [State.blank, k, Bool.false_eq_true, if_false] using congrArg State.psc h

theorem Only.ulp {T : List Block} {s t : State} (h : Only T s t) (k : T.contains .ulp = false) : t.ulp = s.ulp := by
  simpa only [State.blank, k, Bool.false_eq_true, if_false] using congrArg State.ulp h

theorem Only.par {T : List Block} {s t : State} (h : Only T s t) (k : T.contains .par = false) : t.par = s.par := by
  simpa only [State.blank, k, Bool.false_eq_true, if_false] using congrArg State.par h

theorem Only.ms {T : List Block} {s t : State} (h : Only T s t) (k : T.contains .ms = false) : t.ms = s.ms := by
  simpa only [State.blank, k, Bool.false_eq_true, if_false] using congrArg State.ms h

theorem Only.pending {T : List Block} {s t : State} (h : Only T s t) (k : T.contains .pending = false) : t.pending = s.pending := by
  simpa only [State.blank, k, Bool.false_eq_true, if_false] using congrArg State.pending h

end Sys2Proof.Machine
end

