-- ==== Sys2Proof/Laws/State.lean ====
section
/-! SUPPORT. What each update of the state leaves in each block's record: the field lemmas of the named updates, and of the two ways to build an `Act`. -/

namespace Sys2Proof.Machine

@[simp] theorem quiet_fst (s : State) : (quiet s).1 = s := rfl
@[simp] theorem quiet_snd (s : State) : (quiet s).2 = [] := rfl
@[simp] theorem emit_fst (l : List Signal) (s : State) : (emit l s).1 = s := rfl
@[simp] theorem emit_snd (l : List Signal) (s : State) : (emit l s).2 = l := rfl
@[simp] theorem andThen_fst (a : Act) (f : State → Act) : (a.andThen f).1 = (f a.1).1 := rfl
@[simp] theorem andThen_snd (a : Act) (f : State → Act) : (a.andThen f).2 = a.2 ++ (f a.1).2 := rfl

/-! ### The passing of time -/

@[simp] theorem elapse_sib (d : Nat) (s : State) : (elapse d s).sib = s.sib.pass d := rfl
@[simp] theorem elapse_hau (d : Nat) (s : State) : (elapse d s).hau = s.hau.pass d := rfl
@[simp] theorem elapse_oru (d : Nat) (s : State) : (elapse d s).oru = s.oru.pass d := rfl
@[simp] theorem elapse_pcl (d : Nat) (s : State) : (elapse d s).pcl = s.pcl.pass d := rfl
@[simp] theorem elapse_dlc (d : Nat) (s : State) : (elapse d s).dlc = s.dlc.pass d := rfl
@[simp] theorem elapse_igt (d : Nat) (s : State) : (elapse d s).igt = s.igt.pass d := rfl
@[simp] theorem elapse_fbf (d : Nat) (s : State) : (elapse d s).fbf = s.fbf := rfl
@[simp] theorem elapse_sbu (d : Nat) (s : State) : (elapse d s).sbu = s.sbu.pass d := rfl
@[simp] theorem elapse_pcc (d : Nat) (s : State) : (elapse d s).pcc = s.pcc.pass d := rfl
@[simp] theorem elapse_spu (d : Nat) (s : State) : (elapse d s).spu = s.spu.pass d := rfl
@[simp] theorem elapse_psc (d : Nat) (s : State) : (elapse d s).psc = s.psc.pass d := rfl
@[simp] theorem elapse_ulp (d : Nat) (s : State) : (elapse d s).ulp = s.ulp := rfl
@[simp] theorem elapse_par (d : Nat) (s : State) : (elapse d s).par = s.par := rfl
@[simp] theorem elapse_ms (d : Nat) (s : State) : (elapse d s).ms = s.ms + BitVec.ofNat 32 d := rfl
@[simp] theorem elapse_pending (d : Nat) (s : State) : (elapse d s).pending = s.pending := rfl

/-! ### A frame stored in the Input area -/

@[simp] theorem putInput_sib (s : State) (f : Stored) : (s.putInput f).sib = s.sib := rfl
@[simp] theorem putInput_hau (s : State) (f : Stored) : (s.putInput f).hau = s.hau := rfl
@[simp] theorem putInput_oru (s : State) (f : Stored) : (s.putInput f).oru = s.oru := rfl
@[simp] theorem putInput_pcl (s : State) (f : Stored) : (s.putInput f).pcl = s.pcl := rfl
@[simp] theorem putInput_dlc (s : State) (f : Stored) : (s.putInput f).dlc = s.dlc := rfl
@[simp] theorem putInput_igt (s : State) (f : Stored) : (s.putInput f).igt = s.igt := rfl
@[simp] theorem putInput_fbf (s : State) (f : Stored) : (s.putInput f).fbf = { s.fbf with input := s.fbf.input ++ [f] } := rfl
@[simp] theorem putInput_sbu (s : State) (f : Stored) : (s.putInput f).sbu = s.sbu := rfl
@[simp] theorem putInput_pcc (s : State) (f : Stored) : (s.putInput f).pcc = s.pcc := rfl
@[simp] theorem putInput_spu (s : State) (f : Stored) : (s.putInput f).spu = s.spu := rfl
@[simp] theorem putInput_psc (s : State) (f : Stored) : (s.putInput f).psc = s.psc := rfl
@[simp] theorem putInput_ulp (s : State) (f : Stored) : (s.putInput f).ulp = s.ulp := rfl
@[simp] theorem putInput_par (s : State) (f : Stored) : (s.putInput f).par = s.par := rfl
@[simp] theorem putInput_ms (s : State) (f : Stored) : (s.putInput f).ms = s.ms := rfl
@[simp] theorem putInput_pending (s : State) (f : Stored) : (s.putInput f).pending = s.pending := rfl

/-! ### The idle timer set to 0 -/

@[simp] theorem clearIdle_sib (s : State) : (s.clearIdle).sib = s.sib := rfl
@[simp] theorem clearIdle_hau (s : State) : (s.clearIdle).hau = s.hau := rfl
@[simp] theorem clearIdle_oru (s : State) : (s.clearIdle).oru = s.oru := rfl
@[simp] theorem clearIdle_pcl (s : State) : (s.clearIdle).pcl = s.pcl := rfl
@[simp] theorem clearIdle_dlc (s : State) : (s.clearIdle).dlc = s.dlc := rfl
@[simp] theorem clearIdle_igt (s : State) : (s.clearIdle).igt = { s.igt with idle := 0, idleLeft := 1000 } := rfl
@[simp] theorem clearIdle_fbf (s : State) : (s.clearIdle).fbf = s.fbf := rfl
@[simp] theorem clearIdle_sbu (s : State) : (s.clearIdle).sbu = s.sbu := rfl
@[simp] theorem clearIdle_pcc (s : State) : (s.clearIdle).pcc = s.pcc := rfl
@[simp] theorem clearIdle_spu (s : State) : (s.clearIdle).spu = s.spu := rfl
@[simp] theorem clearIdle_psc (s : State) : (s.clearIdle).psc = s.psc := rfl
@[simp] theorem clearIdle_ulp (s : State) : (s.clearIdle).ulp = s.ulp := rfl
@[simp] theorem clearIdle_par (s : State) : (s.clearIdle).par = s.par := rfl
@[simp] theorem clearIdle_ms (s : State) : (s.clearIdle).ms = s.ms := rfl
@[simp] theorem clearIdle_pending (s : State) : (s.clearIdle).pending = s.pending := rfl

/-! ### The Hold area replaced -/

@[simp] theorem setHold_sib (s : State) (l : List HoldFrame) : (s.setHold l).sib = s.sib := rfl
@[simp] theorem setHold_hau (s : State) (l : List HoldFrame) : (s.setHold l).hau = s.hau := rfl
@[simp] theorem setHold_oru (s : State) (l : List HoldFrame) : (s.setHold l).oru = s.oru := rfl
@[simp] theorem setHold_pcl (s : State) (l : List HoldFrame) : (s.setHold l).pcl = s.pcl := rfl
@[simp] theorem setHold_dlc (s : State) (l : List HoldFrame) : (s.setHold l).dlc = s.dlc := rfl
@[simp] theorem setHold_igt (s : State) (l : List HoldFrame) : (s.setHold l).igt = s.igt := rfl
@[simp] theorem setHold_fbf (s : State) (l : List HoldFrame) : (s.setHold l).fbf = { s.fbf with hold := l } := rfl
@[simp] theorem setHold_sbu (s : State) (l : List HoldFrame) : (s.setHold l).sbu = s.sbu := rfl
@[simp] theorem setHold_pcc (s : State) (l : List HoldFrame) : (s.setHold l).pcc = s.pcc := rfl
@[simp] theorem setHold_spu (s : State) (l : List HoldFrame) : (s.setHold l).spu = s.spu := rfl
@[simp] theorem setHold_psc (s : State) (l : List HoldFrame) : (s.setHold l).psc = s.psc := rfl
@[simp] theorem setHold_ulp (s : State) (l : List HoldFrame) : (s.setHold l).ulp = s.ulp := rfl
@[simp] theorem setHold_par (s : State) (l : List HoldFrame) : (s.setHold l).par = s.par := rfl
@[simp] theorem setHold_ms (s : State) (l : List HoldFrame) : (s.setHold l).ms = s.ms := rfl
@[simp] theorem setHold_pending (s : State) (l : List HoldFrame) : (s.setHold l).pending = s.pending := rfl

/-! ### A frame taken for the line -/

@[simp] theorem send_sib (s : State) (f : UpFrame) : (s.send f).sib = s.sib := rfl
@[simp] theorem send_hau (s : State) (f : UpFrame) : (s.send f).hau = s.hau := rfl
@[simp] theorem send_oru (s : State) (f : UpFrame) : (s.send f).oru = s.oru := rfl
@[simp] theorem send_pcl (s : State) (f : UpFrame) : (s.send f).pcl = s.pcl := rfl
@[simp] theorem send_dlc (s : State) (f : UpFrame) : (s.send f).dlc = s.dlc := rfl
@[simp] theorem send_igt (s : State) (f : UpFrame) : (s.send f).igt = s.igt := rfl
@[simp] theorem send_fbf (s : State) (f : UpFrame) : (s.send f).fbf = s.fbf := rfl
@[simp] theorem send_sbu (s : State) (f : UpFrame) : (s.send f).sbu = s.sbu := rfl
@[simp] theorem send_pcc (s : State) (f : UpFrame) : (s.send f).pcc = s.pcc := rfl
@[simp] theorem send_spu (s : State) (f : UpFrame) : (s.send f).spu = s.spu := rfl
@[simp] theorem send_psc (s : State) (f : UpFrame) : (s.send f).psc = s.psc := rfl
@[simp] theorem send_ulp (s : State) (f : UpFrame) : (s.send f).ulp = { s.ulp with line := some f } := rfl
@[simp] theorem send_par (s : State) (f : UpFrame) : (s.send f).par = s.par := rfl
@[simp] theorem send_ms (s : State) (f : UpFrame) : (s.send f).ms = s.ms := rfl
@[simp] theorem send_pending (s : State) (f : UpFrame) : (s.send f).pending = s.pending := rfl

/-! ### The unlock window closed -/

@[simp] theorem closeUnlock_sib (s : State) : (s.closeUnlock).sib = s.sib := rfl
@[simp] theorem closeUnlock_hau (s : State) : (s.closeUnlock).hau = s.hau := rfl
@[simp] theorem closeUnlock_oru (s : State) : (s.closeUnlock).oru = s.oru := rfl
@[simp] theorem closeUnlock_pcl (s : State) : (s.closeUnlock).pcl = s.pcl := rfl
@[simp] theorem closeUnlock_dlc (s : State) : (s.closeUnlock).dlc = s.dlc := rfl
@[simp] theorem closeUnlock_igt (s : State) : (s.closeUnlock).igt = s.igt := rfl
@[simp] theorem closeUnlock_fbf (s : State) : (s.closeUnlock).fbf = s.fbf := rfl
@[simp] theorem closeUnlock_sbu (s : State) : (s.closeUnlock).sbu = s.sbu := rfl
@[simp] theorem closeUnlock_pcc (s : State) : (s.closeUnlock).pcc = s.pcc := rfl
@[simp] theorem closeUnlock_spu (s : State) : (s.closeUnlock).spu = { s.spu with unlock := none } := rfl
@[simp] theorem closeUnlock_psc (s : State) : (s.closeUnlock).psc = s.psc := rfl
@[simp] theorem closeUnlock_ulp (s : State) : (s.closeUnlock).ulp = s.ulp := rfl
@[simp] theorem closeUnlock_par (s : State) : (s.closeUnlock).par = s.par := rfl
@[simp] theorem closeUnlock_ms (s : State) : (s.closeUnlock).ms = s.ms := rfl
@[simp] theorem closeUnlock_pending (s : State) : (s.closeUnlock).pending = s.pending := rfl

end Sys2Proof.Machine
end

