-- ==== Sys2Proof/Laws/Frames.lean ====
section
/-! SUPPORT. The frame of each operation: the fields of the state that it may change, all others being left as they are. Each lemma holds for every list `T` that contains them. -/

set_option linter.unnecessarySeqFocus false
set_option linter.unusedTactic false
set_option linter.unreachableTactic false
set_option linter.unusedSimpArgs false

namespace Sys2Proof.Machine

theorem elapse_only (d : Nat) (s : State) {T : List Block}
    (k : [Block.sib, .hau, .oru, .pcl, .dlc, .igt, .sbu, .pcc, .spu, .psc, .ms].all T.contains = true) :
    Only T s (elapse d s) :=
  Only.mono (T := [.sib, .hau, .oru, .pcl, .dlc, .igt, .sbu, .pcc, .spu, .psc, .ms]) rfl k

theorem onExpiry_only (t : Timer) (f : State → Act) (s : State) {T : List Block}
    (k : [Block.sib, .hau, .oru, .pcl, .dlc, .igt, .sbu, .pcc, .spu, .psc, .ms].all T.contains = true)
    (h : ∀ x, Only T x (f x).1) : Only T s (onExpiry t f s).1 := by
  cases t with
  | none => exact Only.refl _ _
  | some r => exact Only.trans (elapse_only r s k) (h _)

theorem budgetEvent_only (f : State → Act) (s : State) {T : List Block} (h : Only T s (f s).1) :
    Only T s (budgetEvent f s).1 := h

theorem putInput_only (s : State) (f : Stored) {T : List Block} (k : [Block.fbf].all T.contains = true) :
    Only T s (s.putInput f) := Only.mono (T := [.fbf]) rfl k

theorem clearIdle_only (s : State) {T : List Block} (k : [Block.igt].all T.contains = true) : Only T s s.clearIdle :=
  Only.mono (T := [.igt]) rfl k

theorem setHold_only (s : State) (l : List HoldFrame) {T : List Block} (k : [Block.fbf].all T.contains = true) :
    Only T s (s.setHold l) := Only.mono (T := [.fbf]) rfl k

theorem closeUnlock_only (s : State) {T : List Block} (k : [Block.spu].all T.contains = true) :
    Only T s s.closeUnlock := Only.mono (T := [.spu]) rfl k

theorem queuePending_only (l : List Pending) (s : State) {T : List Block}
    (k : [Block.igt, .fbf].all T.contains = true) : Only T s (queuePending l s) := by
  refine Only.mono (T := [.igt, .fbf]) ?_ k
  induction l generalizing s with
  | nil => rfl
  | cons p ps ih =>
    unfold queuePending
    dsimp only
    split
    · split
      · exact Only.trans rfl (ih _)
      · exact Only.trans rfl (ih _)
    · rfl

theorem budgetEvent_fst (f : State → Act) (s : State) : (budgetEvent f s).1 = (f s).1 := rfl

theorem storeReport_only (payload : List Byte) (s : State) {T : List Block} (hT : [Block.fbf].all T.contains = true) :
    Only T s (storeReport payload s).1 := by
  refine Only.mono (T := [.fbf]) ?_ hT
  unfold Only storeReport
  rfl

theorem offerOverflow_only (s : State) {T : List Block} (hT : [Block.fbf, .ulp].all T.contains = true) :
    Only T s (offerOverflow s).1 := by
  refine Only.mono (T := [.fbf, .ulp]) ?_ hT
  unfold Only offerOverflow
  dsimp only
  repeat' split
  all_goals rfl

theorem offerReport_only (k : ReportKind) (fields : List Byte) (s : State) {T : List Block} (hT : [Block.fbf, .ulp].all T.contains = true) :
    Only T s (offerReport k fields s).1 := by
  refine Only.mono (T := [.fbf, .ulp]) ?_ hT
  unfold Only offerReport
  dsimp only
  repeat' split
  all_goals rfl

theorem composeReport_only (k : ReportKind) (fields : List Byte) (s : State) {T : List Block} (hT : [Block.fbf, .ulp].all T.contains = true) :
    Only T s (composeReport k fields s).1 := by
  refine Only.mono (T := [.fbf, .ulp]) ?_ hT
  unfold Only composeReport
  repeat' split
  all_goals simp (disch := decide) only [andThen_fst, quiet_fst, ↓offerOverflow_only, ↓offerReport_only]

theorem sendReport_only (payload : List Byte) (rest : List Stored) (alt : AltMark) (s : State) {T : List Block} (hT : [Block.fbf, .ulp].all T.contains = true) :
    Only T s (sendReport payload rest alt s).1 := by
  refine Only.mono (T := [.fbf, .ulp]) ?_ hT
  unfold Only sendReport
  rfl

theorem sendInput_only (payload : List Byte) (rest : List Stored) (s : State) {T : List Block} (hT : [Block.fbf, .ulp].all T.contains = true) :
    Only T s (sendInput payload rest s).1 := by
  refine Only.mono (T := [.fbf, .ulp]) ?_ hT
  unfold Only sendInput
  rfl

theorem chooseArea_only (s : State) {T : List Block} (hT : [Block.fbf, .ulp].all T.contains = true) :
    Only T s (chooseArea s).1 := by
  refine Only.mono (T := [.fbf, .ulp]) ?_ hT
  unfold Only chooseArea
  repeat' split
  all_goals rfl

theorem chooseHeld_only (s : State) {T : List Block} (hT : [Block.fbf, .ulp].all T.contains = true) :
    Only T s (chooseHeld s).1 := by
  refine Only.mono (T := [.fbf, .ulp]) ?_ hT
  unfold Only chooseHeld
  repeat' split
  all_goals rfl

theorem arbiterChoice_only (s : State) {T : List Block} (hT : [Block.fbf, .ulp].all T.contains = true) :
    Only T s (arbiterChoice s).1 := by
  refine Only.mono (T := [.fbf, .ulp]) ?_ hT
  unfold Only arbiterChoice
  (try dsimp only)
  (repeat' split)
  all_goals first | rfl | (simp (disch := decide) only [↓chooseArea_only, ↓chooseHeld_only]; done) | (simp (disch := decide) only [andThen_fst, quiet_fst, emit_fst, ↓chooseArea_only, ↓chooseHeld_only]; rfl)

theorem transmitEnd_only (s : State) {T : List Block} (hT : [Block.ulp].all T.contains = true) :
    Only T s (transmitEnd s).1 := by
  refine Only.mono (T := [.ulp]) ?_ hT
  unfold Only transmitEnd
  repeat' split
  all_goals rfl

theorem placeReply_only (r : Reply) (s : State) {T : List Block} (hT : [Block.ulp].all T.contains = true) :
    Only T s (placeReply r s).1 := by
  refine Only.mono (T := [.ulp]) ?_ hT
  unfold Only placeReply
  repeat' split
  all_goals rfl

theorem commandReply_only (r : Reply) (s : State) {T : List Block} (hT : [Block.ulp].all T.contains = true) :
    Only T s (commandReply r s).1 := by
  refine Only.mono (T := [.ulp]) ?_ hT
  unfold Only commandReply
  (try dsimp only)
  (repeat' split)
  all_goals first | rfl | (simp (disch := decide) only [↓placeReply_only]; done) | (simp (disch := decide) only [↓placeReply_only]; rfl)

theorem beginHold_only (s : State) {T : List Block} (hT : [Block.ulp].all T.contains = true) :
    Only T s (beginHold s).1 := by
  refine Only.mono (T := [.ulp]) ?_ hT
  unfold Only beginHold
  rfl

theorem endHold_only (s : State) {T : List Block} (hT : ([] : List Block).all T.contains = true) :
    Only T s (endHold s).1 := by
  refine Only.mono (T := []) ?_ hT
  unfold Only endHold
  rfl

theorem receiveBytes_only (flush : Bool) (bytes : List Byte) (s : State) {T : List Block} (hT : [Block.ulp].all T.contains = true) :
    Only T s (receiveBytes flush bytes s).1 := by
  refine Only.mono (T := [.ulp]) ?_ hT
  unfold Only receiveBytes
  repeat' split
  all_goals rfl

theorem receiveFrame_only (ct : Byte) (payload : List Byte) (s : State) {T : List Block} (hT : [Block.spu, .ulp].all T.contains = true) :
    Only T s (receiveFrame ct payload s).1 := by
  refine Only.mono (T := [.spu, .ulp]) ?_ hT
  unfold Only receiveFrame
  dsimp only
  repeat' split
  all_goals rfl

theorem hostFrame_only (ct : Byte) (payload : List Byte) (s : State) {T : List Block} (hT : ([] : List Block).all T.contains = true) :
    Only T s (hostFrame ct payload s).1 := by
  refine Only.mono (T := []) ?_ hT
  unfold Only hostFrame
  repeat' split
  all_goals rfl

theorem debouncedChange_only (i : Input) (s : State) {T : List Block} (hT : [Block.sib].all T.contains = true) :
    Only T s (debouncedChange i s).1 := by
  refine Only.mono (T := [.sib]) ?_ hT
  unfold Only debouncedChange
  dsimp only
  repeat' split
  all_goals rfl

theorem rejudgeRaw_only (i : Input) (s : State) {T : List Block} (hT : [Block.sib].all T.contains = true) :
    Only T s (rejudgeRaw i s).1 := by
  refine Only.mono (T := [.sib]) ?_ hT
  unfold Only rejudgeRaw
  (try dsimp only)
  (repeat' split)
  all_goals first | rfl | (simp (disch := decide) only [↓debouncedChange_only]; done) | (simp (disch := decide) only [andThen_fst, quiet_fst, emit_fst, ↓debouncedChange_only]; rfl)

theorem rawChange_only (i : Input) (high : Bool) (s : State) {T : List Block} (hT : [Block.sib].all T.contains = true) :
    Only T s (rawChange i high s).1 := by
  refine Only.mono (T := [.sib]) ?_ hT
  unfold Only rawChange
  (try dsimp only)
  (repeat' split)
  all_goals first | rfl | (simp (disch := decide) only [↓rejudgeRaw_only]; done) | (simp (disch := decide) only [↓rejudgeRaw_only]; rfl)

theorem debounceExpiry_only (i : Input) (s : State) {T : List Block} (hT : [Block.sib, .hau, .oru, .pcl, .dlc, .igt, .sbu, .pcc, .spu, .psc, .ms].all T.contains = true) :
    Only T s (debounceExpiry i s).1 := by
  refine Only.mono (T := [.sib, .hau, .oru, .pcl, .dlc, .igt, .sbu, .pcc, .spu, .psc, .ms]) ?_ hT
  unfold Only debounceExpiry
  (try dsimp only)
  (repeat' split)
  all_goals first | rfl | (refine onExpiry_only _ _ _ (by decide) (fun x => ?_); unfold Only; (try dsimp only); (repeat' split) <;> first | rfl | (simp (disch := decide) only [↓debouncedChange_only]; done) | (simp (disch := decide) only [andThen_fst, quiet_fst, emit_fst, ↓debouncedChange_only]; rfl))

theorem hingeUpdate_only (new : Hinge) (s : State) {T : List Block} (hT : [Block.hau].all T.contains = true) :
    Only T s (hingeUpdate new s).1 := by
  refine Only.mono (T := [.hau]) ?_ hT
  unfold Only hingeUpdate
  dsimp only
  repeat' split
  all_goals rfl

theorem takeLidSample_only (x y z : Int) (s : State) {T : List Block} (hT : [Block.hau].all T.contains = true) :
    Only T s (takeLidSample x y z s).1 := by
  refine Only.mono (T := [.hau]) ?_ hT
  unfold Only takeLidSample
  rfl

theorem lidSample_only (x y z : Int) (s : State) {T : List Block} (hT : [Block.sib, .hau, .oru, .pcl, .dlc, .igt, .sbu, .pcc, .spu, .psc, .ms].all T.contains = true) :
    Only T s (lidSample x y z s).1 := by
  refine Only.mono (T := [.sib, .hau, .oru, .pcl, .dlc, .igt, .sbu, .pcc, .spu, .psc, .ms]) ?_ hT
  unfold Only lidSample
  (try dsimp only)
  (repeat' split)
  all_goals first | rfl | (refine onExpiry_only _ _ _ (by decide) (fun x => ?_); unfold Only; (try dsimp only); (repeat' split) <;> first | rfl | (simp (disch := decide) only [andThen_fst, quiet_fst, emit_fst, ↓takeLidSample_only]; done) | (simp (disch := decide) only [andThen_fst, quiet_fst, emit_fst, ↓takeLidSample_only]; rfl))

theorem hingeAtSample_only (s : State) {T : List Block} (hT : [Block.hau].all T.contains = true) :
    Only T s (hingeAtSample s).1 := by
  refine Only.mono (T := [.hau]) ?_ hT
  unfold Only hingeAtSample
  repeat' split
  all_goals simp (disch := decide) only [andThen_fst, ↓hingeUpdate_only]

theorem hallChange_only (s : State) {T : List Block} (hT : [Block.hau].all T.contains = true) :
    Only T s (hallChange s).1 := by
  refine Only.mono (T := [.hau]) ?_ hT
  unfold Only hallChange
  repeat' split
  all_goals simp (disch := decide) only [quiet_fst, ↓hingeUpdate_only]

theorem mirrorSample_only (s : State) {T : List Block} (hT : [Block.hau, .fbf].all T.contains = true) :
    Only T s (mirrorSample s).1 := by
  refine Only.mono (T := [.hau, .fbf]) ?_ hT
  unfold Only mirrorSample
  repeat' split
  all_goals rfl

theorem baseLost_only (s : State) {T : List Block} (hT : [Block.hau].all T.contains = true) :
    Only T s (baseLost s).1 := by
  refine Only.mono (T := [.hau]) ?_ hT
  unfold Only baseLost
  (try dsimp only)
  (repeat' split)
  all_goals first | rfl | (simp (disch := decide) only [↓hingeUpdate_only]; done) | (simp (disch := decide) only [↓hingeUpdate_only]; rfl)

theorem hauDockNotice_only (newBase : Bool) (s : State) {T : List Block} (hT : [Block.hau].all T.contains = true) :
    Only T s (hauDockNotice newBase s).1 := by
  refine Only.mono (T := [.hau]) ?_ hT
  unfold Only hauDockNotice
  (try dsimp only)
  (repeat' split)
  all_goals first | rfl | (simp (disch := decide) only [↓baseLost_only]; done) | (simp (disch := decide) only [andThen_fst, quiet_fst, emit_fst, ↓baseLost_only]; rfl)

theorem acceptTilt_only (x y z : Int) (s : State) {T : List Block} (hT : [Block.hau].all T.contains = true) :
    Only T s (acceptTilt x y z s) := by
  refine Only.mono (T := [.hau]) ?_ hT
  unfold Only acceptTilt
  repeat' split
  all_goals rfl

theorem hauRestart_only (s : State) {T : List Block} (hT : [Block.hau].all T.contains = true) :
    Only T s (hauRestart s).1 := by
  refine Only.mono (T := [.hau]) ?_ hT
  unfold Only hauRestart
  dsimp only
  repeat' split
  all_goals rfl

theorem orientEvaluate_only (s : State) {T : List Block} (hT : [Block.oru].all T.contains = true) :
    Only T s (orientEvaluate s).1 := by
  refine Only.mono (T := [.oru]) ?_ hT
  unfold Only orientEvaluate
  repeat' split
  all_goals rfl

theorem orientCommit_only (unlock : Bool) (s : State) {T : List Block} (hT : [Block.oru].all T.contains = true) :
    Only T s (orientCommit unlock s).1 := by
  refine Only.mono (T := [.oru]) ?_ hT
  unfold Only orientCommit
  repeat' split
  all_goals rfl

theorem orientDwellExpiry_only (s : State) {T : List Block} (hT : [Block.sib, .hau, .oru, .pcl, .dlc, .igt, .sbu, .pcc, .spu, .psc, .ms].all T.contains = true) :
    Only T s (orientDwellExpiry s).1 := by
  refine Only.mono (T := [.sib, .hau, .oru, .pcl, .dlc, .igt, .sbu, .pcc, .spu, .psc, .ms]) ?_ hT
  unfold Only orientDwellExpiry
  (try dsimp only)
  (repeat' split)
  all_goals first | rfl | (refine onExpiry_only _ _ _ (by decide) (fun x => ?_); unfold Only; (try dsimp only); (repeat' split) <;> first | rfl | (simp (disch := decide) only [↓orientCommit_only]; done) | (simp (disch := decide) only [andThen_fst, quiet_fst, emit_fst, ↓orientCommit_only]; rfl))

theorem orientResume_only (s : State) {T : List Block} (hT : [Block.oru].all T.contains = true) :
    Only T s (orientResume s).1 := by
  refine Only.mono (T := [.oru]) ?_ hT
  unfold Only orientResume
  repeat' split
  all_goals rfl

theorem orientRestart_only (s : State) {T : List Block} (hT : [Block.oru].all T.contains = true) :
    Only T s (orientRestart s).1 := by
  refine Only.mono (T := [.oru]) ?_ hT
  unfold Only orientRestart
  rfl

theorem rotationLock_only (on : Bool) (s : State) {T : List Block} (hT : [Block.oru].all T.contains = true) :
    Only T s (rotationLock on s).1 := by
  refine Only.mono (T := [.oru]) ?_ hT
  unfold Only rotationLock
  dsimp only
  repeat' split
  all_goals rfl

theorem postureChoose_only (s : State) {T : List Block} (hT : [Block.pcl].all T.contains = true) :
    Only T s (postureChoose s).1 := by
  refine Only.mono (T := [.pcl]) ?_ hT
  unfold Only postureChoose
  rfl

theorem postureEvaluate_only (s : State) {T : List Block} (hT : [Block.pcl].all T.contains = true) :
    Only T s (postureEvaluate s).1 := by
  refine Only.mono (T := [.pcl]) ?_ hT
  unfold Only postureEvaluate
  repeat' split
  all_goals rfl

theorem postureCommit_only (s : State) {T : List Block} (hT : [Block.pcl].all T.contains = true) :
    Only T s (postureCommit s).1 := by
  refine Only.mono (T := [.pcl]) ?_ hT
  unfold Only postureCommit
  repeat' split
  all_goals rfl

theorem postureDwellExpiry_only (s : State) {T : List Block} (hT : [Block.sib, .hau, .oru, .pcl, .dlc, .igt, .sbu, .pcc, .spu, .psc, .ms].all T.contains = true) :
    Only T s (postureDwellExpiry s).1 := by
  refine Only.mono (T := [.sib, .hau, .oru, .pcl, .dlc, .igt, .sbu, .pcc, .spu, .psc, .ms]) ?_ hT
  unfold Only postureDwellExpiry
  (try dsimp only)
  (repeat' split)
  all_goals first | rfl | (refine onExpiry_only _ _ _ (by decide) (fun x => ?_); unfold Only; (try dsimp only); (repeat' split) <;> first | rfl | (simp (disch := decide) only [↓postureCommit_only]; done) | (simp (disch := decide) only [andThen_fst, quiet_fst, emit_fst, ↓postureCommit_only]; rfl))

theorem startPostureDwell_only (s : State) {T : List Block} (hT : [Block.pcl].all T.contains = true) :
    Only T s (startPostureDwell s).1 := by
  refine Only.mono (T := [.pcl]) ?_ hT
  unfold Only startPostureDwell
  repeat' split
  all_goals rfl

theorem endRestartHold_only (s : State) {T : List Block} (hT : [Block.pcl].all T.contains = true) :
    Only T s (endRestartHold s).1 := by
  refine Only.mono (T := [.pcl]) ?_ hT
  unfold Only endRestartHold
  (try dsimp only)
  (repeat' split)
  all_goals first | rfl | (simp (disch := decide) only [↓startPostureDwell_only]; done) | (simp (disch := decide) only [↓startPostureDwell_only]; rfl)

theorem restartHoldExpiry_only (s : State) {T : List Block} (hT : [Block.sib, .hau, .oru, .pcl, .dlc, .igt, .sbu, .pcc, .spu, .psc, .ms].all T.contains = true) :
    Only T s (restartHoldExpiry s).1 := by
  refine Only.mono (T := [.sib, .hau, .oru, .pcl, .dlc, .igt, .sbu, .pcc, .spu, .psc, .ms]) ?_ hT
  unfold Only restartHoldExpiry
  (try dsimp only)
  (repeat' split)
  all_goals first | rfl | (refine onExpiry_only _ _ _ (by decide) (fun x => ?_); unfold Only; (try dsimp only); (repeat' split) <;> first | rfl | (simp (disch := decide) only [↓endRestartHold_only]; done) | (simp (disch := decide) only [andThen_fst, quiet_fst, emit_fst, ↓endRestartHold_only]; rfl))

theorem pclDockNotice_only (s : State) {T : List Block} (hT : [Block.pcl].all T.contains = true) :
    Only T s (pclDockNotice s).1 := by
  refine Only.mono (T := [.pcl]) ?_ hT
  unfold Only pclDockNotice
  repeat' split
  all_goals rfl

theorem pclRestart_only (s : State) {T : List Block} (hT : [Block.pcl].all T.contains = true) :
    Only T s (pclRestart s).1 := by
  refine Only.mono (T := [.pcl]) ?_ hT
  unfold Only pclRestart
  (try dsimp only)
  (repeat' split)
  all_goals first | rfl | (simp (disch := decide) only [↓postureChoose_only, ↓startPostureDwell_only]; done) | (simp (disch := decide) only [↓postureChoose_only, ↓startPostureDwell_only]; rfl)

theorem applyPen_only (told : Bool) (v : Nat) (s : State) {T : List Block} (hT : [Block.sbu, .pcc].all T.contains = true) :
    Only T s (applyPen told v s).1 := by
  refine Only.mono (T := [.sbu, .pcc]) ?_ hT
  unfold Only applyPen
  rfl

theorem recompute_only (told : Bool) (s : State) {T : List Block} (hT : [Block.sbu, .pcc].all T.contains = true) :
    Only T s (recompute told s).1 := by
  refine Only.mono (T := [.sbu, .pcc]) ?_ hT
  unfold Only recompute
  rfl

theorem raiseGrant_only (level : Nat) (capped : Bool) (s : State) {T : List Block} (hT : [Block.sbu, .pcc].all T.contains = true) :
    Only T s (raiseGrant level capped s).1 := by
  refine Only.mono (T := [.sbu, .pcc]) ?_ hT
  unfold Only raiseGrant
  rfl

theorem lowerGrant_only (level : Nat) (capped : Bool) (s : State) {T : List Block} (hT : [Block.sbu, .pcc].all T.contains = true) :
    Only T s (lowerGrant level capped s).1 := by
  refine Only.mono (T := [.sbu, .pcc]) ?_ hT
  unfold Only lowerGrant
  rfl

theorem applyRequest_only (s : State) {T : List Block} (hT : [Block.sbu, .pcc].all T.contains = true) :
    Only T s (applyRequest s).1 := by
  refine Only.mono (T := [.sbu, .pcc]) ?_ hT
  unfold Only applyRequest
  dsimp only
  repeat' split
  all_goals rfl

theorem dockRequest_only (level : Nat) (s : State) {T : List Block} (hT : [Block.sbu, .pcc].all T.contains = true) :
    Only T s (dockRequest level s).1 := by
  refine Only.mono (T := [.sbu, .pcc]) ?_ hT
  unfold Only dockRequest
  (try dsimp only)
  (repeat' split)
  all_goals first | rfl | (simp (disch := decide) only [budgetEvent_fst, ↓applyRequest_only]; done) | (simp (disch := decide) only [budgetEvent_fst, ↓applyRequest_only]; rfl)

theorem pendingGrantApply_only (s : State) {T : List Block} (hT : [Block.sbu, .pcc].all T.contains = true) :
    Only T s (pendingGrantApply s).1 := by
  refine Only.mono (T := [.sbu, .pcc]) ?_ hT
  unfold Only pendingGrantApply
  repeat' split
  all_goals simp (disch := decide) only [quiet_fst, budgetEvent_fst, ↓applyRequest_only]

theorem moveRail_only (v : Nat) (s : State) {T : List Block} (hT : [Block.sbu, .pcc].all T.contains = true) :
    Only T s (moveRail v s).1 := by
  refine Only.mono (T := [.sbu, .pcc]) ?_ hT
  unfold Only moveRail
  (try dsimp only)
  (repeat' split)
  all_goals first | rfl | (simp (disch := decide) only [andThen_fst, ↓recompute_only, ↓applyRequest_only]; done) | (simp (disch := decide) only [andThen_fst, ↓recompute_only, ↓applyRequest_only]; rfl)

theorem takeRail_only (mv : Int) (s : State) {T : List Block} (hT : [Block.sbu, .pcc].all T.contains = true) :
    Only T s (takeRail mv s).1 := by
  refine Only.mono (T := [.sbu, .pcc]) ?_ hT
  unfold Only takeRail
  (try dsimp only)
  (repeat' split)
  all_goals first | rfl | (simp (disch := decide) only [budgetEvent_fst, ↓moveRail_only]; done) | (simp (disch := decide) only [budgetEvent_fst, ↓moveRail_only]; rfl)

theorem railReading_only (mv : Int) (s : State) {T : List Block} (hT : [Block.sib, .hau, .oru, .pcl, .dlc, .igt, .sbu, .pcc, .spu, .psc, .ms].all T.contains = true) :
    Only T s (railReading mv s).1 := by
  refine Only.mono (T := [.sib, .hau, .oru, .pcl, .dlc, .igt, .sbu, .pcc, .spu, .psc, .ms]) ?_ hT
  unfold Only railReading
  (try dsimp only)
  (repeat' split)
  all_goals first | rfl | (refine onExpiry_only _ _ _ (by decide) (fun x => ?_); unfold Only; (try dsimp only); (repeat' split) <;> first | rfl | (simp (disch := decide) only [↓takeRail_only]; done) | (simp (disch := decide) only [andThen_fst, quiet_fst, emit_fst, ↓takeRail_only]; rfl))

theorem takeTemperature_only (t : Int) (s : State) {T : List Block} (hT : [Block.sbu, .pcc].all T.contains = true) :
    Only T s (takeTemperature t s).1 := by
  refine Only.mono (T := [.sbu, .pcc]) ?_ hT
  unfold Only takeTemperature
  dsimp only
  repeat' split
  all_goals rfl

theorem temperatureReading_only (t : Int) (s : State) {T : List Block} (hT : [Block.sib, .hau, .oru, .pcl, .dlc, .igt, .sbu, .pcc, .spu, .psc, .ms].all T.contains = true) :
    Only T s (temperatureReading t s).1 := by
  refine Only.mono (T := [.sib, .hau, .oru, .pcl, .dlc, .igt, .sbu, .pcc, .spu, .psc, .ms]) ?_ hT
  unfold Only temperatureReading
  (try dsimp only)
  (repeat' split)
  all_goals first | rfl | (refine onExpiry_only _ _ _ (by decide) (fun x => ?_); unfold Only; (try dsimp only); (repeat' split) <;> first | rfl | (simp (disch := decide) only [↓takeTemperature_only]; done) | (simp (disch := decide) only [andThen_fst, quiet_fst, emit_fst, ↓takeTemperature_only]; rfl))

theorem revokeGrant_only (s : State) {T : List Block} (hT : [Block.dlc, .sbu, .pcc].all T.contains = true) :
    Only T s (revokeGrant s).1 := by
  refine Only.mono (T := [.dlc, .sbu, .pcc]) ?_ hT
  unfold Only revokeGrant
  rfl

theorem shedTimerExpiry_only (s : State) {T : List Block} (hT : [Block.sib, .hau, .oru, .pcl, .dlc, .igt, .sbu, .pcc, .spu, .psc, .ms].all T.contains = true) :
    Only T s (shedTimerExpiry s).1 := by
  refine Only.mono (T := [.sib, .hau, .oru, .pcl, .dlc, .igt, .sbu, .pcc, .spu, .psc, .ms]) ?_ hT
  unfold Only shedTimerExpiry
  (try dsimp only)
  (repeat' split)
  all_goals first | rfl | (refine onExpiry_only _ _ _ (by decide) (fun x => ?_); unfold Only; (try dsimp only); (repeat' split) <;> first | rfl | (simp (disch := decide) only [andThen_fst, quiet_fst, budgetEvent_fst, emit_fst, ↓revokeGrant_only]; done) | (simp (disch := decide) only [andThen_fst, quiet_fst, budgetEvent_fst, emit_fst, ↓revokeGrant_only]; rfl))

theorem sbuPowerChange_only (s : State) {T : List Block} (hT : [Block.sbu, .pcc].all T.contains = true) :
    Only T s (sbuPowerChange s).1 := by
  refine Only.mono (T := [.sbu, .pcc]) ?_ hT
  unfold Only sbuPowerChange
  rfl

theorem sbuRestart_only (rail temp : Int) (s : State) {T : List Block} (hT : [Block.sbu, .pcc].all T.contains = true) :
    Only T s (sbuRestart rail temp s).1 := by
  refine Only.mono (T := [.sbu, .pcc]) ?_ hT
  unfold Only sbuRestart
  simp (disch := decide) only [andThen_fst, ↓takeRail_only, ↓takeTemperature_only, ↓sbuPowerChange_only]

theorem handCurrent_only (told : Bool) (i : Nat) (s : State) {T : List Block} (hT : [Block.sbu, .pcc].all T.contains = true) :
    Only T s (handCurrent told i s).1 := by
  refine Only.mono (T := [.sbu, .pcc]) ?_ hT
  unfold Only handCurrent
  rfl

theorem enterPhase_only (new : Phase) (cause : Option ChargeCause) (seconds : Nat) (s : State) {T : List Block} (hT : [Block.sbu, .pcc].all T.contains = true) :
    Only T s (enterPhase new cause seconds s).1 := by
  refine Only.mono (T := [.sbu, .pcc]) ?_ hT
  unfold Only enterPhase
  rfl

theorem startSession_only (s : State) {T : List Block} (hT : [Block.sbu, .pcc].all T.contains = true) :
    Only T s (startSession s).1 := by
  refine Only.mono (T := [.sbu, .pcc]) ?_ hT
  unfold Only startSession
  rfl

theorem enterFault_only (c : ChargeCause) (seconds : Nat) (s : State) {T : List Block} (hT : [Block.sbu, .pcc].all T.contains = true) :
    Only T s (enterFault c seconds s).1 := by
  refine Only.mono (T := [.sbu, .pcc]) ?_ hT
  unfold Only enterFault
  rfl

theorem penInserted_only (s : State) {T : List Block} (hT : [Block.sbu, .pcc].all T.contains = true) :
    Only T s (penInserted s).1 := by
  refine Only.mono (T := [.sbu, .pcc]) ?_ hT
  unfold Only penInserted
  repeat' split
  all_goals rfl

theorem penRemoved_only (s : State) {T : List Block} (hT : [Block.sbu, .pcc].all T.contains = true) :
    Only T s (penRemoved s).1 := by
  refine Only.mono (T := [.sbu, .pcc]) ?_ hT
  unfold Only penRemoved
  repeat' split
  all_goals rfl

theorem chargeStart_only (s : State) {T : List Block} (hT : [Block.sbu, .pcc].all T.contains = true) :
    Only T s (chargeStart s).2.1 := by
  refine Only.mono (T := [.sbu, .pcc]) ?_ hT
  unfold Only chargeStart
  repeat' split
  all_goals rfl

theorem chargeStop_only (s : State) {T : List Block} (hT : [Block.sbu, .pcc].all T.contains = true) :
    Only T s (chargeStop s).2.1 := by
  refine Only.mono (T := [.sbu, .pcc]) ?_ hT
  unfold Only chargeStop
  repeat' split
  all_goals rfl

theorem takeMeasurement_only (mv ma : Int) (s : State) {T : List Block} (hT : [Block.sbu, .pcc].all T.contains = true) :
    Only T s (takeMeasurement mv ma s).1 := by
  refine Only.mono (T := [.sbu, .pcc]) ?_ hT
  unfold Only takeMeasurement
  dsimp only
  repeat' split
  all_goals rfl

theorem measurementEvent_only (mv ma : Int) (s : State) {T : List Block} (hT : [Block.sib, .hau, .oru, .pcl, .dlc, .igt, .sbu, .pcc, .spu, .psc, .ms].all T.contains = true) :
    Only T s (measurementEvent mv ma s).1 := by
  refine Only.mono (T := [.sib, .hau, .oru, .pcl, .dlc, .igt, .sbu, .pcc, .spu, .psc, .ms]) ?_ hT
  unfold Only measurementEvent
  (try dsimp only)
  (repeat' split)
  all_goals first | rfl | (refine onExpiry_only _ _ _ (by decide) (fun x => ?_); unfold Only; (try dsimp only); (repeat' split) <;> first | rfl | (simp (disch := decide) only [↓takeMeasurement_only]; done) | (simp (disch := decide) only [andThen_fst, quiet_fst, emit_fst, ↓takeMeasurement_only]; rfl))

theorem limitReached_only (s : State) {T : List Block} (hT : [Block.sbu, .pcc].all T.contains = true) :
    Only T s (limitReached s).1 := by
  refine Only.mono (T := [.sbu, .pcc]) ?_ hT
  unfold Only limitReached
  rfl

theorem phaseLimitExpiry_only (s : State) {T : List Block} (hT : [Block.sib, .hau, .oru, .pcl, .dlc, .igt, .sbu, .pcc, .spu, .psc, .ms].all T.contains = true) :
    Only T s (phaseLimitExpiry s).1 := by
  refine Only.mono (T := [.sib, .hau, .oru, .pcl, .dlc, .igt, .sbu, .pcc, .spu, .psc, .ms]) ?_ hT
  unfold Only phaseLimitExpiry
  repeat' split
  all_goals rfl

theorem limitAfterWrite_only (s : State) {T : List Block} (hT : [Block.sbu, .pcc].all T.contains = true) :
    Only T s (limitAfterWrite s).1 := by
  refine Only.mono (T := [.sbu, .pcc]) ?_ hT
  unfold Only limitAfterWrite
  repeat' split
  all_goals rfl

theorem storeProfile_only (p : Profile) (s : State) {T : List Block} (hT : [Block.sbu, .pcc].all T.contains = true) :
    Only T s (storeProfile p s).1 := by
  refine Only.mono (T := [.sbu, .pcc]) ?_ hT
  unfold Only storeProfile
  dsimp only
  repeat' split
  all_goals rfl

theorem pccRestart_only (mv ma : Int) (s : State) {T : List Block} (hT : [Block.sbu, .pcc].all T.contains = true) :
    Only T s (pccRestart mv ma s).1 := by
  refine Only.mono (T := [.sbu, .pcc]) ?_ hT
  unfold Only pccRestart
  repeat' split
  all_goals simp (disch := decide) only [quiet_fst, ↓takeMeasurement_only]

theorem dockMove_only (new : Dlc) (s : State) {T : List Block} (hT : [Block.dlc, .fbf].all T.contains = true) :
    Only T s (dockMove new s).1 := by
  refine Only.mono (T := [.dlc, .fbf]) ?_ hT
  unfold Only dockMove
  rfl

theorem reportDock_only (e : DockEvent) (st : Option DockStep) (o : Option Origin) (c : Option DockCause) (s : State) {T : List Block} (hT : ([] : List Block).all T.contains = true) :
    Only T s (reportDock e st o c s).1 := by
  refine Only.mono (T := []) ?_ hT
  unfold Only reportDock
  rfl

theorem dockFault_only (c : DockCause) (asStep : Bool) (s : State) {T : List Block} (hT : [Block.dlc, .fbf].all T.contains = true) :
    Only T s (dockFault c asStep s).1 := by
  refine Only.mono (T := [.dlc, .fbf]) ?_ hT
  unfold Only dockFault
  rfl

theorem statTests_only (flags : Byte) (ma : Nat) (f : State → Act) (s : State) {T : List Block}
    (k : [Block.dlc, .fbf].all T.contains = true) (h : ∀ x, Only T x (f x).1) : Only T s (statTests flags ma f s).1 := by
  unfold statTests
  split
  · exact dockFault_only _ _ _ k
  · dsimp only
    split
    · refine Only.trans ?_ (dockFault_only _ _ _ k)
      exact Only.mono (T := [.dlc, .fbf]) rfl k
    · refine Only.trans ?_ (h _)
      exact Only.mono (T := [.dlc, .fbf]) rfl k

theorem openNextSlot_only (s : State) {T : List Block} (hT : [Block.dlc, .fbf].all T.contains = true) :
    Only T s (openNextSlot s) := by
  refine Only.mono (T := [.dlc, .fbf]) ?_ hT
  unfold Only openNextSlot
  repeat' split
  all_goals rfl

theorem openDue_only (s : State) {T : List Block} (hT : [Block.dlc, .fbf].all T.contains = true) :
    Only T s (openDue s).1 := by
  refine Only.mono (T := [.dlc, .fbf]) ?_ hT
  unfold Only openDue
  (try dsimp only)
  (repeat' split)
  all_goals first | rfl | (simp (disch := decide) only [quiet_fst, ↓openNextSlot_only]; done) | (simp (disch := decide) only [andThen_fst, quiet_fst, emit_fst, ↓openNextSlot_only]; rfl)

theorem pollPeriodExpiry_only (s : State) {T : List Block} (hT : [Block.sib, .hau, .oru, .pcl, .dlc, .igt, .fbf, .sbu, .pcc, .spu, .psc, .ms].all T.contains = true) :
    Only T s (pollPeriodExpiry s).1 := by
  refine Only.mono (T := [.sib, .hau, .oru, .pcl, .dlc, .igt, .fbf, .sbu, .pcc, .spu, .psc, .ms]) ?_ hT
  unfold Only pollPeriodExpiry
  (try dsimp only)
  (repeat' split)
  all_goals first | rfl | (refine onExpiry_only _ _ _ (by decide) (fun x => ?_); unfold Only; (try dsimp only); (repeat' split) <;> first | rfl | (simp (disch := decide) only [quiet_fst, ↓openNextSlot_only]; done) | (simp (disch := decide) only [andThen_fst, quiet_fst, emit_fst, ↓openNextSlot_only]; rfl))

theorem identAttemptOpen_only (s : State) {T : List Block} (hT : [Block.sib, .hau, .oru, .pcl, .dlc, .igt, .sbu, .pcc, .spu, .psc, .ms].all T.contains = true) :
    Only T s (identAttemptOpen s).1 := by
  refine Only.mono (T := [.sib, .hau, .oru, .pcl, .dlc, .igt, .sbu, .pcc, .spu, .psc, .ms]) ?_ hT
  unfold Only identAttemptOpen
  (try dsimp only)
  (repeat' split)
  all_goals first | rfl | (refine onExpiry_only _ _ _ (by decide) (fun x => ?_); unfold Only; (try dsimp only); (repeat' split) <;> first | rfl | (simp (disch := decide) only [andThen_fst, quiet_fst, emit_fst]; done) | (simp (disch := decide) only [andThen_fst, quiet_fst, emit_fst]; rfl))

theorem grantApplied_only (changed : Bool) (s : State) {T : List Block} (hT : [Block.dlc].all T.contains = true) :
    Only T s (grantApplied changed s).1 := by
  refine Only.mono (T := [.dlc]) ?_ hT
  unfold Only grantApplied
  dsimp only
  repeat' split
  all_goals rfl

theorem startStep_only (st : DockStep) (s : State) {T : List Block} (hT : [Block.dlc, .fbf].all T.contains = true) :
    Only T s (startStep st s).1 := by
  refine Only.mono (T := [.dlc, .fbf]) ?_ hT
  unfold Only startStep
  dsimp only
  repeat' split
  all_goals rfl

theorem beginStep_only (st : DockStep) (s : State) {T : List Block} (hT : [Block.dlc, .fbf].all T.contains = true) :
    Only T s (beginStep st s).1 := by
  refine Only.mono (T := [.dlc, .fbf]) ?_ hT
  unfold Only beginStep
  repeat' split
  all_goals simp (disch := decide) only [quiet_fst, ↓startStep_only]

theorem walkNext_only (s : State) {T : List Block} (hT : ([] : List Block).all T.contains = true) :
    Only T s (walkNext s).1 := by
  refine Only.mono (T := []) ?_ hT
  unfold Only walkNext
  repeat' split
  all_goals rfl

theorem startWalk_only (t : WalkTarget) (o : Origin) (s : State) {T : List Block} (hT : [Block.dlc].all T.contains = true) :
    Only T s (startWalk t o s).1 := by
  refine Only.mono (T := [.dlc]) ?_ hT
  unfold Only startWalk
  rfl

theorem dockAuto_only (t : WalkTarget) (o : Origin) (s : State) {T : List Block} (hT : [Block.dlc].all T.contains = true) :
    Only T s (dockAuto t o s).2.1 := by
  refine Only.mono (T := [.dlc]) ?_ hT
  unfold Only dockAuto
  repeat' split
  all_goals rfl

theorem powerRequest_only (q : PowerReq) (s : State) {T : List Block} (hT : [Block.dlc].all T.contains = true) :
    Only T s (powerRequest q s).1 := by
  refine Only.mono (T := [.dlc]) ?_ hT
  unfold Only powerRequest
  (try dsimp only)
  (repeat' split)
  all_goals first | rfl | (simp (disch := decide) only [↓dockAuto_only]; done) | (simp (disch := decide) only [andThen_fst, quiet_fst, emit_fst, ↓dockAuto_only]; rfl)

theorem servePower_only (s : State) {T : List Block} (hT : [Block.dlc].all T.contains = true) :
    Only T s (servePower s).1 := by
  refine Only.mono (T := [.dlc]) ?_ hT
  unfold Only servePower
  (try dsimp only)
  (repeat' split)
  all_goals first | rfl | (simp (disch := decide) only [↓dockAuto_only]; done) | (simp (disch := decide) only [↓dockAuto_only]; rfl)

theorem presenceAsserted_only (s : State) {T : List Block} (hT : [Block.dlc, .fbf].all T.contains = true) :
    Only T s (presenceAsserted s).1 := by
  refine Only.mono (T := [.dlc, .fbf]) ?_ hT
  unfold Only presenceAsserted
  repeat' split
  all_goals rfl

theorem presenceDropped_only (s : State) {T : List Block} (hT : [Block.dlc, .fbf].all T.contains = true) :
    Only T s (presenceDropped s).1 := by
  refine Only.mono (T := [.dlc, .fbf]) ?_ hT
  unfold Only presenceDropped
  repeat' split
  all_goals rfl

theorem dlcPresence_only (asserted : Bool) (s : State) {T : List Block} (hT : [Block.dlc, .fbf].all T.contains = true) :
    Only T s (dlcPresence asserted s).1 := by
  refine Only.mono (T := [.dlc, .fbf]) ?_ hT
  unfold Only dlcPresence
  repeat' split
  all_goals simp (disch := decide) only [↓presenceAsserted_only, ↓presenceDropped_only]

theorem dockSettled_only (s : State) {T : List Block} (hT : [Block.dlc, .fbf].all T.contains = true) :
    Only T s (dockSettled s).1 := by
  refine Only.mono (T := [.dlc, .fbf]) ?_ hT
  unfold Only dockSettled
  rfl

theorem settleTimerDockExpiry_only (s : State) {T : List Block} (hT : [Block.sib, .hau, .oru, .pcl, .dlc, .igt, .fbf, .sbu, .pcc, .spu, .psc, .ms].all T.contains = true) :
    Only T s (settleTimerDockExpiry s).1 := by
  refine Only.mono (T := [.sib, .hau, .oru, .pcl, .dlc, .igt, .fbf, .sbu, .pcc, .spu, .psc, .ms]) ?_ hT
  unfold Only settleTimerDockExpiry
  (try dsimp only)
  (repeat' split)
  all_goals first | rfl | (refine onExpiry_only _ _ _ (by decide) (fun x => ?_); unfold Only; (try dsimp only); (repeat' split) <;> first | rfl | (simp (disch := decide) only [andThen_fst, quiet_fst, emit_fst, ↓dockSettled_only]; done) | (simp (disch := decide) only [andThen_fst, quiet_fst, emit_fst, ↓dockSettled_only]; rfl))

theorem dockRelease_only (o : Option Origin) (s : State) {T : List Block} (hT : [Block.dlc, .fbf].all T.contains = true) :
    Only T s (dockRelease o s).1 := by
  refine Only.mono (T := [.dlc, .fbf]) ?_ hT
  unfold Only dockRelease
  repeat' split
  all_goals rfl

theorem dockRevoked_only (s : State) {T : List Block} (hT : [Block.dlc, .fbf].all T.contains = true) :
    Only T s (dockRevoked s).1 := by
  refine Only.mono (T := [.dlc, .fbf]) ?_ hT
  unfold Only dockRevoked
  repeat' split
  all_goals rfl

theorem beginRecovery_only (s : State) {T : List Block} (hT : [Block.dlc, .fbf].all T.contains = true) :
    Only T s (beginRecovery s).1 := by
  refine Only.mono (T := [.dlc, .fbf]) ?_ hT
  unfold Only beginRecovery
  repeat' split
  all_goals rfl

theorem stepDone_only (st : DockStep) (after : Dlc) (o : Option Origin) (s : State) {T : List Block} (hT : [Block.dlc, .fbf].all T.contains = true) :
    Only T s (stepDone st after o s).1 := by
  refine Only.mono (T := [.dlc, .fbf]) ?_ hT
  unfold Only stepDone
  rfl

theorem identified_only (i : Ident) (s : State) {T : List Block} (hT : [Block.dlc, .fbf].all T.contains = true) :
    Only T s (identified i s).1 := by
  refine Only.mono (T := [.dlc, .fbf]) ?_ hT
  unfold Only identified
  rfl

theorem identificationFailed_only (s : State) {T : List Block} (hT : [Block.dlc, .fbf].all T.contains = true) :
    Only T s (identificationFailed s).1 := by
  refine Only.mono (T := [.dlc, .fbf]) ?_ hT
  unfold Only identificationFailed
  repeat' split
  all_goals rfl

theorem recovered_only (i : Ident) (s : State) {T : List Block} (hT : [Block.dlc, .fbf].all T.contains = true) :
    Only T s (recovered i s).1 := by
  refine Only.mono (T := [.dlc, .fbf]) ?_ hT
  unfold Only recovered
  dsimp only
  repeat' split
  all_goals rfl

theorem identClose_only (ans : Option Answer) (o : Outcome) (s : State) {T : List Block} (hT : [Block.dlc, .fbf].all T.contains = true) :
    Only T s (identClose ans o s).1 := by
  refine Only.mono (T := [.dlc, .fbf]) ?_ hT
  unfold Only identClose
  (try dsimp only)
  (repeat' split)
  all_goals first | rfl | (simp (disch := decide) only [↓identificationFailed_only, ↓recovered_only]; done) | (simp (disch := decide) only [↓identificationFailed_only, ↓recovered_only]; rfl)

theorem quiesceDone_only (s : State) {T : List Block} (hT : [Block.dlc, .fbf].all T.contains = true) :
    Only T s (quiesceDone s).1 := by
  refine Only.mono (T := [.dlc, .fbf]) ?_ hT
  unfold Only quiesceDone
  rfl

theorem readyReached_only (s : State) {T : List Block} (hT : [Block.dlc, .fbf].all T.contains = true) :
    Only T s (readyReached s).1 := by
  refine Only.mono (T := [.dlc, .fbf]) ?_ hT
  unfold Only readyReached
  repeat' split
  all_goals rfl

theorem readyTimerExpiry_only (s : State) {T : List Block} (hT : [Block.sib, .hau, .oru, .pcl, .dlc, .igt, .fbf, .sbu, .pcc, .spu, .psc, .ms].all T.contains = true) :
    Only T s (readyTimerExpiry s).1 := by
  refine Only.mono (T := [.sib, .hau, .oru, .pcl, .dlc, .igt, .fbf, .sbu, .pcc, .spu, .psc, .ms]) ?_ hT
  unfold Only readyTimerExpiry
  (try dsimp only)
  (repeat' split)
  all_goals first | rfl | (refine onExpiry_only _ _ _ (by decide) (fun x => ?_); unfold Only; (try dsimp only); (repeat' split) <;> first | rfl | (simp (disch := decide) only [andThen_fst, quiet_fst, emit_fst, ↓dockFault_only]; done) | (simp (disch := decide) only [andThen_fst, quiet_fst, emit_fst, ↓dockFault_only]; rfl))

theorem dockStepCommand_only (st : DockStep) (s : State) {T : List Block} (hT : ([] : List Block).all T.contains = true) :
    Only T s (dockStepCommand st s).2.1 := by
  refine Only.mono (T := []) ?_ hT
  unfold Only dockStepCommand
  repeat' split
  all_goals rfl

theorem passdownCommand_only (bytes : List Byte) (s : State) {T : List Block} (hT : [Block.fbf].all T.contains = true) :
    Only T s (passdownCommand bytes s).2.1 := by
  refine Only.mono (T := [.fbf]) ?_ hT
  unfold Only passdownCommand
  repeat' split
  all_goals rfl

theorem dockAttention_only (s : State) {T : List Block} (hT : ([] : List Block).all T.contains = true) :
    Only T s (dockAttention s).1 := by
  refine Only.mono (T := []) ?_ hT
  unfold Only dockAttention
  repeat' split
  all_goals rfl

theorem dlcRestart_only (s : State) {T : List Block} (hT : [Block.dlc, .fbf].all T.contains = true) :
    Only T s (dlcRestart s) := by
  refine Only.mono (T := [.dlc, .fbf]) ?_ hT
  unfold Only dlcRestart
  (try dsimp only)
  (repeat' split)
  all_goals first | rfl | (simp (disch := decide) only [↓openNextSlot_only]; done) | (simp (disch := decide) only [andThen_fst, quiet_fst, emit_fst, ↓openNextSlot_only]; rfl)

theorem noteMatch_only (i : Nat) (e : GateEntry) (b : HoldBody) (s : State) {T : List Block} (hT : [Block.igt].all T.contains = true) :
    Only T s (noteMatch i e b s).1 := by
  refine Only.mono (T := [.igt]) ?_ hT
  unfold Only noteMatch
  rfl

theorem judge_only (b : HoldBody) (s : State) {T : List Block} (k : [Block.igt].all T.contains = true) :
    Only T s (judge b s).2.1 := by
  refine Only.mono (T := [.igt]) ?_ k
  unfold Only judge
  dsimp only
  repeat' split
  all_goals rfl

theorem enterInput_only (b : HoldBody) (s : State) {T : List Block} (hT : [Block.igt, .fbf].all T.contains = true) :
    Only T s (enterInput b s) := by
  refine Only.mono (T := [.igt, .fbf]) ?_ hT
  unfold Only enterInput
  repeat' split
  all_goals rfl

theorem enterRelease_only (code : Nat) (s : State) {T : List Block} (hT : [Block.igt, .fbf].all T.contains = true) :
    Only T s (enterRelease code s) := by
  refine Only.mono (T := [.igt, .fbf]) ?_ hT
  unfold Only enterRelease
  rfl

theorem noteSpill_only (reason : SpillReason) (spills : List (HoldBody × Nat)) (s : State) {T : List Block} (hT : [Block.igt].all T.contains = true) :
    Only T s (noteSpill reason spills s).1 := by
  refine Only.mono (T := [.igt]) ?_ hT
  unfold Only noteSpill
  repeat' split
  all_goals rfl

theorem appendHold_only (body : HoldBody) (decided : Bool) (s : State) {T : List Block} (hT : [Block.igt, .fbf].all T.contains = true) :
    Only T s (appendHold body decided s).1 := by
  refine Only.mono (T := [.igt, .fbf]) ?_ hT
  unfold Only appendHold
  simp (disch := decide) only [andThen_fst, emit_fst, ↓noteSpill_only, ↓setHold_only]

theorem toInput_only (b : HoldBody) (s : State) {T : List Block} (hT : [Block.igt, .fbf].all T.contains = true) :
    Only T s (toInput b s).1 := by
  refine Only.mono (T := [.igt, .fbf]) ?_ hT
  unfold Only toInput
  repeat' split
  all_goals simp (disch := decide) only [quiet_fst, ↓enterInput_only, ↓appendHold_only]

theorem routeJudged_only (a : GateAction) (b : HoldBody) (s : State) {T : List Block} (hT : [Block.igt, .fbf].all T.contains = true) :
    Only T s (routeJudged a b s).1 := by
  refine Only.mono (T := [.igt, .fbf]) ?_ hT
  unfold Only routeJudged
  repeat' split
  all_goals simp (disch := decide) only [quiet_fst, ↓appendHold_only, ↓toInput_only]

theorem judgeArrival_only (b : HoldBody) (s : State) {T : List Block} (hT : [Block.igt, .fbf].all T.contains = true) :
    Only T s (judgeArrival b s).1 := by
  refine Only.mono (T := [.igt, .fbf]) ?_ hT
  unfold Only judgeArrival
  dsimp only
  split
  all_goals simp (disch := decide) only [andThen_fst, emit_fst, ↓routeJudged_only, ↓judge_only]

theorem gateRoute_only (b : HoldBody) (s : State) {T : List Block} (hT : [Block.igt, .fbf].all T.contains = true) :
    Only T s (gateRoute b s).1 := by
  refine Only.mono (T := [.igt, .fbf]) ?_ hT
  unfold Only gateRoute
  repeat' split
  all_goals simp (disch := decide) only [quiet_fst, ↓routeJudged_only]

theorem pressArrival_only (code : Nat) (s : State) {T : List Block} (hT : [Block.igt, .fbf].all T.contains = true) :
    Only T s (pressArrival code s).1 := by
  refine Only.mono (T := [.igt, .fbf]) ?_ hT
  unfold Only pressArrival
  repeat' split
  all_goals simp (disch := decide) only [quiet_fst, ↓judgeArrival_only]

theorem releaseArrival_only (code : Nat) (s : State) {T : List Block} (hT : [Block.igt, .fbf].all T.contains = true) :
    Only T s (releaseArrival code s).1 := by
  refine Only.mono (T := [.igt, .fbf]) ?_ hT
  unfold Only releaseArrival
  (try dsimp only)
  (repeat' split)
  all_goals first | rfl | (simp (disch := decide) only [↓appendHold_only]; done) | (simp (disch := decide) only [andThen_fst, quiet_fst, emit_fst, ↓enterRelease_only, ↓appendHold_only]; rfl)

theorem gateArrival_only (ans : Answer) (s : State) {T : List Block} (hT : [Block.igt, .fbf].all T.contains = true) :
    Only T s (gateArrival ans s).1 := by
  refine Only.mono (T := [.igt, .fbf]) ?_ hT
  unfold Only gateArrival
  repeat' split
  all_goals simp (disch := decide) only [quiet_fst, ↓judgeArrival_only, ↓pressArrival_only, ↓releaseArrival_only]

theorem routeAnswer_only (ans : Answer) (s : State) {T : List Block} (hT : [Block.hau, .igt, .fbf].all T.contains = true) :
    Only T s (routeAnswer gateArrival ans s).1 := by
  refine Only.mono (T := [.hau, .igt, .fbf]) ?_ hT
  unfold Only routeAnswer
  repeat' split
  all_goals simp (disch := decide) only [quiet_fst, ↓acceptTilt_only, ↓gateArrival_only]

theorem quiesceFailed_only (ans : Option Answer) (s : State) {T : List Block} (hT : [Block.hau, .dlc, .igt, .fbf].all T.contains = true) :
    Only T s (quiesceFailed gateArrival ans s).1 := by
  refine Only.mono (T := [.hau, .dlc, .igt, .fbf]) ?_ hT
  unfold Only quiesceFailed
  (try dsimp only)
  (repeat' split)
  all_goals first | rfl | (simp (disch := decide) only [andThen_fst, emit_fst, ↓reportDock_only, ↓routeAnswer_only]; done) | (simp (disch := decide) only [andThen_fst, emit_fst, ↓reportDock_only, ↓routeAnswer_only]; rfl)

theorem quiesceClose_only (ans : Option Answer) (s : State) {T : List Block} (hT : [Block.hau, .dlc, .igt, .fbf].all T.contains = true) :
    Only T s (quiesceClose gateArrival ans s).1 := by
  refine Only.mono (T := [.hau, .dlc, .igt, .fbf]) ?_ hT
  unfold Only quiesceClose
  (try dsimp only)
  (repeat' split)
  all_goals first | rfl | (simp (disch := decide) only [↓quiesceFailed_only]; done) | ((try simp (disch := decide) only [andThen_fst, emit_fst]); refine statTests_only _ _ _ _ (by decide) (fun x => ?_); unfold Only; (try dsimp only); (repeat' split) <;> first | rfl | (simp (disch := decide) only [andThen_fst, quiet_fst, emit_fst, ↓quiesceFailed_only, ↓quiesceDone_only, ↓gateArrival_only]; done) | (simp (disch := decide) only [andThen_fst, quiet_fst, emit_fst, ↓quiesceFailed_only, ↓quiesceDone_only, ↓gateArrival_only]; rfl))

theorem pollClose_only (ans : Option Answer) (s : State) {T : List Block}
    (hT : [Block.hau, .dlc, .igt, .fbf].all T.contains = true) : Only T s (pollClose gateArrival ans s).1 := by
  refine Only.mono (T := [.hau, .dlc, .igt, .fbf]) ?_ hT
  have h : ∀ d : Dlc, Only [.hau, .dlc, .igt, .fbf] s { s with dlc := d } := fun _ => rfl
  unfold pollClose
  split
  · dsimp only [andThen_fst, emit_fst]
    split
    · exact (h _).trans (statTests_only _ _ quiet _ (by decide) (fun _ => rfl))
    · exact (h _).trans (routeAnswer_only _ _ (by decide))
  · dsimp only
    split
    · exact h _
    · split
      · exact h _
      · exact (h _).trans (dockFault_only _ _ _ (by decide))

theorem runClose_only (ans : Option Answer) (s : State) {T : List Block} (hT : [Block.hau, .dlc, .igt, .fbf].all T.contains = true) :
    Only T s (runClose gateArrival ans s).1 := by
  refine Only.mono (T := [.hau, .dlc, .igt, .fbf]) ?_ hT
  unfold Only runClose
  (try dsimp only)
  (repeat' split)
  all_goals first | rfl | (simp (disch := decide) only [andThen_fst, emit_fst, ↓routeAnswer_only]; done) | ((try simp (disch := decide) only [andThen_fst, emit_fst]); refine statTests_only _ _ _ _ (by decide) (fun x => ?_); unfold Only; (try dsimp only); (repeat' split) <;> first | rfl | (simp (disch := decide) only [↓readyReached_only]; done) | (simp (disch := decide) only [andThen_fst, quiet_fst, emit_fst, ↓routeAnswer_only, ↓readyReached_only, ↓gateArrival_only]; rfl))

theorem closeSlot_only (ans : Option Answer) (o : Outcome) (s : State) {T : List Block} (hT : [Block.hau, .dlc, .igt, .fbf].all T.contains = true) :
    Only T s (closeSlot gateArrival ans o s).1 := by
  refine Only.mono (T := [.hau, .dlc, .igt, .fbf]) ?_ hT
  unfold Only closeSlot
  (try dsimp only)
  (repeat' split)
  all_goals first | rfl | (simp (disch := decide) only [↓identClose_only, ↓quiesceClose_only, ↓pollClose_only, ↓runClose_only]; done) | (simp (disch := decide) only [↓identClose_only, ↓quiesceClose_only, ↓pollClose_only, ↓runClose_only]; rfl)

theorem stopHead_only (s : State) {T : List Block} (hT : [Block.igt].all T.contains = true) :
    Only T s (stopHead s).1 := by
  refine Only.mono (T := [.igt]) ?_ hT
  unfold Only stopHead
  rfl

theorem pauseHead_only (p : HeadProc) (s : State) {T : List Block} (hT : [Block.igt].all T.contains = true) :
    Only T s (pauseHead p s).1 := by
  refine Only.mono (T := [.igt]) ?_ hT
  unfold Only pauseHead
  rfl

theorem admitHead_only (f : HoldFrame) (rest : List HoldFrame) (s : State) {T : List Block} (hT : [Block.igt, .fbf].all T.contains = true) :
    Only T s (admitHead f rest s).1 := by
  refine Only.mono (T := [.igt, .fbf]) ?_ hT
  unfold Only admitHead
  repeat' split
  all_goals simp (disch := decide) only [↓enterInput_only, ↓stopHead_only, ↓setHold_only]

theorem judgeHead_only (f : HoldFrame) (rest : List HoldFrame) (s : State) {T : List Block} (hT : [Block.igt, .fbf].all T.contains = true) :
    Only T s (judgeHead f rest s).1 := by
  refine Only.mono (T := [.igt, .fbf]) ?_ hT
  unfold Only judgeHead
  dsimp only
  repeat' split
  all_goals simp (disch := decide) only [andThen_fst, emit_fst, ↓stopHead_only, ↓admitHead_only, ↓setHold_only, ↓judge_only]

theorem headAdmit_only (s : State) {T : List Block} (hT : [Block.igt, .fbf].all T.contains = true) :
    Only T s (headAdmit s).1 := by
  refine Only.mono (T := [.igt, .fbf]) ?_ hT
  unfold Only headAdmit
  repeat' split
  all_goals simp (disch := decide) only [quiet_fst, ↓admitHead_only]

theorem headStep_only (s : State) {T : List Block} (hT : [Block.igt, .fbf].all T.contains = true) :
    Only T s (headStep s).1 := by
  refine Only.mono (T := [.igt, .fbf]) ?_ hT
  unfold Only headStep
  repeat' split
  all_goals simp (disch := decide) only [quiet_fst, ↓enterRelease_only, ↓stopHead_only, ↓pauseHead_only, ↓admitHead_only, ↓judgeHead_only, ↓setHold_only]

theorem startHead_only (p : HeadProc) (s : State) {T : List Block} (hT : [Block.igt].all T.contains = true) :
    Only T s (startHead p s).1 := by
  refine Only.mono (T := [.igt]) ?_ hT
  unfold Only startHead
  rfl

theorem expireHead_only (f : HoldFrame) (rest : List HoldFrame) (s : State) {T : List Block} (hT : [Block.igt, .fbf].all T.contains = true) :
    Only T s (expireHead f rest s).1 := by
  refine Only.mono (T := [.igt, .fbf]) ?_ hT
  unfold Only expireHead
  simp (disch := decide) only [andThen_fst, emit_fst, ↓noteSpill_only, ↓setHold_only]

theorem holdCheck_only (headChanged : Bool) (s : State) {T : List Block} (hT : [Block.igt, .fbf].all T.contains = true) :
    Only T s (holdCheck headChanged s).1 := by
  refine Only.mono (T := [.igt, .fbf]) ?_ hT
  unfold Only holdCheck
  (try dsimp only)
  (repeat' split)
  all_goals first | rfl | (simp (disch := decide) only [↓expireHead_only]; done) | (simp (disch := decide) only [andThen_fst, quiet_fst, emit_fst, ↓startHead_only, ↓expireHead_only]; rfl)

theorem holdExpiry_only (s : State) {T : List Block} (hT : [Block.sib, .hau, .oru, .pcl, .dlc, .igt, .fbf, .sbu, .pcc, .spu, .psc, .ms].all T.contains = true) :
    Only T s (holdExpiry s).1 := by
  refine Only.mono (T := [.sib, .hau, .oru, .pcl, .dlc, .igt, .fbf, .sbu, .pcc, .spu, .psc, .ms]) ?_ hT
  unfold Only holdExpiry
  repeat' split
  all_goals simp (disch := decide) only [quiet_fst, ↓expireHead_only, ↓elapse_only]

theorem spaceEvent_only (s : State) {T : List Block} (hT : [Block.igt, .fbf].all T.contains = true) :
    Only T s (spaceEvent s).1 := by
  refine Only.mono (T := [.igt, .fbf]) ?_ hT
  unfold Only spaceEvent
  dsimp only
  repeat' split
  all_goals simp (disch := decide) only [andThen_fst, ↓startHead_only, ↓queuePending_only]

theorem synthesize_only (s : State) {T : List Block} (hT : [Block.igt, .fbf].all T.contains = true) :
    Only T s (synthesize s) := by
  refine Only.mono (T := [.igt, .fbf]) ?_ hT
  unfold Only synthesize
  (try dsimp only)
  (repeat' split)
  all_goals first | rfl | (simp (disch := decide) only [↓setHold_only, ↓queuePending_only]; done) | (simp (disch := decide) only [↓setHold_only, ↓queuePending_only]; rfl)

theorem gateCommit_only (code : Nat) (s : State) {T : List Block} (hT : [Block.igt, .fbf].all T.contains = true) :
    Only T s (gateCommit code s).1 := by
  refine Only.mono (T := [.igt, .fbf]) ?_ hT
  unfold Only gateCommit
  (try dsimp only)
  (repeat' split)
  all_goals first | rfl | (simp (disch := decide) only [andThen_fst, emit_fst, ↓startHead_only, ↓synthesize_only]; done) | (simp (disch := decide) only [andThen_fst, emit_fst, ↓startHead_only, ↓synthesize_only]; rfl)

theorem gateDeparture_only (s : State) {T : List Block} (hT : [Block.igt, .fbf].all T.contains = true) :
    Only T s (gateDeparture s).1 := by
  refine Only.mono (T := [.igt, .fbf]) ?_ hT
  unfold Only gateDeparture
  (try dsimp only)
  (repeat' split)
  all_goals first | rfl | (simp (disch := decide) only [↓queuePending_only]; done) | (simp (disch := decide) only [↓queuePending_only]; rfl)

theorem gateRescan_only (s : State) {T : List Block} (hT : [Block.igt].all T.contains = true) :
    Only T s (gateRescan s).1 := by
  refine Only.mono (T := [.igt]) ?_ hT
  unfold Only gateRescan
  rfl

theorem flushHold_only (keep : HoldFrame → Bool) (s : State) {T : List Block} (hT : [Block.igt, .fbf].all T.contains = true) :
    Only T s (flushHold keep s).1 := by
  refine Only.mono (T := [.igt, .fbf]) ?_ hT
  unfold Only flushHold
  dsimp only
  repeat' split
  all_goals rfl

theorem gateFlush_only (s : State) {T : List Block} (hT : [Block.igt, .fbf].all T.contains = true) :
    Only T s (gateFlush s).1 := by
  refine Only.mono (T := [.igt, .fbf]) ?_ hT
  exact flushHold_only _ _ (by decide)

theorem clearHold_only (s : State) {T : List Block} (hT : [Block.igt, .fbf].all T.contains = true) :
    Only T s (clearHold s).1 := by
  refine Only.mono (T := [.igt, .fbf]) ?_ hT
  exact flushHold_only _ _ (by decide)

theorem idleIncrement_only (s : State) {T : List Block} (hT : [Block.sib, .hau, .oru, .pcl, .dlc, .igt, .sbu, .pcc, .spu, .psc, .ms].all T.contains = true) :
    Only T s (idleIncrement s).1 := by
  refine Only.mono (T := [.sib, .hau, .oru, .pcl, .dlc, .igt, .sbu, .pcc, .spu, .psc, .ms]) ?_ hT
  unfold Only idleIncrement
  dsimp only
  repeat' split
  all_goals rfl

theorem moveHost_only (new : HostState) (s : State) {T : List Block} (hT : [Block.spu].all T.contains = true) :
    Only T s (moveHost new s).1 := by
  refine Only.mono (T := [.spu]) ?_ hT
  unfold Only moveHost
  repeat' split
  all_goals rfl

theorem hostStateCommand_only (value : Nat) (s : State) {T : List Block} (hT : [Block.spu].all T.contains = true) :
    Only T s (hostStateCommand value s).2.1 := by
  refine Only.mono (T := [.spu]) ?_ hT
  unfold Only hostStateCommand
  repeat' split
  all_goals simp (disch := decide) only [quiet_fst, ↓moveHost_only]

theorem withdraw_only (c : WithdrawCause) (governing : Option Nat) (s : State) {T : List Block} (hT : [Block.spu].all T.contains = true) :
    Only T s (withdraw c governing s).1 := by
  refine Only.mono (T := [.spu]) ?_ hT
  unfold Only withdraw
  rfl

theorem beginEpisode_only (g : Option Nat) (s : State) {T : List Block} (hT : [Block.spu].all T.contains = true) :
    Only T s (beginEpisode g s).1 := by
  refine Only.mono (T := [.spu]) ?_ hT
  unfold Only beginEpisode
  dsimp only
  repeat' split
  all_goals rfl

theorem spuEvaluate_only (t : SpuTrigger) (s : State) {T : List Block} (hT : [Block.spu].all T.contains = true) :
    Only T s (spuEvaluate t s).1 := by
  refine Only.mono (T := [.spu]) ?_ hT
  unfold Only spuEvaluate
  dsimp only
  repeat' split
  all_goals simp (disch := decide) only [andThen_fst, quiet_fst, ↓withdraw_only, ↓beginEpisode_only]

theorem adviseSleep_only (i : Nat) (s : State) {T : List Block} (hT : [Block.spu].all T.contains = true) :
    Only T s (adviseSleep i s).1 := by
  refine Only.mono (T := [.spu]) ?_ hT
  unfold Only adviseSleep
  repeat' split
  all_goals rfl

theorem wakeRequest_only (src : WakeSource) (s : State) {T : List Block} (hT : [Block.spu].all T.contains = true) :
    Only T s (wakeRequest src s).1 := by
  refine Only.mono (T := [.spu]) ?_ hT
  unfold Only wakeRequest
  repeat' split
  all_goals rfl

theorem spuAction_only (s : State) {T : List Block} (hT : [Block.spu].all T.contains = true) :
    Only T s (spuAction s).1 := by
  refine Only.mono (T := [.spu]) ?_ hT
  unfold Only spuAction
  (try dsimp only)
  (repeat' split)
  all_goals first | rfl | (simp (disch := decide) only [↓adviseSleep_only, ↓wakeRequest_only]; done) | (simp (disch := decide) only [↓adviseSleep_only, ↓wakeRequest_only]; rfl)

theorem sleepDwellExpiry_only (s : State) {T : List Block} (hT : [Block.sib, .hau, .oru, .pcl, .dlc, .igt, .sbu, .pcc, .spu, .psc, .ms].all T.contains = true) :
    Only T s (sleepDwellExpiry s).1 := by
  refine Only.mono (T := [.sib, .hau, .oru, .pcl, .dlc, .igt, .sbu, .pcc, .spu, .psc, .ms]) ?_ hT
  unfold Only sleepDwellExpiry
  (try dsimp only)
  (repeat' split)
  all_goals first | rfl | (refine onExpiry_only _ _ _ (by decide) (fun x => ?_); unfold Only; (try dsimp only); (repeat' split) <;> first | rfl | (simp (disch := decide) only [↓spuAction_only]; done) | (simp (disch := decide) only [andThen_fst, quiet_fst, emit_fst, ↓spuAction_only]; rfl))

theorem wakeFailed_only (s : State) {T : List Block} (hT : [Block.spu].all T.contains = true) :
    Only T s (wakeFailed s).1 := by
  refine Only.mono (T := [.spu]) ?_ hT
  unfold Only wakeFailed
  repeat' split
  all_goals rfl

theorem wakeTimerExpiry_only (s : State) {T : List Block} (hT : [Block.sib, .hau, .oru, .pcl, .dlc, .igt, .sbu, .pcc, .spu, .psc, .ms].all T.contains = true) :
    Only T s (wakeTimerExpiry s).1 := by
  refine Only.mono (T := [.sib, .hau, .oru, .pcl, .dlc, .igt, .sbu, .pcc, .spu, .psc, .ms]) ?_ hT
  unfold Only wakeTimerExpiry
  (try dsimp only)
  (repeat' split)
  all_goals first | rfl | (refine onExpiry_only _ _ _ (by decide) (fun x => ?_); unfold Only; (try dsimp only); (repeat' split) <;> first | rfl | (simp (disch := decide) only [↓wakeFailed_only]; done) | (simp (disch := decide) only [andThen_fst, quiet_fst, emit_fst, ↓wakeFailed_only]; rfl))

theorem beginCut_only (s : State) {T : List Block} (hT : [Block.spu].all T.contains = true) :
    Only T s (beginCut s).1 := by
  refine Only.mono (T := [.spu]) ?_ hT
  unfold Only beginCut
  rfl

theorem overdue_only (s : State) {T : List Block} (hT : [Block.spu].all T.contains = true) :
    Only T s (overdue s).1 := by
  refine Only.mono (T := [.spu]) ?_ hT
  unfold Only overdue
  rfl

theorem complianceDue_only (s : State) {T : List Block} (hT : [Block.spu].all T.contains = true) :
    Only T s (complianceDue s).1 := by
  refine Only.mono (T := [.spu]) ?_ hT
  unfold Only complianceDue
  repeat' split
  all_goals rfl

theorem complianceExpiry_only (s : State) {T : List Block} (hT : [Block.sib, .hau, .oru, .pcl, .dlc, .igt, .sbu, .pcc, .spu, .psc, .ms].all T.contains = true) :
    Only T s (complianceExpiry s).1 := by
  refine Only.mono (T := [.sib, .hau, .oru, .pcl, .dlc, .igt, .sbu, .pcc, .spu, .psc, .ms]) ?_ hT
  unfold Only complianceExpiry
  (try dsimp only)
  (repeat' split)
  all_goals first | rfl | (refine onExpiry_only _ _ _ (by decide) (fun x => ?_); unfold Only; (try dsimp only); (repeat' split) <;> first | rfl | (simp (disch := decide) only [↓complianceDue_only]; done) | (simp (disch := decide) only [andThen_fst, quiet_fst, emit_fst, ↓complianceDue_only]; rfl))

theorem cutAssert_only (s : State) {T : List Block} (hT : [Block.spu].all T.contains = true) :
    Only T s (cutAssert s).1 := by
  refine Only.mono (T := [.spu]) ?_ hT
  unfold Only cutAssert
  repeat' split
  all_goals rfl

theorem cutWaitExpiry_only (s : State) {T : List Block} (hT : [Block.sib, .hau, .oru, .pcl, .dlc, .igt, .sbu, .pcc, .spu, .psc, .ms].all T.contains = true) :
    Only T s (cutWaitExpiry s).1 := by
  refine Only.mono (T := [.sib, .hau, .oru, .pcl, .dlc, .igt, .sbu, .pcc, .spu, .psc, .ms]) ?_ hT
  unfold Only cutWaitExpiry
  (try dsimp only)
  (repeat' split)
  all_goals first | rfl | (refine onExpiry_only _ _ _ (by decide) (fun x => ?_); unfold Only; (try dsimp only); (repeat' split) <;> first | rfl | (simp (disch := decide) only [↓cutAssert_only]; done) | (simp (disch := decide) only [andThen_fst, quiet_fst, emit_fst, ↓cutAssert_only]; rfl))

theorem servePendingWake_only (s : State) {T : List Block} (hT : [Block.spu].all T.contains = true) :
    Only T s (servePendingWake s).1 := by
  refine Only.mono (T := [.spu]) ?_ hT
  unfold Only servePendingWake
  (try dsimp only)
  (repeat' split)
  all_goals first | rfl | (simp (disch := decide) only [↓wakeRequest_only]; done) | (simp (disch := decide) only [↓wakeRequest_only]; rfl)

theorem endCut_only (s : State) {T : List Block} (hT : [Block.spu].all T.contains = true) :
    Only T s (endCut s).1 := by
  refine Only.mono (T := [.spu]) ?_ hT
  unfold Only endCut
  (try dsimp only)
  (repeat' split)
  all_goals first | rfl | (simp (disch := decide) only [↓servePendingWake_only]; done) | (simp (disch := decide) only [↓servePendingWake_only]; rfl)

theorem cutPulseExpiry_only (s : State) {T : List Block} (hT : [Block.sib, .hau, .oru, .pcl, .dlc, .igt, .sbu, .pcc, .spu, .psc, .ms].all T.contains = true) :
    Only T s (cutPulseExpiry s).1 := by
  refine Only.mono (T := [.sib, .hau, .oru, .pcl, .dlc, .igt, .sbu, .pcc, .spu, .psc, .ms]) ?_ hT
  unfold Only cutPulseExpiry
  (try dsimp only)
  (repeat' split)
  all_goals first | rfl | (refine onExpiry_only _ _ _ (by decide) (fun x => ?_); unfold Only; (try dsimp only); (repeat' split) <;> first | rfl | (simp (disch := decide) only [↓endCut_only]; done) | (simp (disch := decide) only [andThen_fst, quiet_fst, emit_fst, ↓endCut_only]; rfl))

theorem unlockTimeout_only (s : State) {T : List Block} (hT : [Block.sib, .hau, .oru, .pcl, .dlc, .igt, .sbu, .pcc, .spu, .psc, .ms].all T.contains = true) :
    Only T s (unlockTimeout s).1 := by
  refine Only.mono (T := [.sib, .hau, .oru, .pcl, .dlc, .igt, .sbu, .pcc, .spu, .psc, .ms]) ?_ hT
  unfold Only unlockTimeout
  repeat' split
  all_goals rfl

theorem policyUnlock_only (platform : Bool) (seq : Nat) (time : Stamp) (s : State) {T : List Block} (hT : [Block.spu].all T.contains = true) :
    Only T s (policyUnlock platform seq time s).2.1 := by
  refine Only.mono (T := [.spu]) ?_ hT
  unfold Only policyUnlock
  repeat' split
  all_goals rfl

theorem forceModeCommand_only (value : Nat) (platform : Bool) (seq : Nat) (time : Stamp) (s : State) {T : List Block} (hT : [Block.spu].all T.contains = true) :
    Only T s (forceModeCommand value platform seq time s).2.1 := by
  refine Only.mono (T := [.spu]) ?_ hT
  unfold Only forceModeCommand
  repeat' split
  all_goals rfl

theorem standbyBlocks_only (s : State) {T : List Block} (hT : [Block.hau, .oru, .pcl, .dlc, .sbu, .pcc, .psc, .ulp].all T.contains = true) :
    Only T s (standbyBlocks s) := by
  refine Only.mono (T := [.hau, .oru, .pcl, .dlc, .sbu, .pcc, .psc, .ulp]) ?_ hT
  unfold Only standbyBlocks
  rfl

theorem enterStandby_only (deferred : Bool) (s : State) {T : List Block} (hT : [Block.hau, .oru, .pcl, .dlc, .sbu, .pcc, .psc, .ulp].all T.contains = true) :
    Only T s (enterStandby deferred s).1 := by
  refine Only.mono (T := [.hau, .oru, .pcl, .dlc, .sbu, .pcc, .psc, .ulp]) ?_ hT
  unfold Only enterStandby
  rfl

theorem standbyDue_only (s : State) {T : List Block} (hT : [Block.hau, .oru, .pcl, .dlc, .sbu, .pcc, .psc, .ulp].all T.contains = true) :
    Only T s (standbyDue s).1 := by
  refine Only.mono (T := [.hau, .oru, .pcl, .dlc, .sbu, .pcc, .psc, .ulp]) ?_ hT
  unfold Only standbyDue
  repeat' split
  all_goals rfl

theorem standbyTimerExpiry_only (s : State) {T : List Block} (hT : [Block.sib, .hau, .oru, .pcl, .dlc, .igt, .sbu, .pcc, .spu, .psc, .ulp, .ms].all T.contains = true) :
    Only T s (standbyTimerExpiry s).1 := by
  refine Only.mono (T := [.sib, .hau, .oru, .pcl, .dlc, .igt, .sbu, .pcc, .spu, .psc, .ulp, .ms]) ?_ hT
  unfold Only standbyTimerExpiry
  (try dsimp only)
  (repeat' split)
  all_goals first | rfl | (refine onExpiry_only _ _ _ (by decide) (fun x => ?_); unfold Only; (try dsimp only); (repeat' split) <;> first | rfl | (simp (disch := decide) only [↓standbyDue_only]; done) | (simp (disch := decide) only [andThen_fst, quiet_fst, emit_fst, ↓standbyDue_only]; rfl))

theorem standbyRecheck_only (s : State) {T : List Block} (hT : [Block.hau, .oru, .pcl, .dlc, .sbu, .pcc, .psc, .ulp].all T.contains = true) :
    Only T s (standbyRecheck s).1 := by
  refine Only.mono (T := [.hau, .oru, .pcl, .dlc, .sbu, .pcc, .psc, .ulp]) ?_ hT
  unfold Only standbyRecheck
  (try dsimp only)
  (repeat' split)
  all_goals first | rfl | (simp (disch := decide) only [↓standbyDue_only]; done) | (simp (disch := decide) only [andThen_fst, quiet_fst, emit_fst, ↓standbyDue_only]; rfl)

theorem deferredRecheck_only (s : State) {T : List Block} (hT : [Block.hau, .oru, .pcl, .dlc, .sbu, .pcc, .psc, .ulp].all T.contains = true) :
    Only T s (deferredRecheck s).1 := by
  refine Only.mono (T := [.hau, .oru, .pcl, .dlc, .sbu, .pcc, .psc, .ulp]) ?_ hT
  unfold Only deferredRecheck
  repeat' split
  all_goals rfl

theorem enterDoze_only (s : State) {T : List Block} (hT : [Block.oru, .sbu, .pcc, .psc].all T.contains = true) :
    Only T s (enterDoze s).1 := by
  refine Only.mono (T := [.oru, .sbu, .pcc, .psc]) ?_ hT
  unfold Only enterDoze
  rfl

theorem startDoze_only (s : State) {T : List Block} (hT : [Block.oru, .sbu, .pcc, .psc].all T.contains = true) :
    Only T s (startDoze s).1 := by
  refine Only.mono (T := [.oru, .sbu, .pcc, .psc]) ?_ hT
  unfold Only startDoze
  repeat' split
  all_goals rfl

theorem dozeTimerExpiry_only (s : State) {T : List Block} (hT : [Block.sib, .hau, .oru, .pcl, .dlc, .igt, .sbu, .pcc, .spu, .psc, .ms].all T.contains = true) :
    Only T s (dozeTimerExpiry s).1 := by
  refine Only.mono (T := [.sib, .hau, .oru, .pcl, .dlc, .igt, .sbu, .pcc, .spu, .psc, .ms]) ?_ hT
  unfold Only dozeTimerExpiry
  (try dsimp only)
  (repeat' split)
  all_goals first | rfl | (refine onExpiry_only _ _ _ (by decide) (fun x => ?_); unfold Only; (try dsimp only); (repeat' split) <;> first | rfl | (simp (disch := decide) only [andThen_fst, quiet_fst, emit_fst, ↓enterDoze_only]; done) | (simp (disch := decide) only [andThen_fst, quiet_fst, emit_fst, ↓enterDoze_only]; rfl))

theorem dozeCheck_only (s : State) {T : List Block} (hT : [Block.oru, .sbu, .pcc, .psc].all T.contains = true) :
    Only T s (dozeCheck s).1 := by
  refine Only.mono (T := [.oru, .sbu, .pcc, .psc]) ?_ hT
  unfold Only dozeCheck
  repeat' split
  all_goals simp (disch := decide) only [quiet_fst, ↓startDoze_only]

theorem enterRunFromDoze_only (s : State) {T : List Block} (hT : [Block.oru, .sbu, .pcc, .psc].all T.contains = true) :
    Only T s (enterRunFromDoze s).1 := by
  refine Only.mono (T := [.oru, .sbu, .pcc, .psc]) ?_ hT
  unfold Only enterRunFromDoze
  (try dsimp only)
  (repeat' split)
  all_goals first | rfl | (simp (disch := decide) only [andThen_fst, ↓orientResume_only, ↓sbuPowerChange_only, emitWith]; done) | (simp (disch := decide) only [andThen_fst, ↓orientResume_only, ↓sbuPowerChange_only, emitWith]; rfl)

theorem enterSettle_only (src : PowerSource) (s : State) {T : List Block} (hT : [Block.psc].all T.contains = true) :
    Only T s (enterSettle src s).1 := by
  refine Only.mono (T := [.psc]) ?_ hT
  unfold Only enterSettle
  rfl

theorem wakeEvent_only (src : PowerSource) (s : State) {T : List Block} (hT : [Block.psc].all T.contains = true) :
    Only T s (wakeEvent src s).1 := by
  refine Only.mono (T := [.psc]) ?_ hT
  unfold Only wakeEvent
  repeat' split
  all_goals rfl

theorem levelConditions_only (s : State) {T : List Block} (hT : ([] : List Block).all T.contains = true) :
    Only T s (levelConditions s).1 := by
  refine Only.mono (T := []) ?_ hT
  unfold Only levelConditions
  rfl

theorem uplinkActivity_only (s : State) {T : List Block} (hT : [Block.psc].all T.contains = true) :
    Only T s (uplinkActivity s).1 := by
  refine Only.mono (T := [.psc]) ?_ hT
  unfold Only uplinkActivity
  repeat' split
  all_goals rfl

theorem hostChanged_only (old new : HostState) (s : State) {T : List Block} (hT : [Block.hau, .oru, .pcl, .dlc, .sbu, .pcc, .psc, .ulp].all T.contains = true) :
    Only T s (hostChanged old new s).1 := by
  refine Only.mono (T := [.hau, .oru, .pcl, .dlc, .sbu, .pcc, .psc, .ulp]) ?_ hT
  unfold Only hostChanged
  (try dsimp only)
  (repeat' split)
  all_goals first | rfl | (simp (disch := decide) only [↓standbyRecheck_only, ↓startDoze_only, ↓enterRunFromDoze_only]; done) | (simp (disch := decide) only [andThen_fst, quiet_fst, emit_fst, ↓standbyRecheck_only, ↓startDoze_only, ↓enterRunFromDoze_only, ↓enterSettle_only]; rfl)

theorem runBlocks_only (s : State) {T : List Block} (hT : [Block.psc, .ulp].all T.contains = true) :
    Only T s (runBlocks s) := by
  refine Only.mono (T := [.psc, .ulp]) ?_ hT
  unfold Only runBlocks
  rfl

theorem enterRunFromSettle_only (w : WakeSense) (s : State) {T : List Block} (hT : [Block.hau, .oru, .pcl, .dlc, .fbf, .sbu, .pcc, .psc, .ulp].all T.contains = true) :
    Only T s (enterRunFromSettle w s).1 := by
  refine Only.mono (T := [.hau, .oru, .pcl, .dlc, .fbf, .sbu, .pcc, .psc, .ulp]) ?_ hT
  unfold Only enterRunFromSettle
  simp (disch := decide) only [andThen_fst, quiet_fst, ↓hauRestart_only, ↓orientRestart_only, ↓pclRestart_only, ↓sbuRestart_only, ↓pccRestart_only, ↓dlcRestart_only, ↓runBlocks_only, emitWith]

theorem settleTimerExpiry_only (w : WakeSense) (s : State) {T : List Block} (hT : [Block.sib, .hau, .oru, .pcl, .dlc, .igt, .fbf, .sbu, .pcc, .spu, .psc, .ulp, .ms].all T.contains = true) :
    Only T s (settleTimerExpiry w s).1 := by
  refine Only.mono (T := [.sib, .hau, .oru, .pcl, .dlc, .igt, .fbf, .sbu, .pcc, .spu, .psc, .ulp, .ms]) ?_ hT
  unfold Only settleTimerExpiry
  (try dsimp only)
  (repeat' split)
  all_goals first | rfl | (refine onExpiry_only _ _ _ (by decide) (fun x => ?_); unfold Only; (try dsimp only); (repeat' split) <;> first | rfl | (simp (disch := decide) only [↓enterRunFromSettle_only]; done) | (simp (disch := decide) only [andThen_fst, quiet_fst, emit_fst, ↓enterRunFromSettle_only]; rfl))

theorem writePosture_only (i : Nat) (e : List Byte) (s : State) {T : List Block} (hT : [Block.pcl].all T.contains = true) :
    Only T s (writePosture i e s).2.1 := by
  refine Only.mono (T := [.pcl]) ?_ hT
  unfold Only writePosture
  dsimp only
  repeat' split
  all_goals rfl

theorem writeGateDir_only (i : Nat) (e : List Byte) (s : State) {T : List Block} (hT : [Block.igt].all T.contains = true) :
    Only T s (writeGateDir i e s).2.1 := by
  refine Only.mono (T := [.igt]) ?_ hT
  unfold Only writeGateDir
  repeat' split
  all_goals rfl

theorem writeGateEntry_only (i : Nat) (e : List Byte) (s : State) {T : List Block} (hT : [Block.igt].all T.contains = true) :
    Only T s (writeGateEntry i e s).2.1 := by
  refine Only.mono (T := [.igt]) ?_ hT
  unfold Only writeGateEntry
  repeat' split
  all_goals rfl

theorem hitsClear_only (first count : Nat) (s : State) {T : List Block} (hT : [Block.igt].all T.contains = true) :
    Only T s (hitsClear first count s).2.1 := by
  refine Only.mono (T := [.igt]) ?_ hT
  unfold Only hitsClear
  repeat' split
  all_goals rfl

theorem writeSleepRule_only (i : Nat) (e : List Byte) (s : State) {T : List Block} (hT : [Block.spu].all T.contains = true) :
    Only T s (writeSleepRule i e s).2.1 := by
  refine Only.mono (T := [.spu]) ?_ hT
  unfold Only writeSleepRule
  repeat' split
  all_goals rfl

theorem writeProfile_only (platform : Bool) (i : Nat) (e : List Byte) (s : State) {T : List Block} (hT : [Block.sbu, .pcc].all T.contains = true) :
    Only T s (writeProfile platform i e s).2.1 := by
  refine Only.mono (T := [.sbu, .pcc]) ?_ hT
  unfold Only writeProfile
  dsimp only
  repeat' split
  all_goals simp (disch := decide) only [quiet_fst, ↓storeProfile_only]

theorem writeTable_only (platform : Bool) (table i : Nat) (e : List Byte) (s : State) {T : List Block} (hT : [Block.pcl, .igt, .sbu, .pcc, .spu].all T.contains = true) :
    Only T s (writeTable platform table i e s).2.1 := by
  refine Only.mono (T := [.pcl, .igt, .sbu, .pcc, .spu]) ?_ hT
  unfold Only writeTable
  repeat' split
  all_goals simp (disch := decide) only [quiet_fst, ↓writePosture_only, ↓writeGateDir_only, ↓writeGateEntry_only, ↓writeSleepRule_only, ↓writeProfile_only]

theorem modeChanged_only (i : Input) (s : State) {T : List Block} (hT : ([] : List Block).all T.contains = true) :
    Only T s (modeChanged i s).1 := by
  refine Only.mono (T := []) ?_ hT
  unfold Only modeChanged
  repeat' split
  all_goals rfl

theorem paramEffect_only (n : Nat) (changed : Bool) (s : State) {T : List Block} (hT : [Block.sib, .hau, .sbu, .pcc].all T.contains = true) :
    Only T s (paramEffect n changed s).1 := by
  refine Only.mono (T := [.sib, .hau, .sbu, .pcc]) ?_ hT
  unfold Only paramEffect
  (try dsimp only)
  (repeat' split)
  all_goals first | rfl | (simp (disch := decide) only [↓rejudgeRaw_only, ↓modeChanged_only]; done) | (simp (disch := decide) only [andThen_fst, quiet_fst, budgetEvent_fst, emit_fst, ↓rejudgeRaw_only, ↓recompute_only, ↓modeChanged_only]; rfl)

theorem setParam_only (n : Nat) (v : Int) (s : State) {T : List Block} (hT : [Block.sib, .hau, .sbu, .pcc, .par].all T.contains = true) :
    Only T s (setParam n v s).1 := by
  refine Only.mono (T := [.sib, .hau, .sbu, .pcc, .par]) ?_ hT
  unfold Only setParam
  (try dsimp only)
  (repeat' split)
  all_goals first | rfl | (simp (disch := decide) only [↓paramEffect_only]; done) | (simp (disch := decide) only [↓paramEffect_only]; rfl)

theorem storeMap_only (m : AreaMap) (s : State) {T : List Block} (hT : [Block.fbf].all T.contains = true) :
    Only T s (storeMap m s).1 := by
  refine Only.mono (T := [.fbf]) ?_ hT
  unfold Only storeMap
  rfl

theorem areaMapCommand_only (w : List Nat) (s : State) {T : List Block} (hT : [Block.fbf].all T.contains = true) :
    Only T s (areaMapCommand w s).2.2.1 := by
  refine Only.mono (T := [.fbf]) ?_ hT
  unfold Only areaMapCommand
  dsimp only
  repeat' split
  all_goals rfl

theorem clearArea_only (a : AreaName) (s : State) {T : List Block} (hT : [Block.igt, .fbf].all T.contains = true) :
    Only T s (clearArea a s).1 := by
  refine Only.mono (T := [.igt, .fbf]) ?_ hT
  unfold Only clearArea
  repeat' split
  all_goals first | rfl | exact clearHold_only _ (by decide)

theorem areaClearCommand_only (code : Nat) (s : State) {T : List Block} (hT : [Block.igt, .fbf].all T.contains = true) :
    Only T s (areaClearCommand code s).2.1 := by
  refine Only.mono (T := [.igt, .fbf]) ?_ hT
  unfold Only areaClearCommand
  repeat' split
  all_goals simp (disch := decide) only [quiet_fst, ↓clearArea_only]

theorem readResult_only (f : Option (List Byte)) (s : State) {T : List Block} (hT : ([] : List Block).all T.contains = true) :
    Only T s (readResult f s).act.1 := by
  refine Only.mono (T := []) ?_ hT
  unfold Only readResult
  repeat' split
  all_goals rfl

theorem echoResult_only (s : State) {T : List Block} (hT : ([] : List Block).all T.contains = true) :
    Only T s (echoResult s).act.1 := by
  refine Only.mono (T := []) ?_ hT
  unfold Only echoResult
  rfl

theorem tableWriteResult_only (platform : Bool) (table i : Nat) (e : List Byte) (s : State) {T : List Block} (hT : [Block.pcl, .igt, .sbu, .pcc, .spu].all T.contains = true) :
    Only T s (tableWriteResult platform table i e s).act.1 := by
  refine Only.mono (T := [.pcl, .igt, .sbu, .pcc, .spu]) ?_ hT
  unfold Only tableWriteResult
  simp (disch := decide) only [↓writeTable_only, plainResult]

theorem tableReadResult_only (table i : Nat) (s : State) {T : List Block} (hT : ([] : List Block).all T.contains = true) :
    Only T s (tableReadResult table i s).act.1 := by
  refine Only.mono (T := []) ?_ hT
  unfold Only tableReadResult
  simp (disch := decide) only [↓readResult_only]

theorem configSetResult_only (n : Nat) (v : Int) (s : State) {T : List Block} (hT : [Block.sib, .hau, .sbu, .pcc, .par].all T.contains = true) :
    Only T s (configSetResult n v s).act.1 := by
  refine Only.mono (T := [.sib, .hau, .sbu, .pcc, .par]) ?_ hT
  unfold Only configSetResult
  repeat' split
  all_goals simp (disch := decide) only [quiet_fst, ↓setParam_only]

theorem configGetResult_only (n : Nat) (s : State) {T : List Block} (hT : ([] : List Block).all T.contains = true) :
    Only T s (configGetResult n s).act.1 := by
  refine Only.mono (T := []) ?_ hT
  unfold Only configGetResult
  simp (disch := decide) only [↓readResult_only]

theorem reportEnableResult_only (m : BitVec 24) (s : State) {T : List Block} (hT : [Block.ulp].all T.contains = true) :
    Only T s (reportEnableResult m s).act.1 := by
  refine Only.mono (T := [.ulp]) ?_ hT
  unfold Only reportEnableResult
  rfl

theorem dockStepResult_only (v : Nat) (s : State) {T : List Block} (hT : ([] : List Block).all T.contains = true) :
    Only T s (dockStepResult v s).act.1 := by
  refine Only.mono (T := []) ?_ hT
  unfold Only dockStepResult
  repeat' split
  all_goals simp (disch := decide) only [quiet_fst, ↓dockStepCommand_only, plainResult]

theorem dockAutoResult_only (v : Nat) (s : State) {T : List Block} (hT : [Block.dlc].all T.contains = true) :
    Only T s (dockAutoResult v s).act.1 := by
  refine Only.mono (T := [.dlc]) ?_ hT
  unfold Only dockAutoResult
  repeat' split
  all_goals simp (disch := decide) only [quiet_fst, ↓dockAuto_only, plainResult]

theorem rotationLockResult_only (v : Nat) (s : State) {T : List Block} (hT : [Block.oru].all T.contains = true) :
    Only T s (rotationLockResult v s).act.1 := by
  refine Only.mono (T := [.oru]) ?_ hT
  unfold Only rotationLockResult
  repeat' split
  all_goals simp (disch := decide) only [quiet_fst, ↓rotationLock_only, plainResult]

theorem chargeControlResult_only (v : Nat) (s : State) {T : List Block} (hT : [Block.sbu, .pcc].all T.contains = true) :
    Only T s (chargeControlResult v s).act.1 := by
  refine Only.mono (T := [.sbu, .pcc]) ?_ hT
  unfold Only chargeControlResult
  repeat' split
  all_goals simp (disch := decide) only [quiet_fst, ↓chargeStart_only, ↓chargeStop_only, plainResult]

theorem accessSetResult_only (platform : Bool) (ch g w : Nat) (s : State) {T : List Block} (hT : [Block.ulp].all T.contains = true) :
    Only T s (accessSetResult platform ch g w s).act.1 := by
  refine Only.mono (T := [.ulp]) ?_ hT
  unfold Only accessSetResult
  repeat' split
  all_goals rfl

theorem accessFreezeResult_only (s : State) {T : List Block} (hT : [Block.ulp].all T.contains = true) :
    Only T s (accessFreezeResult s).act.1 := by
  refine Only.mono (T := [.ulp]) ?_ hT
  unfold Only accessFreezeResult
  rfl

theorem partResetResult_only (v : Nat) (s : State) {T : List Block} (hT : ([] : List Block).all T.contains = true) :
    Only T s (partResetResult v s).act.1 := by
  refine Only.mono (T := []) ?_ hT
  unfold Only partResetResult
  repeat' split
  all_goals rfl

theorem areaMapResult_only (w : List Nat) (s : State) {T : List Block} (hT : [Block.fbf].all T.contains = true) :
    Only T s (areaMapResult w s).act.1 := by
  refine Only.mono (T := [.fbf]) ?_ hT
  unfold Only areaMapResult
  simp (disch := decide) only [↓areaMapCommand_only]

theorem hauAtReset_only (s : State) {T : List Block} (hT : [Block.hau].all T.contains = true) :
    Only T s (hauAtReset s) := by
  refine Only.mono (T := [.hau]) ?_ hT
  unfold Only hauAtReset
  rfl

theorem firstReadings_only (rail temp : Int) (s : State) {T : List Block} (hT : [Block.sbu, .pcc].all T.contains = true) :
    Only T s (firstReadings rail temp s).1 := by
  refine Only.mono (T := [.sbu, .pcc]) ?_ hT
  unfold Only firstReadings
  (try dsimp only)
  (repeat' split)
  all_goals first | rfl | (simp (disch := decide) only [↓takeRail_only]; done) | (simp (disch := decide) only [↓takeRail_only]; rfl)

theorem dockAtReset_only (s : State) {T : List Block} (hT : [Block.dlc, .fbf].all T.contains = true) :
    Only T s (dockAtReset s).1 := by
  refine Only.mono (T := [.dlc, .fbf]) ?_ hT
  unfold Only dockAtReset
  repeat' split
  all_goals simp (disch := decide) only [quiet_fst, ↓presenceAsserted_only]

theorem penAtReset_only (s : State) {T : List Block} (hT : [Block.sbu, .pcc].all T.contains = true) :
    Only T s (penAtReset s).1 := by
  refine Only.mono (T := [.sbu, .pcc]) ?_ hT
  unfold Only penAtReset
  repeat' split
  all_goals rfl

theorem endReset_only (rail temp : Int) (s : State) {T : List Block} (hT : [Block.hau, .pcl, .dlc, .fbf, .sbu, .pcc].all T.contains = true) :
    Only T s (endReset rail temp s).1 := by
  refine Only.mono (T := [.hau, .pcl, .dlc, .fbf, .sbu, .pcc]) ?_ hT
  unfold Only endReset
  simp (disch := decide) only [andThen_fst, ↓postureChoose_only, ↓hauAtReset_only, ↓firstReadings_only, ↓dockAtReset_only, ↓penAtReset_only]

theorem fullResetBlocks_only (cause : ResetCause) (sib : Sib) (s : State) {T : List Block} (hT : [Block.sib, .hau, .oru, .pcl, .dlc, .igt, .fbf, .sbu, .pcc, .spu, .psc, .ulp, .par, .ms].all T.contains = true) :
    Only T s (fullResetBlocks cause sib s) := by
  refine Only.mono (T := [.sib, .hau, .oru, .pcl, .dlc, .igt, .fbf, .sbu, .pcc, .spu, .psc, .ulp, .par, .ms]) ?_ hT
  unfold Only fullResetBlocks
  rfl

theorem softResetBlocks_only (s : State) {T : List Block} (hT : [Block.sib, .hau, .oru, .pcl, .dlc, .igt, .fbf, .sbu, .pcc, .spu, .psc, .ulp, .par, .ms].all T.contains = true) :
    Only T s (softResetBlocks s) := by
  refine Only.mono (T := [.sib, .hau, .oru, .pcl, .dlc, .igt, .fbf, .sbu, .pcc, .spu, .psc, .ulp, .par, .ms]) ?_ hT
  unfold Only softResetBlocks
  rfl

theorem hardReset_only (cause : ResetCause) (r : ResetSense) (s : State) {T : List Block} (hT : [Block.sib, .hau, .oru, .pcl, .dlc, .igt, .fbf, .sbu, .pcc, .spu, .psc, .ulp, .par, .ms].all T.contains = true) :
    Only T s (hardReset cause r s).1 := by
  refine Only.mono (T := [.sib, .hau, .oru, .pcl, .dlc, .igt, .fbf, .sbu, .pcc, .spu, .psc, .ulp, .par, .ms]) ?_ hT
  unfold Only hardReset
  simp (disch := decide) only [↓endReset_only, ↓fullResetBlocks_only]

theorem fullReset_only (rail temp : Int) (s : State) {T : List Block} (hT : [Block.sib, .hau, .oru, .pcl, .dlc, .igt, .fbf, .sbu, .pcc, .spu, .psc, .ulp, .par, .ms].all T.contains = true) :
    Only T s (fullReset rail temp s).1 := by
  refine Only.mono (T := [.sib, .hau, .oru, .pcl, .dlc, .igt, .fbf, .sbu, .pcc, .spu, .psc, .ulp, .par, .ms]) ?_ hT
  unfold Only fullReset
  repeat' split
  all_goals simp (disch := decide) only [quiet_fst, ↓endReset_only, ↓fullResetBlocks_only]

theorem softReset_only (rail temp : Int) (s : State) {T : List Block} (hT : [Block.sib, .hau, .oru, .pcl, .dlc, .igt, .fbf, .sbu, .pcc, .spu, .psc, .ulp, .par, .ms].all T.contains = true) :
    Only T s (softReset rail temp s).1 := by
  refine Only.mono (T := [.sib, .hau, .oru, .pcl, .dlc, .igt, .fbf, .sbu, .pcc, .spu, .psc, .ulp, .par, .ms]) ?_ hT
  unfold Only softReset
  repeat' split
  all_goals simp (disch := decide) only [quiet_fst, ↓endReset_only, ↓softResetBlocks_only]

end Sys2Proof.Machine
end

