-- ==== Sys2Proof/Laws/Handle.lean ====
section
/-! SUPPORT. The frame of a command's execution, and of every handover: no handover touches the time or the queue of commands, and only a command of the host touches the switch inputs and the parameters. -/

namespace Sys2Proof.Machine

theorem runCommand_only (platform : Bool) (seq : Nat) (time : Stamp) (p : List Byte) (s : State) {T : List Block}
    (hT : [Block.sib, .hau, .oru, .pcl, .dlc, .igt, .fbf, .sbu, .pcc, .spu, .ulp, .par].all T.contains = true) :
    Only T s (runCommand platform seq time p s).act.1 := by
  refine Only.mono (T := [.sib, .hau, .oru, .pcl, .dlc, .igt, .fbf, .sbu, .pcc, .spu, .ulp, .par]) ?_ hT
  unfold Only runCommand
  dsimp only
  split <;>
    simp (disch := decide) only [plainResult, ↓echoResult_only, ↓tableWriteResult_only, ↓tableReadResult_only,
      ↓hitsClear_only, ↓configSetResult_only, ↓configGetResult_only, ↓readResult_only, ↓reportEnableResult_only,
      ↓dockStepResult_only, ↓dockAutoResult_only, ↓passdownCommand_only, ↓gateRescan_only, ↓gateFlush_only,
      ↓rotationLockResult_only, ↓chargeControlResult_only, ↓hostStateCommand_only, ↓policyUnlock_only,
      ↓forceModeCommand_only, ↓areaMapResult_only, ↓areaClearCommand_only, ↓accessSetResult_only,
      ↓accessFreezeResult_only, ↓partResetResult_only]

theorem executeFrame_only (f : RxFrame) (s : State) {T : List Block}
    (hT : [Block.sib, .hau, .oru, .pcl, .dlc, .igt, .fbf, .sbu, .pcc, .spu, .ulp, .par].all T.contains = true) :
    Only T s (executeFrame f s).1 := by
  refine Only.mono (T := [.sib, .hau, .oru, .pcl, .dlc, .igt, .fbf, .sbu, .pcc, .spu, .ulp, .par]) ?_ hT
  unfold Only executeFrame commandResult
  dsimp only
  split
  · rfl
  · split
    · exact runCommand_only _ _ _ _ _ (by decide)
    · exact runCommand_only _ _ _ _ _ (by decide)

theorem serveQueue_only (s : State) {T : List Block}
    (hT : [Block.sib, .hau, .oru, .pcl, .dlc, .igt, .fbf, .sbu, .pcc, .spu, .ulp, .par].all T.contains = true) :
    Only T s (serveQueue s).1 := by
  refine Only.mono (T := [.sib, .hau, .oru, .pcl, .dlc, .igt, .fbf, .sbu, .pcc, .spu, .ulp, .par]) ?_ hT
  unfold Only serveQueue
  repeat' split
  all_goals first | rfl | exact executeFrame_only _ _ (by decide)

/-- With no command waiting, serving the slot and the queue touches the ULP only. -/
theorem serveQueue_idle_only (s : State) (h : s.ulp.queue = []) {T : List Block}
    (hT : [Block.ulp].all T.contains = true) : Only T s (serveQueue s).1 := by
  refine Only.mono (T := [.ulp]) ?_ hT
  unfold Only serveQueue
  rw [h]
  repeat' split
  all_goals first | rfl | simp_all

/-- Every handover leaves the time and the queue of commands. -/
theorem handle_only (g : Signal) (s : State) {T : List Block}
    (hT : [Block.sib, .hau, .oru, .pcl, .dlc, .igt, .fbf, .sbu, .pcc, .spu, .psc, .ulp, .par].all T.contains = true) :
    Only T s (handle g s).1 := by
  refine Only.mono (T := [.sib, .hau, .oru, .pcl, .dlc, .igt, .fbf, .sbu, .pcc, .spu, .psc, .ulp, .par]) ?_ hT
  cases g <;> unfold Only <;> dsimp only [handle]
  case pccGarage a =>
    cases a <;> simp (disch := decide) only [Bool.false_eq_true, if_false, if_true, ↓penInserted_only, ↓penRemoved_only]
  all_goals
    simp (disch := decide) only [↓composeReport_only, ↓offerOverflow_only, ↓spaceEvent_only, ↓arbiterChoice_only,
      ↓receiveFrame_only, ↓serveQueue_only, ↓commandReply_only, ↓beginHold_only, ↓endHold_only, ↓hallChange_only,
      ↓orientEvaluate_only, ↓orientCommit_only, ↓hingeAtSample_only, ↓mirrorSample_only, ↓postureEvaluate_only,
      ↓postureCommit_only, ↓gateCommit_only, ↓spuEvaluate_only, ↓wakeRequest_only, ↓spuAction_only, ↓cutAssert_only,
      ↓dockRequest_only, ↓hauDockNotice_only, ↓pclDockNotice_only, ↓gateDeparture_only, ↓standbyRecheck_only,
      ↓grantApplied_only, ↓dlcPresence_only, ↓dockRevoked_only, ↓dockRelease_only, ↓powerRequest_only, ↓beginStep_only,
      ↓walkNext_only, ↓servePower_only, ↓openDue_only, ↓beginRecovery_only, ↓limitAfterWrite_only, ↓headStep_only, ↓gateRoute_only, ↓headAdmit_only,
      ↓holdCheck_only, ↓hostChanged_only, ↓deferredRecheck_only, ↓wakeEvent_only, ↓levelConditions_only,
      ↓dozeCheck_only]

/-- Every handover but the service of a waiting command leaves the switch inputs and the parameters too. -/
theorem handle_idle_only (g : Signal) (s : State) (h : g = .serve → s.ulp.queue = []) {T : List Block}
    (hT : [Block.hau, .oru, .pcl, .dlc, .igt, .fbf, .sbu, .pcc, .spu, .psc, .ulp].all T.contains = true) :
    Only T s (handle g s).1 := by
  refine Only.mono (T := [.hau, .oru, .pcl, .dlc, .igt, .fbf, .sbu, .pcc, .spu, .psc, .ulp]) ?_ hT
  cases g <;> unfold Only <;> dsimp only [handle]
  case serve => exact serveQueue_idle_only s (h rfl) (by decide)
  case pccGarage a =>
    cases a <;> simp (disch := decide) only [Bool.false_eq_true, if_false, if_true, ↓penInserted_only, ↓penRemoved_only]
  all_goals
    simp (disch := decide) only [↓composeReport_only, ↓offerOverflow_only, ↓spaceEvent_only, ↓arbiterChoice_only,
      ↓receiveFrame_only, ↓commandReply_only, ↓beginHold_only, ↓endHold_only, ↓hallChange_only,
      ↓orientEvaluate_only, ↓orientCommit_only, ↓hingeAtSample_only, ↓mirrorSample_only, ↓postureEvaluate_only,
      ↓postureCommit_only, ↓gateCommit_only, ↓spuEvaluate_only, ↓wakeRequest_only, ↓spuAction_only, ↓cutAssert_only,
      ↓dockRequest_only, ↓hauDockNotice_only, ↓pclDockNotice_only, ↓gateDeparture_only, ↓standbyRecheck_only,
      ↓grantApplied_only, ↓dlcPresence_only, ↓dockRevoked_only, ↓dockRelease_only, ↓powerRequest_only, ↓beginStep_only,
      ↓walkNext_only, ↓servePower_only, ↓openDue_only, ↓beginRecovery_only, ↓limitAfterWrite_only, ↓headStep_only, ↓gateRoute_only, ↓headAdmit_only,
      ↓holdCheck_only, ↓hostChanged_only, ↓deferredRecheck_only, ↓wakeEvent_only, ↓levelConditions_only,
      ↓dozeCheck_only]

/-- No command's cascade touches the time or the queue of commands. -/
theorem settle_only (a : Act) {T : List Block}
    (hT : [Block.sib, .hau, .oru, .pcl, .dlc, .igt, .fbf, .sbu, .pcc, .spu, .psc, .ulp, .par].all T.contains = true) :
    Only T a.1 (settle a) :=
  cascade_inv (fun s => Only T a.1 s) (fun g s h => h.trans (handle_only g s hT)) _ _ _ (Only.refl _ _)

end Sys2Proof.Machine
end

