-- ==== Sys2Proof/Tests/Slice0.lean ====
section
/-! SUPPORT. The model's own tests: ill-formed commands, one small step for the commands, and for each statement a state and operands that meet its hypotheses. -/

namespace Sys2Proof.Tests

open Sys2Proof.Machine

/-! ### Helpers -/

/-- The state that a command leads to. -/
def after (c : Instr) (s : State) : State :=
  match exec c s with
  | .next t => t
  | .fault _ => s
  | .refused _ => s

/-- The identification that the tests use: 04 4.10, "Attach of a keyboard". -/
def kbd : Ident := ⟨.keyboardTouchpad, 3, 400, 20, some .normal, 7, true⟩

def dockIn (st : DockState) : Dlc := { Dlc.atReset with state := st, base := some (.keyboard kbd), basePower := true }

/-- A keyboard in a dock state, with its grant. -/
def docked (st : DockState) : State :=
  { State.reset with dlc := dockIn st, sbu := { State.reset.sbu with requested := 400, grant := 400 } }

/-- A POLL slot in progress in ACTIVE. -/
def polling : State :=
  { docked .active with dlc := { dockIn .active with slot := some ⟨headPoll, []⟩, slotTimer := some 8 } }

def keyFrame (code : Nat) (up : Bool) : List Byte := DockFrame.bytes ⟨0x21, [byte code, if up then 1 else 0]⟩

/-- The line is free. -/
def idleLine (s : State) : State := { s with ulp := { s.ulp with line := none } }

def withPar (s : State) (f : Params → Params) : State := { s with par := f s.par }

def inPower (p : PowerState) (s : State) : State := { s with psc := { s.psc with power := p } }

def inPhase (p : Phase) : State :=
  { State.reset with pcc := { State.reset.pcc with phase := p, measTimer := some 100 } }

def hostIn (h : HostState) : State := { State.reset with spu := { State.reset.spu with host := h } }

def wakeWaits (h : HostState) : State :=
  { hostIn h with spu := { (hostIn h).spu with pendingWake := some .key } }

def replied (s : State) : Option (List Byte) := s.ulp.slot.map Reply.payload

/-! ### Ill-formed commands: one for each check -/

theorem test_ill_formed_readings :
    Instr.wellFormed (.lidSampleEvent 32768 0 0) = false ∧ Instr.wellFormed (.railReading (-32769)) = false ∧
      Instr.wellFormed (.temperatureReading 40000) = false ∧ Instr.wellFormed (.measurementEvent 0 40000) = false ∧
      Instr.wellFormed (.settleTimerExpiry ⟨0, 0, 0, 40000⟩) = false := by decide

theorem test_ill_formed_resets :
    Instr.wellFormed (.powerOnReset ⟨⟨true, true, true, false⟩, 32768, 25⟩) = false ∧
      Instr.wellFormed (.brownoutReset ⟨⟨true, true, true, false⟩, 0, 32768⟩) = false ∧
      Instr.wellFormed (.pinReset ⟨⟨true, true, true, false⟩, 32768, 0⟩) = false ∧
      Instr.wellFormed (.fullReset 32768 0) = false ∧ Instr.wellFormed (.softReset 0 (-32769)) = false := by decide

theorem test_ill_formed_bytes :
    Instr.wellFormed (.dockAnswer [0x25, 0]) = false ∧ Instr.wellFormed (.dockAnswer (List.replicate 20 0)) = false ∧
      Instr.wellFormed (.commandFrameReceived [0xA5, 1, 5, 0]) = false ∧
      Instr.wellFormed (.commandFrameReceived (List.replicate 66 0)) = false ∧
      Instr.wellFormed (.uplinkFrameDiscard [] false) = false ∧
      Instr.wellFormed (.uplinkFrameDiscard (List.replicate 66 0) true) = false := by decide

theorem test_ill_formed_fields :
    Instr.wellFormed (.tableWritePosture 0 0 (List.replicate 58 0)) = false ∧
      Instr.wellFormed (.tableWriteGateDir 0 0 (List.replicate 58 0)) = false ∧
      Instr.wellFormed (.tableWriteGateEntry 0 0 (List.replicate 58 0)) = false ∧
      Instr.wellFormed (.tableWriteSleepRule 0 0 (List.replicate 58 0)) = false ∧
      Instr.wellFormed (.tableWriteChargeProfile 0 0 (List.replicate 58 0)) = false ∧
      Instr.wellFormed (.passdown 0 (List.replicate 60 0)) = false ∧
      Instr.wellFormed (.areaMap 0 (List.replicate 9 0)) = false := by decide

theorem test_well_formed :
    Instr.wellFormed (.dockAnswer [0x25, 0, 0]) = true ∧ Instr.wellFormed (.lidSampleEvent 32767 (-32768) 0) = true ∧
      Instr.wellFormed (.passdown 0 (List.replicate 59 0)) = true ∧ Instr.wellFormed .dockAttention = true := by decide

/-! ### Computations, against the manual's worked examples -/

/-- 11.9, "An ECHO frame". -/
theorem test_echo_frame : frameBytes 5 [1] = [0xA5, 0x01, 0x05, 0x01, 0x01, 0xC4] := by decide +kernel

/-- 01 1.10, "A smoothing step". -/
theorem test_smoothing : smoothAxis 2 960 970 = 962 ∧ smoothAxis 2 356 330 = 350 := by decide

/-- 01 1.10, "The hinge angle at a good sample". -/
theorem test_hinge_angle :
    psi 40 1010 = 1405 ∧ psi 962 350 = 319 ∧ rawAngle 319 1405 2880 = 1794 ∧ continuity (some 1780) 1794 = 1794 := by
  decide

/-- 01 1.10, "Saturation beyond the fold". -/
theorem test_saturation :
    psi 72 (-1000) = 4384 ∧ psi (-28) 1000 = 1464 ∧ rawAngle 4384 1464 2880 = 40 ∧ continuity (some 5700) 40 = 5760 := by
  decide

/-- 02 2.8, the orientation angles. -/
theorem test_orientation_angles :
    psi 800 600 = 590 ∧ psi 350 900 = 1102 ∧ psi 1000 0 = 0 ∧ magnitude 200 60 = 230 ∧ psi 400 300 = 590 := by decide

/-- 02 2.8, at 0, 1400 and 1350 ms: the core rule keeps LANDSCAPE at 590, the nearest rule gives it, 340 keeps the flag. -/
theorem test_orientation_rules :
    coreClass 240 590 .landscape = .landscape ∧ coreClass 240 590 .flatUp = .flatUp ∧ nearestClass 590 = .landscape ∧
      flatTest 300 true 340 = true ∧ flatTest 300 false 340 = false ∧ coreClass 240 1102 .landscape = .portrait := by
  decide

/-- 07 7.10, "Thermal derate", and the sag of 7.10. -/
theorem test_derate_and_rail :
    derated Params.default 52 150 = 80 ∧ derated Params.default 57 150 = 30 ∧ derated Params.default 60 150 = 0 ∧
      RailState.next Params.default 4520 .normal = .warn ∧ RailState.next Params.default 4420 .shed = .shed ∧
      RailState.next Params.default 4460 .shed = .warn ∧ RailState.next Params.default 4640 .warn = .warn ∧
      RailState.next Params.default 4660 .warn = .normal := by decide

/-- 06 6.6, "Remapping the buffer at bring-up": the first map is refused, the second accepted with Hold raised to 96. -/
theorem test_area_maps :
    (adjustMap ⟨⟨0, 1024⟩, ⟨1024, 64⟩, ⟨1088, 2496⟩, ⟨3584, 512⟩, ⟨0, 0⟩⟩).valid = false ∧
      (adjustMap ⟨⟨0, 1024⟩, ⟨1024, 64⟩, ⟨1120, 2464⟩, ⟨3584, 512⟩, ⟨0, 0⟩⟩).valid = true ∧
      (adjustMap ⟨⟨0, 1024⟩, ⟨1024, 64⟩, ⟨1120, 2464⟩, ⟨3584, 512⟩, ⟨0, 0⟩⟩).hold = ⟨1024, 96⟩ := by decide

/-- 11.8, IDENT: class KEYBOARD_TOUCHPAD, revision 3, 400 and 20 mA, tilt present and ROTATED, touchpad, layout 17 (04 4.10). -/
theorem test_ident_payload :
    parsePayload 0x20 [2, 3, 0x90, 1, 20, 7, 17, 0, 0, 0, 0, 0] =
      some (.ident ⟨.keyboardTouchpad, 3, 400, 20, some .rotated, 17, true⟩) := by decide

/-! ### One step of the commands -/

/-- R1: GARAGE goes low, its default debounce time is 50 ms; the run ends ASSERTED. -/
theorem test_raw_change : (after (.rawChange .garage false) State.reset).sib.garage = ⟨false, false, some 50⟩ := by decide

/-- R16, R22: a debounced LID assertion forces angle 0. -/
theorem test_debounce_expiry :
    (after (.debounceExpiry .lid) (after (.rawChange .lid false) State.reset)).hau.hinge = ⟨some 0, .hall, 0⟩ := by decide

/-- R10: the first lid sample loads the filter. -/
theorem test_lid_sample : (after (.lidSampleEvent 9000 (-5) 330) State.reset).hau.lid = some ⟨8191, -5, 330⟩ := by decide

/-- R30. -/
theorem test_orient_dwell :
    (after .orientDwellExpiry
        { State.reset with oru := ⟨.landscape, some .portrait, some 300, false, false, some 1102⟩ }).oru =
      ⟨.portrait, some .portrait, none, false, false, some 1102⟩ := by decide

/-- R46, 3.9: after a power-on without a base, SLATE (7) is committed 120 ms later. -/
theorem test_posture_dwell :
    (after .postureDwellExpiry State.reset).pcl.code = 7 ∧ (after .postureDwellExpiry State.reset).pcl.stamp = 120 := by decide

/-- R54. -/
theorem test_restart_hold :
    (after .restartHoldExpiry { State.reset with pcl := { State.reset.pcl with restart := some 1 } }).pcl.restart = none := by
  decide

/-- 04 4.10 at 50 ms: the AUTO policy begins ATTACH. -/
theorem test_dock_settle :
    (after .settleTimerDockExpiry
        { State.reset with dlc := { Dlc.atReset with state := .settling, settle := some 50 } }).dlc.state = .identifying := by
  decide

/-- R60: a frame of the Passdown area goes before a POLL. -/
theorem test_poll_period :
    (after .pollPeriodExpiry
        { docked .active with
          dlc := { dockIn .active with slotTimer := some 8 }, fbf := { State.reset.fbf with passdown := [⟨.passdown, [7]⟩] } }).dlc.slot =
      some ⟨headPassdown, [7]⟩ := by decide

/-- 04 4.10: the second IDENT_REQ at 60 ms. -/
theorem test_ident_attempt :
    (after .identAttemptOpen
        { State.reset with dlc := { Dlc.atReset with state := .identifying, attemptTimer := some 10, attempts := 1 } }).dlc.slot =
      some ⟨headIdentReq, []⟩ := by decide

/-- R59, R88: a new press under the default directory (PASS) enters the Input area and the keys-down set. -/
theorem test_dock_answer_key :
    (after (.dockAnswer (keyFrame 40 false)) polling).fbf.input = [⟨.key, [40, 0]⟩] ∧
      (after (.dockAnswer (keyFrame 40 false)) polling).igt.keys = [40] := by decide +kernel

/-- R93: the wake request of a WAKE goes before its frame, which then waits in the Input area under the hold. -/
theorem test_wake_before_frame :
    let s : State :=
      { idleLine polling with
        igt := { State.reset.igt with dir := ⟨true, false, .wake, 0, 0⟩ :: State.reset.igt.dir.tail }
        spu := { State.reset.spu with host := .entering, compliance := some 20000 } }
    (after (.dockAnswer (keyFrame 40 false)) s).spu.host = .waking ∧
      (after (.dockAnswer (keyFrame 40 false)) s).ulp.line = none ∧
      (after (.dockAnswer (keyFrame 40 false)) s).fbf.input = [⟨.key, [40, 0]⟩] := by decide +kernel

/-- R69: with a grant of 400 mA the limit is 500: 520 mA counts, 500 clears the run. -/
theorem test_dock_answer_stat :
    (after (.dockAnswer (DockFrame.bytes ⟨0x24, [0, 0x08, 2]⟩)) polling).dlc.overdraw = 1 ∧
      (after (.dockAnswer (DockFrame.bytes ⟨0x24, [0, 0xF4, 1]⟩)) polling).dlc.overdraw = 0 := by decide +kernel

/-- 04 4.10, "A recovery that succeeds", at 1008 ms. -/
theorem test_answer_stopped_short :
    (after .answerStoppedShort { polling with dlc := { polling.dlc with missed := 1 } }).dlc.missed = 2 := by decide

/-- 04 4.10, "A recovery that succeeds", at 1016 ms: IDENTIFYING with the recovery mark, grant 400. -/
theorem test_answer_window :
    (after .answerWindowExpiry { polling with dlc := { polling.dlc with missed := 2 } }).dlc.recov = true ∧
      (after .answerWindowExpiry { polling with dlc := { polling.dlc with missed := 2 } }).sbu.grant = 400 := by decide

/-- R66: the ready timer faults the dock with cause POWER. -/
theorem test_ready_timer :
    (after .readyTimerExpiry
        { docked .powering with dlc := { dockIn .powering with ready := some 200, step := some .power } }).dlc.cause =
      some .power := by decide

/-- R182: an attention in STANDBY starts SETTLE. -/
theorem test_dock_attention : (after .dockAttention (inPower .standby (docked .quiesced))).psc.power = .settle := by decide

/-- R79: the walk goes on with its next step. -/
theorem test_walk_step_resume :
    (after .walkStepResume { docked .active with dlc := { dockIn .active with walk := some ⟨.quiesce, .psc⟩ } }).dlc.step =
      some .quiesce := by decide

/-- R80. -/
theorem test_power_request_serve :
    (after .powerRequestServe { docked .quiesced with dlc := { dockIn .quiesced with powerReq := some .wake } }).dlc.state =
      .waking := by decide

/-- R129, 07 7.10, "Lowering the pen to power a base". -/
theorem test_pending_grant :
    (after .pendingGrantApply
        { State.reset with sbu := { State.reset.sbu with requested := 400, grant := 50, pending := true } }).sbu.grant =
      400 := by decide

/-- R129: a request above B_total, itself the grant, is capped. -/
theorem test_capped_request :
    let s : State :=
      { State.reset with
        sbu := { State.reset.sbu with requested := 100, grant := 50, pending := true }, par := { Params.default with bTotal := 50 } }
    (after .pendingGrantApply s).sbu.capped = true ∧ (after .pendingGrantApply s).sbu.grant = 50 ∧
      (after .pendingGrantApply s).sbu.pending = false := by decide

/-- R101: an expiry that empties Hold leaves a paused rescan paused. -/
theorem test_expiry_keeps_pause :
    (after .holdExpiry
        { State.reset with
          igt := { State.reset.igt with head := .rescanPaused }, fbf := { State.reset.fbf with hold := [⟨.press 60, false, 0⟩] } }).igt.head =
      .rescanPaused := by decide

/-- R102, 05 5.8, "the user stays in STAND" with the pressed key alone: the head leaves at its hold limit. -/
theorem test_hold_expiry :
    (after .holdExpiry { State.reset with fbf := { State.reset.fbf with hold := [⟨.press 60, false, 0⟩] } }).fbf.hold = [] ∧
      (after .holdExpiry { State.reset with fbf := { State.reset.fbf with hold := [⟨.press 60, false, 0⟩] } }).ms = 500 := by
  decide

/-- 06 6.6, "Clearing an Input area that has fallen behind": the pending release enters. -/
theorem test_space_event :
    (after .spaceEvent { State.reset with igt := { State.reset.igt with keys := [42], pend := [⟨42, .base⟩] } }).fbf.input =
      [releaseFrame 42] := by decide

/-- R108. -/
theorem test_idle_timer : (after .idleTimerIncrement State.reset).igt.idle = 1 := by decide

/-- 07 7.10, "A sag that ends in revocation", at 2 ms. -/
theorem test_rail_reading :
    (after (.railReading 4380) State.reset).sbu.railState = .shed ∧
      (after (.railReading 4380) State.reset).sbu.shed = some 10 := by decide

/-- 07 7.10, at 19 ms: FAULTED with cause SUPPLY. -/
theorem test_shed_timer :
    (after .shedTimerExpiry { docked .active with sbu := { (docked .active).sbu with railState := .shed, shed := some 1 } }).dlc.cause =
      some .supply := by decide

/-- R69: the revocation changes the grant, which clears the overdraw run. -/
theorem test_revocation_clears_overdraw :
    (after .shedTimerExpiry
        { docked .active with
          dlc := { dockIn .active with overdraw := 2 }, sbu := { (docked .active).sbu with railState := .shed, shed := some 1 } }).dlc.overdraw =
      0 := by decide

/-- R127: the clamp. -/
theorem test_temperature : (after (.temperatureReading 200) State.reset).sbu.temp = 125 := by decide

/-- 08 8.10: 3450 mV in PROBE gives BULK, cycle 1. -/
theorem test_measurement :
    (after (.measurementEvent 3450 0) (inPhase .probe)).pcc.phase = .bulk ∧
      (after (.measurementEvent 3450 0) (inPhase .probe)).pcc.cycles = 1 := by decide

/-- R150. -/
theorem test_phase_limit :
    (after .phaseLimitExpiry { inPhase .bulk with pcc := { (inPhase .bulk).pcc with penSet := 150, timer := 7199999 } }).pcc.cause =
      some .bulkTimeout := by decide

/-- R163: ADVISE_SLEEP in RUNNING. -/
theorem test_sleep_dwell :
    (after .sleepDwellExpiry
        { State.reset with
          spu := { State.reset.spu with governing := some 0, dwell := some 1, rules := [⟨true, 0xFFFF, 7, .any, .any, 0, none, 1, .adviseSleep⟩] } }).spu.host =
      .advised := by decide

/-- R166: the host state falls back. -/
theorem test_wake_timer :
    (after .wakeTimerExpiry
        { hostIn .waking with
          spu := { (hostIn .waking).spu with before := some .off, wakeTimer := some 1, wakeReq := true, wakeSrc := some .key } }).spu.host =
      .off := by decide

/-- 09 9.10 at 43120 ms: OFF and the cut. -/
theorem test_compliance :
    (after .complianceExpiry
        { hostIn .entering with spu := { (hostIn .entering).spu with compliance := some 1, stage := 2 } }).spu.host =
      .off := by decide

/-- R169: the pulse of 4000 ms. -/
theorem test_cut_wait :
    (after .cutWaitExpiry { hostIn .off with spu := { (hostIn .off).spu with cutStage := .wait, cutTimer := some 1 } }).spu.cutTimer =
      some 4000 := by decide

/-- 09 9.10 at 47121 ms. -/
theorem test_cut_pulse :
    (after .cutPulseExpiry
        { hostIn .off with spu := { (hostIn .off).spu with cutStage := .pulse, cutTimer := some 1, pwrCut := true } }).spu.pwrCut =
      false := by decide

/-- R170: the wake that waited. -/
theorem test_pending_wake :
    (after .pendingWakeServe { hostIn .off with spu := { (hostIn .off).spu with pendingWake := some .key } }).spu.wakeReq =
      true := by decide

/-- R171: the window closes 100 ms after its frame. -/
theorem test_unlock_timeout :
    (after .unlockWindowTimeout { State.reset with spu := { State.reset.spu with unlock := some ⟨0, 0⟩ } }).spu.unlock = none := by
  decide

/-- R178. -/
theorem test_doze_timer :
    (after .dozeTimerExpiry { hostIn .sleeping with psc := { State.reset.psc with doze := some 1 } }).psc.power = .doze := by
  decide

/-- R181. -/
theorem test_standby_timer :
    (after .standbyTimerExpiry { hostIn .off with psc := { State.reset.psc with power := .doze, standby := some 1 } }).psc.power =
      .standby := by decide

/-- R181: the entry that was deferred. -/
theorem test_deferred_standby :
    (after .deferredStandbyEntry { hostIn .off with psc := { State.reset.psc with power := .doze, deferred := true } }).psc.power =
      .standby := by decide

/-- R184. -/
theorem test_settle_timer :
    (after (.settleTimerExpiry ⟨5000, 25, 0, 0⟩)
        { State.reset with psc := { State.reset.psc with power := .settle, settle := some 4 } }).psc.power = .run := by decide

/-- R184: the first falling edge. -/
theorem test_uplink_activity :
    (after .uplinkActivity (inPower .standby State.reset)).psc.wakeCause = some .uplink := by decide

/-- 11.9, "An ECHO frame": received, its reply waits behind START. -/
theorem test_command_frame :
    (after (.commandFrameReceived [0xA5, 0x01, 0x05, 0x01, 0x01, 0xC4]) State.reset).ulp.slot.map
        (fun r => (r.ct, r.payload.take 5)) =
      some (5, [1, 0, 6, 0x6C, 0x02]) := by decide +kernel

/-- 11.9: with 0x45 in the third byte the CHECK differs. -/
theorem test_frame_discard :
    (after (.uplinkFrameDiscard [0xA5, 0x01, 0x45, 0x01, 0x01, 0xC4] false) State.reset).ulp.slot = none ∧
      (after (.uplinkFrameDiscard [0xA5, 0x01, 0x45, 0x01, 0x01, 0xC4] false) State.reset).spu.rxSeq = 0 := by decide +kernel

theorem test_interbyte :
    (after .interbyteTimeout { State.reset with ulp := { State.reset.ulp with rx := [0xA5, 1] } }).ulp.rx = [] := by decide

/-- 11.9, "A burst of commands under load": the line takes the reply slot. -/
theorem test_transmit_end :
    (after .frameTransmitEnd { State.reset with ulp := { State.reset.ulp with slot := some ⟨5, [1, 0], none⟩ } }).ulp.line =
      some ⟨.reply, 5, [1, 0], none⟩ := by decide

/-- R200. -/
theorem test_overflow_report :
    (after .overflowReport { State.reset with ulp := { State.reset.ulp with lost := 3 } }).fbf.report =
      [⟨.report, [21, 0, 0, 0, 0, 3]⟩] := by decide

/-- R202: the cause of START. -/
theorem test_resets :
    (after (.brownoutReset ⟨⟨true, true, true, false⟩, 5000, 25⟩) State.reset).ulp.cause = .brownout ∧
      (after (.pinReset ⟨⟨true, true, false, false⟩, 5000, 25⟩) State.reset).pcc.phase = .probe := by decide

theorem test_commanded_resets :
    (after (.fullReset 5000 25) { State.reset with ulp := { State.reset.ulp with resetDue := some .full } }).ulp.cause =
        .fullCommand ∧
      (after (.softReset 5000 25) { State.reset with ulp := { State.reset.ulp with resetDue := some .soft } }).ulp.retained =
        true := by decide

/-- R39: a row with angle low above angle high. -/
theorem test_write_posture :
    replied (after (.tableWritePosture 0 0 [1, 100, 0, 50, 0, 1, 0x11]) State.reset) = some [2, 3] ∧
      (after (.tableWritePosture 0 2 [1, 50, 0, 100, 0, 1, 0x12]) State.reset).pcl.table[2]? =
        some ⟨true, 50, 100, 1, 2, 1⟩ := by decide

/-- 05 5.8: STAND with HOLD and release-on-entry. -/
theorem test_write_gate_dir :
    (after (.tableWriteGateDir 0 4 [3, 2, 0, 2]) State.reset).igt.dir[4]? = some ⟨true, true, .hold, 0, 2⟩ := by decide

/-- 05 5.8: entry 0 passes 30 and 31. -/
theorem test_write_gate_entry :
    (after (.tableWriteGateEntry 0 0 [0, 30, 31, 0, 0, 9]) State.reset).igt.entries[0]? =
      some ⟨.key, 30, 31, .pass, false, 0⟩ := by decide

/-- 09 9.10: rule 0. -/
theorem test_write_sleep_rule :
    (after (.tableWriteSleepRule 0 0 [1, 2, 0, 6, 1, 0, 0, 0, 0, 0, 0xD0, 7, 0]) State.reset).spu.rules[0]? =
      some ⟨true, 2, 6, .closed, .any, 0, none, 2000, .adviseSleep⟩ := by decide

/-- 08 8.10: the bulk limit of 62 minutes; the DRIVER channel is DENIED. -/
theorem test_write_profile :
    (after (.tableWriteChargeProfile 0 0 { Profile.default with bulkLimit := 62 }.bytes) State.reset).pcc.profile.bulkLimit = 62 ∧
      replied (after (.tableWriteChargeProfile 0x40 0 Profile.default.bytes) State.reset) = some [2, 2] := by decide

/-- R195: the entry's bytes. -/
theorem test_table_read :
    replied (after (.tableRead 0 0 2) State.reset) = some [3, 0, 0, 2, 1, 160, 0, 0x50, 0x0A, 63, 0x22] := by decide

theorem test_hits_clear : replied (after (.hitsClear 0 127 2) State.reset) = some [4, 3] := by decide

/-- R195: the hysteresis margin is clamped to 480, ADJUSTED. -/
theorem test_config_set :
    (after (.configSet 0 24 500) State.reset).par.hysteresis = 480 ∧
      replied (after (.configSet 0 24 500) State.reset) = some [5, 1, 24, 0xE0, 1, 0, 0] := by decide

theorem test_config_get : replied (after (.configGet 0 25) State.reset) = some [6, 0, 25, 120, 0, 0, 0] := by decide

theorem test_status_read_range : replied (after (.statusRead 0 200 0) State.reset) = some [7, 3] := by decide

/-- R199. -/
theorem test_report_enable : (after (.reportEnable 0 0x1FFFFE) State.reset).ulp.mask = 0x1FFFFE#21 := by decide

theorem test_dock_steps :
    (after (.dockStepIdentify 0) { State.reset with dlc := { Dlc.atReset with state := .present } }).dlc.state = .identifying ∧
      (after (.dockStepPower 0) { State.reset with dlc := dockIn .identified }).dlc.state = .powering ∧
      (after (.dockStepQuiesce 0) (docked .active)).dlc.step = some .quiesce ∧
      (after (.dockStepWake 0) (docked .quiesced)).dlc.state = .waking ∧
      (after (.dockStepRelease 0) { State.reset with dlc := { dockIn .faulted with cause := some .supply } }).dlc.state = .present := by
  decide

theorem test_dock_auto :
    replied (after (.dockAuto 0 0) State.reset) = some [10, 4] ∧
      (after (.dockAuto 0 2) (docked .active)).dlc.walk = some ⟨.quiesce, .host⟩ := by decide

/-- R81. -/
theorem test_passdown :
    (after (.passdown 0 [1, 2]) (docked .active)).fbf.passdown = [⟨.passdown, [1, 2]⟩] ∧
      replied (after (.passdown 0 [1, 2]) (docked .quiesced)) = some [11, 4] := by decide

/-- 05 5.8 at 400 ms, the held press alone: judged under a passing directory. -/
theorem test_gate_rescan :
    (after (.gateRescan 0) { State.reset with fbf := { State.reset.fbf with hold := [⟨.press 60, false, 0⟩] } }).igt.keys = [60] := by
  decide

/-- R106: a decided head at which a drain had stopped drains at a GATE_FLUSH, the directory entry being present now. -/
theorem test_flush_drains :
    let s : State := { State.reset with fbf := { State.reset.fbf with hold := [⟨.press 60, true, 0⟩, ⟨.press 61, false, 0⟩] } }
    (after (.gateFlush 0) s).fbf.hold = [] ∧ (after (.gateFlush 0) s).igt.keys = [60] := by decide

theorem test_gate_flush :
    (after (.gateFlush 0) { State.reset with fbf := { State.reset.fbf with hold := [⟨.press 60, false, 0⟩] } }).fbf.hold = [] := by
  decide

/-- 02 2.8 at 900 ms. -/
theorem test_rotation_lock :
    (after (.rotationLock 0 0)
        { State.reset with oru := ⟨.portrait, some .landscape, none, true, false, some 0⟩ }).oru.committed = .landscape := by
  decide

/-- 08 8.10: START in FAULT. -/
theorem test_charge_start :
    (after (.chargeControlStart 0) { inPhase .fault with pcc := { (inPhase .fault).pcc with cause := some .bulkTimeout } }).pcc.phase =
        .probe ∧
      replied (after (.chargeControlStart 0) State.reset) = some [15, 4] := by decide

theorem test_charge_stop : (after (.chargeControlStop 0) (inPhase .bulk)).pcc.phase = .idleDocked := by decide

/-- 09 9.10 at 30000 ms, and a host that sleeps in time. -/
theorem test_host_state :
    (after (.hostState 0 1) (hostIn .running)).spu.host = .entering ∧
      (after (.hostState 0 2) (hostIn .entering)).spu.host = .sleeping := by decide

/-- R171: NOTIFY_ONLY through the window that the frame before opened. -/
theorem test_force_mode :
    (after (.forceMode 0 1) (after (.policyUnlock 0) (idleLine State.reset))).spu.forceMode = .notifyOnly ∧
      replied (after (.forceMode 0 1) State.reset) = some [18, 2] := by decide

/-- R171, R190: FORCE_MODE with a third value is RANGE and leaves the window open. -/
theorem test_force_mode_range :
    (after (.forceMode 0 2) { State.reset with spu := { State.reset.spu with unlock := some ⟨5, 0⟩ } }).spu.unlock = some ⟨5, 0⟩ ∧
      replied (after (.forceMode 0 2) State.reset) = some [18, 3] := by decide

/-- R165, R176: a HOST_STATE SLEEPING set free as WAKING begins runs after the move to WAKING, so its doze delay runs. -/
theorem test_queued_host_state :
    let s : State :=
      { wakeWaits .entering with
        ulp := { State.reset.ulp with queue := [⟨5, [16, 2], 1, 0⟩], slot := some ⟨5, [1, 0], none⟩ } }
    (after .pendingWakeServe s).spu.host = .sleeping ∧ (after .pendingWakeServe s).psc.doze = some 5000 := by decide

/-- 06 6.6, "Remapping the buffer at bring-up". -/
theorem test_area_map :
    replied (after (.areaMap 0 [0, 1024, 1024, 64, 1088, 2496, 3584, 512, 0, 0]) State.reset) = some [19, 3] ∧
      (after (.areaMap 0 [0, 1024, 1024, 64, 1120, 2464, 3584, 512, 0, 0]) State.reset).fbf.map.hold = ⟨1024, 96⟩ := by decide

/-- 06 6.6, "Clearing an Input area that has fallen behind". -/
theorem test_area_clear :
    (after (.areaClear 0 0)
        { State.reset with
          fbf := { State.reset.fbf with input := [⟨.key, [40, 0]⟩, ⟨.point, [1]⟩, releaseFrame 41, releaseFrame 42] } }).fbf.input =
      [releaseFrame 41, releaseFrame 42] := by decide

/-- 06 6.6: an index at the number of frames is RANGE. -/
theorem test_area_peek :
    replied (after (.areaPeek 0 0 3 4)
      { State.reset with fbf := { State.reset.fbf with input := [releaseFrame 41, releaseFrame 42, releaseFrame 43] } }) =
      some [21, 3] := by decide

/-- R194. -/
theorem test_access_set :
    (after (.accessSet 0 1 0 0) State.reset).ulp.driver[0]? = some .none ∧
      replied (after (.accessSet 0 0 9 0) State.reset) = some [22, 3] ∧
      replied (after (.accessSet 0x40 1 0 0) State.reset) = some [22, 2] := by decide

theorem test_access_freeze : (after (.accessFreeze 0) State.reset).ulp.freeze = true := by decide

/-- R197: the reply carries the reset. -/
theorem test_part_reset :
    (after (.partResetSoft 0) State.reset).ulp.slot = some ⟨0, [24, 0], some .soft⟩ ∧
      (after (.partResetFull 0) State.reset).ulp.slot = some ⟨0, [24, 0], some .full⟩ := by decide

/-- The interface of a block: no word spells a command, and a step runs the front of the queue. -/
theorem test_queue :
    decodeTableWord 8 1 = none ∧
      (match step { State.reset with pending := [.accessFreeze 0, .spaceEvent] } with
        | .next t => t.pending
        | .fault _ | .refused _ => []) = [.spaceEvent] := by decide

/-! ### States and operands that meet the statements' hypotheses

Each theorem carries the name of its statement. Ranges are met at their ends. -/

/-- Every host command's usual hypotheses hold at reset, on both channels where the group is open. -/
theorem receptive_reset :
    State.reset.Receptive ∧ State.reset.Calm ∧ State.reset.Unruled ∧ State.reset.ulp.lineFree = false ∧
      State.reset.psc.power = .run := by decide

theorem permitted_reset :
    State.reset.Permitted 0 .sensing true ∧ State.reset.Permitted 0 .gate true ∧ State.reset.Permitted 0 .dock true ∧
      State.reset.Permitted 0 .charge true ∧ State.reset.Permitted 0 .sleep true ∧ State.reset.Permitted 0 .buffer true ∧
      State.reset.Permitted 0 .user true ∧ State.reset.Permitted 0 .system true ∧ State.reset.Permitted 0x40 .user true ∧
      State.reset.Permitted 0x7F .gate true := by decide

theorem witness_StepRunsFrontCommandOrIdles : State.reset.pending = [] := rfl

theorem witness_PowerOnGivesSoundResetState :
    (idleLine (docked .active)).ulp.line = none ∧ (idleLine (docked .active)).ulp.preReset = none := by decide

def dueReset (k : ResetKind) : State := { docked .active with ulp := { State.reset.ulp with resetDue := some k } }

theorem witness_FullKindResetsGiveDefaults : (dueReset .full).ulp.resetDue = some .full := rfl

theorem witness_SoftResetKeepsConfiguration :
    (dueReset .soft).ulp.resetDue = some .soft ∧ (dueReset .soft).ulp.resetDue ≠ some .full ∧
      (dueReset .full).ulp.resetDue ≠ some .soft := by decide

/-- 16 keys down, two of them pending, a full Hold frame and frames in the areas, a keyboard with its grant, a charging pen. -/
def busyState : State :=
  { docked .active with
    igt := { State.reset.igt with keys := List.range 16, pend := [⟨3, .base⟩, ⟨15, .synth⟩] }
    fbf :=
      { State.reset.fbf with
        input := [⟨.key, [9, 0]⟩]
        hold := [⟨.press 30, false, 0⟩]
        report := [⟨.report, List.replicate 1532 0⟩]
        passdown := [⟨.passdown, [1]⟩]
        mirror := [⟨.sample, List.replicate 16 0⟩] }
    sbu := { State.reset.sbu with requested := 1350, grant := 1350, iPhase := 150, penSet := 150 }
    pcc := { State.reset.pcc with phase := .bulk, penSet := 150, measTimer := some 100 }
    spu := { State.reset.spu with host := .advised, compliance := some 20000, advising := some 0 }
    psc := { State.reset.psc with power := .run }
    ulp := { State.reset.ulp with lost := 255, overruns := List.replicate 4 ⟨5, [1, 6], none⟩ }
    par := Params.default.set 24 480
    pending := [.spaceEvent] }

theorem witness_KeysDownStaysSound : busyState.igt.KeysSound := by decide

theorem witness_AreasStaySound : busyState.fbf.AreasSound := by decide +kernel

theorem witness_BudgetStaysSound : busyState.BudgetSound := by decide

/-- WAKING, left from a host state. -/
def wakingFrom (h : HostState) : Spu :=
  { State.reset.spu with host := .waking, before := some h, wakeTimer := some 1, wakeReq := true, wakeSrc := some .key }

theorem witness_SleepPolicyAndPowerStateStaySound :
    busyState.spu.Sound ∧ busyState.psc.Sound ∧ (hostIn .running).spu.Sound ∧
      (wakingFrom .entering).Sound ∧ (wakingFrom .off).Sound ∧
      ({ State.reset.psc with power := .doze, standby := some 1, deferred := true } : Psc).Sound := by
  refine ⟨?_, ?_, ?_, ?_, ?_, ?_⟩ <;> decide

theorem witness_DockRecordStaysSound :
    polling.dlc.Sound ∧
      ({ dockIn .identifying with recov := true, step := some .recover, slot := some ⟨headIdentReq, []⟩ } : Dlc).Sound := by
  constructor <;>
    simp [Dlc.Sound, polling, docked, dockIn, Dlc.atReset, DockState.talks, DockState.supplied]

theorem witness_UplinkStaysSound : busyState.ulp.Sound := by decide

theorem witness_ParametersStayInRange : busyState.ParamsSound := by
  refine ⟨?_, by decide, by decide, by decide⟩
  intro n h1 h2
  interval_cases n <;> decide

theorem witness_TablesStaySound : busyState.TablesSound := by decide +kernel

/-- The step that the invariants speak of is taken from this state. -/
theorem witness_invariants_step : ∃ t, step busyState = .next t := ⟨_, rfl⟩

theorem witness_EventsKeepConfiguration :
    isPlainEvent .spaceEvent = true ∧ isPlainEvent (.rawChange .lid false) = true ∧ busyState.ulp.queue = [] ∧
      ∀ i b, Instr.spaceEvent ≠ .rawChange i b := by
  refine ⟨rfl, rfl, rfl, fun _ _ h => by cases h⟩

theorem witness_FrameIsItsCommandOrLeavesNoTrace :
    State.reset.ulp.rx = [] ∧ (List.replicate 60 (0 : Byte)).length ≤ 60 ∧ (List.replicate 57 (0 : Byte)).length ≤ 57 ∧
      (List.replicate 59 (0 : Byte)).length ≤ 59 ∧ State.reset.awake = true ∧ (5 : Byte) ≠ 0xA5 ∧ (0xC5 : Byte) ≠ 0xA5 ∧
      (0xC5 : Byte) ≠ crc8 (1 :: 5 :: byte 1 :: [1]) ∧ ([1, 5, 60] : List Byte).length ≤ 3 ∧
      (∀ b ∈ ([1, 5, 60] : List Byte), b ≠ 0xA5) ∧
      ({ State.reset.ulp with rx := 0xA5 :: [1, 5, 60] } : Ulp).rx = 0xA5 :: [1, 5, 60] := by decide +kernel

theorem witness_TableEntriesRoundTrip :
    (⟨true, 0, 5760, 63, 7, 15⟩ : PostureRow).acceptable = true ∧ ((127 : Nat) ≤ 127 ∧ 127 + 1 ≤ 128 ∧ 96 + 32 ≤ 128) ∧
      ((⟨.key, 1, 254, .wake, true, 255⟩ : GateEntry).cls = .key ∧ (⟨.point, 0, 255, .drop, false, 0⟩ : GateEntry).cls = .point) ∧
      (∀ x, (⟨true, 1, 1, .any, .any, 65535, some 125, 60000, .keepAwake⟩ : SleepRule).temp = some x → -40 ≤ x ∧ x ≤ 125) ∧
      ((1 : BitVec 16) ≠ 0 ∧ (1 : BitVec 3) ≠ 0) ∧ Profile.default.valid = true := by
  refine ⟨by decide, by decide, by decide, ?_, by decide, by decide⟩
  intro x h
  cases h
  decide

theorem witness_DockFramesAreReadBack :
    (1 ≤ 1 ∧ 254 ≤ 254) ∧ fits16 (-32768) = true ∧ fits16 32767 = true ∧ (65535 ≤ 65535) ∧
      (List.replicate 4 (0 : Byte)).length = 4 ∧ (List.replicate 16 (0 : Byte)).length = 16 ∧
      (kbd.rev ≤ 15 ∧ 1 ≤ kbd.rev ∧ kbd.active ≤ 1000 ∧ kbd.quiesced ≤ 100 ∧ kbd.layout ≤ 255) ∧
      (0 : Byte) ≠ crc8 (0x25 :: byte 0 :: []) := by decide +kernel

def freshVectors (m : Nat) (a : Option Nat) : State :=
  { State.reset with
    hau := { State.reset.hau with lid := some ⟨0, 962, 350⟩, base := some ⟨0, 512, 0⟩, cond := .fresh, hinge := ⟨a, .good, 0⟩ }
    par := { Params.default with mMin := m } }

/-- The base magnitude stands at its limit of 512; 4320, 1439, 1440 and 4319 are the ends of the continuity rows. -/
theorem witness_MagnitudeContinuityAndFlatTest :
    (4320 ≤ 4320 ∧ 1439 < 1440) ∧ (1440 ≤ 1440 ∧ 4320 ≤ 4320) ∧ (¬(4320 ≤ 4319 ∧ 1439 < 1440) ∧ ¬(4319 ≤ 1440 ∧ 4320 ≤ 1439)) ∧
      (freshVectors 512 (some 1780)).hau.cond = .fresh ∧ 512 ≤ magnitude 962 350 ∧ 512 ≤ magnitude 512 0 ∧
      (Hinge.next 1 none ⟨some 5, .good, 0⟩).quality = .unknown ∧
      ((Oru.atReset false).evaluated Params.default true ⟨299, 0, 1⟩).1.flat = true ∧
      ({ Oru.atReset false with flat := true }.evaluated Params.default true ⟨363, 0, -1⟩).1.flat = true := by decide

theorem witness_AngleAndFilterRanges :
    (0 : Int) < 962 ∧ (0 : Int) < 350 ∧ (-8192 : Int) ≤ -8192 ∧ (8191 : Int) ≤ 8191 ∧ ((3 : Int) - 0).natAbs < 2 ^ 2 := by
  decide

/-- LAPTOP (row 2, 160 to 2640) committed with a keyboard. -/
def laptop (angle : Nat) : State :=
  { docked .active with
    hau := { State.reset.hau with hinge := ⟨some angle, .good, 0⟩ }
    pcl := { State.reset.pcl with code := 2, row := some 2, cond := .keyboard }
    oru := { State.reset.oru with committed := .landscape } }

/-- 2720 is the last angle that the re-test holds; at 2721 the scan gives FLAT. Row 0 fits 160 before row 2 does. -/
theorem witness_PostureChoiceFollowsRowOrder :
    (rowMatches (laptop 2720).par.hysteresis (laptop 2720) (defaultRow 160 2640 63 2 2) = true ∧
        choosePosture (laptop 2720) = (2, some 2)) ∧
      (rowMatches (laptop 2721).par.hysteresis (laptop 2721) (defaultRow 160 2640 63 2 2) = false ∧
        choosePosture (laptop 2721) = (3, some 3)) ∧
      (laptop 2720).pcl.table[2]? = some (defaultRow 160 2640 63 2 2) ∧
      (rowMatches 0 { laptop 160 with pcl := { (laptop 160).pcl with row := none } } (defaultRow 0 160 63 6 1) = true) ∧
      (∀ r ∈ (List.replicate 16 (⟨false, 0, 5760, 63, 7, 0⟩ : PostureRow)), rowMatches 0 (laptop 100) r = false) := by decide

/-- A SAMPLE frame of 20 bytes in an area of 40, 20 and 19 bytes; the decimation at its end. -/
theorem witness_MirrorKeepsNewestFrames :
    (({ Params.default with mirrorN := 2 } : Params).mirrorN ≠ 0 ∧ State.reset.hau.mirrorCount + 1 < 2 ∧
        1 ≤ State.reset.hau.mirrorCount + 1) ∧
      occupancy [⟨.sample, List.replicate 16 0⟩, ⟨.sample, List.replicate 16 0⟩] ≤ 40 ∧
      (List.replicate 16 (0 : Byte)).length + 4 ≤ 20 ∧ 19 < (List.replicate 16 (0 : Byte)).length + 4 := by decide

theorem witness_PenSetpointStages :
    (State.reset.sbu.temp ≤ State.reset.par.tKnee) ∧ ((45 : Int) < 60 ∧ (60 : Int) ≤ 60) ∧ ((45 : Int) < 46 ∧ (59 : Int) < 60) ∧
      (busyState.sbu.railState = .normal ∧ busyState.awake = true ∧ busyState.pcc.phase.charging = true) ∧
      (State.reset.pcc.phase.charging = false) := by decide

theorem witness_GoverningRuleIsFirstThatHolds :
    let s : State :=
      { State.reset with
        spu := { State.reset.spu with rules := [defaultRule, ⟨true, 0xFFFF, 7, .opened, .out, 0, some 25, 1, .keepAwake⟩] } }
    ruleHolds s defaultRule = false ∧ ruleHolds s ⟨true, 0xFFFF, 7, .opened, .out, 0, some 25, 1, .keepAwake⟩ = true ∧
      governingRule s = some 1 := by decide

/-- 1536 bytes: a report of 3 field bytes takes 12. -/
def fullReports (free : Nat) : State :=
  { State.reset with fbf := { State.reset.fbf with report := [⟨.report, List.replicate (1532 - free) 0⟩] } }

theorem witness_RaisedReportIsKeptOrCounted :
    ((fullReports 12).Calm ∧ (fullReports 12).ulp.lost = 0 ∧ reportEnabled (fullReports 12).ulp.mask .switch = true ∧
        ReportKind.switch ≠ .forceCut ∧ 3 + 9 ≤ (fullReports 12).fbf.reportFree ∧ (fullReports 12).held = false ∧
        (fullReports 12).ulp.lineFree = false) ∧
      (let s (n : Nat) : State := { fullReports n with ulp := { State.reset.ulp with lost := 255 } }
       (s 22).Calm ∧ 0 < (s 22).ulp.lost ∧ 3 + 19 ≤ (s 22).fbf.reportFree ∧ 10 ≤ (s 10).fbf.reportFree ∧
        (s 21).fbf.reportFree < 3 + 19 ∧ (s 9).fbf.reportFree < 10 ∧ (s 9).fbf.reportFree < 3 + 9) ∧
      (let s (c : CutStage) : State := idleLine { hostIn .off with spu := { (hostIn .off).spu with cutStage := c } }
       (s .none).Calm ∧ (s .none).held = true ∧ (s .none).spu.cutStage ≠ .wait ∧ (s .pulse).spu.cutStage ≠ .wait) ∧
      ((idleLine State.reset).ulp.lineFree = true ∧ (idleLine State.reset).ulp.slot = none ∧
        (idleLine State.reset).ulp.overruns = [] ∧ (idleLine State.reset).fbf.report = [] ∧
        (idleLine State.reset).fbf.input = []) ∧
      (fullReports 11).fbf.reportFree < 3 + 9 := by decide +kernel

/-- A keyboard whose presence input has dropped, 20 ms before the debounce ends: five codes down, one of them owed to the base. -/
def leaving (st : DockState) : State :=
  { docked st with
    sib := { State.reset.sib with presence := ⟨false, true, some 20⟩ }
    igt := { State.reset.igt with keys := [4, 5, 6, 7, 8], pend := [⟨6, .base⟩] }
    fbf := { State.reset.fbf with hold := [⟨.press 30, false, 0⟩], map := { AreaMap.default with input := ⟨0, 12⟩ } } }

theorem witness_SwitchInputsAreDebounced :
    (State.reset.sib.input .lid).level = true ∧ 0 < State.reset.par.debounce .lid ∧
      (withPar State.reset fun p => { p with foldDebounce := 0 }).par.debounce .fold = 0 ∧
      (((after (.rawChange .lid false) State.reset).sib.input .lid).run = some 20 ∧
        (after (.rawChange .lid false) State.reset).awake = true ∧ State.reset.igt.head = .idle ∧
        (after (.rawChange .lid false) State.reset).sib.lid.asserted = false ∧
        rawState (after (.rawChange .lid false) State.reset).par.lidPolarity false = true) ∧
      (∀ st ∈ [DockState.active, .quiesced, .present, .settling, .identifying],
        (leaving st).sib.presence.run = some 20 ∧ (leaving st).sib.presence.asserted = true ∧
          rawState (leaving st).par.presencePolarity (leaving st).sib.presence.level = false ∧ (leaving st).dlc.state ≠ .absent ∧
          (leaving st).igt.head = .idle ∧ (leaving st).ulp.queue = [] ∧ 0 < (leaving st).par.postureDwell ∧
          (leaving st).Unruled ∧ (leaving st).ulp.lineFree = false ∧ (leaving st).awake = true) ∧
      (leaving .active).dlc.state.delivers = true ∧ (leaving .present).dlc.state.delivers = false ∧
      (leaving .active).igt.owed = [⟨6, .base⟩, ⟨4, .synth⟩, ⟨5, .synth⟩, ⟨7, .synth⟩, ⟨8, .synth⟩] ∧
      (leaving .active).fbf.inputFree = 12 := by decide

theorem witness_LidSampleAndOrientDwell :
    (State.reset.awake = true ∧ State.reset.psc.power = .run ∧ State.reset.hau.sampleTimer = some 10 ∧
        State.reset.ulp.queue = [] ∧ 0 < State.reset.par.orientDwell ∧ State.reset.fbf.hold = [] ∧ State.reset.Unruled) ∧
      ((inPower .doze State.reset).awake = true ∧ 0 < (inPower .doze State.reset).par.postureDwell ∧
        (inPower .doze State.reset).igt.head = .idle ∧ (inPower .doze State.reset).psc.power = .doze) ∧
      ((freshVectors 512 none).sib.lid.asserted = false ∧ (freshVectors 512 none).sib.fold.asserted = false ∧
        (freshVectors 512 none).hau.cond ≠ .absent) ∧
      (State.reset.hau.cond = .absent ∧ State.reset.hau.hinge = ⟨none, .unknown, 0⟩) ∧
      (let b (i : Input) : Sib := State.reset.sib.setInput i ⟨false, true, none⟩
       (b .lid).lid.asserted = true ∧ (b .fold).lid.asserted = false ∧ (b .fold).fold.asserted = true) ∧
      (let o : Oru := ⟨.landscape, some .portrait, some 300, false, false, some 1102⟩
       o.dwell = some 300 ∧ o.candidate = some .portrait) := by decide

theorem witness_PostureTimersCommitAndRelease :
    State.reset.pcl.dwell = some 120 ∧ State.reset.pcl.cand = some 7 ∧ 0 < State.reset.par.postureDwell ∧
      ({ State.reset.pcl with restart := some 1 } : Pcl).restart = some 1 := by decide

def settling (policy budget : Nat) : State :=
  { State.reset with
    dlc := { Dlc.atReset with state := .settling, settle := some 50 }
    par := { Params.default with attachPolicy := policy, bTotal := budget } }

theorem witness_DockSettleAndReadyTimers :
    (∀ p ∈ [0, 1], ∀ b ∈ [49, 50],
        (settling p b).psc.power = .run ∧ (settling p b).dlc.settle = some 50 ∧ (settling p b).dlc.step = none ∧
          (settling p b).dlc.walk = none ∧ (settling p b).ulp.queue = [] ∧ (settling p b).par.attachPolicy = p ∧
          (settling p b).par.bTotal = b ∧ (settling p b).igt.head = .idle ∧ (settling p b).hau.cond = .absent ∧
          (settling p b).pcl.cond = .detached) ∧
      (inPower .standby (settling 1 50)).awake = false ∧
      (({ dockIn .powering with ready := some 200 } : Dlc).ready = some 200) := by decide

/-- A dock state with a slot timer that is due. -/
def nextSlot (st : DockState) (step : Option DockStep) (pass : List Stored) : State :=
  { docked st with
    dlc := { dockIn st with slotTimer := some 8, step := step }
    fbf := { State.reset.fbf with passdown := pass } }

theorem witness_SlotTimersOpenSlots :
    (polling.dlc.slotTimer = some 8 ∧ polling.dlc.slot.isSome = true) ∧
      ((nextSlot .powering none []).dlc.slot = none ∧ (nextSlot .powering none []).dlc.state = .powering) ∧
      ((nextSlot .active (some .quiesce) []).dlc.quiesceSent = false ∧ (nextSlot .active (some .quiesce) []).awake = true) ∧
      ((nextSlot .active none []).dlc.step ≠ some .quiesce ∧ (nextSlot .active none []).fbf.passdown = []) ∧
      ((nextSlot .active none [⟨.passdown, [1]⟩]).fbf.passdown = [⟨.passdown, [1]⟩]) ∧
      ((nextSlot .quiesced none []).dlc.state = .quiesced) ∧
      (({ Dlc.atReset with state := .identifying, attemptTimer := some 10 } : Dlc).slot = none) ∧
      (({ Dlc.atReset with attemptTimer := some 10 } : Dlc).state ≠ .identifying) := by decide

def statFrame (flags : Byte) (ma : Nat) : List Byte := DockFrame.bytes ⟨0x24, flags :: num2 ma⟩

/-- A RUN slot of POWERING or WAKING, the base without a tilt sensor, room for 18 bytes of reports. -/
def running (st : DockState) (step : DockStep) : State :=
  { docked st with
    dlc :=
      { dockIn st with
        base := some (.keyboard { kbd with tilt := none }), step := some step, walk := some ⟨.attach, .host⟩
        slot := some ⟨headRun, []⟩, slotTimer := some 8, ready := some 100, missed := 2, overdraw := 2 }
    pcl := { State.reset.pcl with cond := .keyboard }
    fbf := (fullReports 18).fbf }

theorem witness_ActiveAnswersAreRouted :
    (docked .active).dlc.slot = none ∧
      (polling.dlc.state = .active ∧ polling.dlc.slot = some ⟨headPoll, []⟩ ∧ headPoll ≠ headQuiesce ∧
        polling.dlc.slotTimer ≠ some 0 ∧ (docked .quiesced).dlc.state = .quiesced) ∧
      parseAnswer (DockFrame.bytes ⟨0x25, []⟩) = some .nil ∧
      (parseAnswer (DockFrame.bytes ⟨0x20, kbd.bytes⟩)).any Answer.isIdent = true ∧
      (parseAnswer (keyFrame 4 false)).any Answer.isInput = true ∧ parseAnswer [0x25, 0, 0] = none ∧
      parseAnswer (DockFrame.bytes ⟨0x23, int2 1 ++ int2 (-2) ++ int2 3⟩) = some (.tilt 1 (-2) 3) ∧
      parseAnswer (statFrame 0 500) = some (.stat 0 500) ∧ (0 : Byte).getLsbD 2 = false ∧ overdrawNext 400 500 2 ≠ 3 ∧
      overdrawNext 400 501 1 ≠ 3 ∧ overdrawNext 400 501 2 = 3 ∧ polling.ulp.queue = [] ∧
      parseAnswer (statFrame 4 0) = some (.stat 4 0) ∧ (4 : Byte).getLsbD 2 = true ∧
      parseAnswer (statFrame 1 500) = some (.stat 1 500) ∧ (1 : Byte).getLsbD 2 = false ∧ (1 : Byte).getLsbD 0 = true ∧
      (0 : Byte).getLsbD 0 = false ∧
      ∀ s ∈ [running .powering .power, running .waking .wake],
        (s.dlc.state = .powering ∨ s.dlc.state = .waking) ∧ s.dlc.slot = some ⟨headRun, []⟩ ∧ s.dlc.slotTimer ≠ some 0 ∧
          s.dlc.step ≠ none ∧ s.dlc.powerReq = none ∧ s.psc.power = .run ∧ s.ulp.queue = [] ∧ s.Unruled ∧
          s.ulp.lineFree = false ∧ s.pcl.cond = .keyboard ∧ s.dlc.tilt = none ∧ s.hau.cond = .absent ∧
          s.sbu.grant = s.dlc.activeDemand ∧ reportEnabled s.ulp.mask .dock = true ∧ s.ulp.lost = 0 ∧
          18 ≤ s.fbf.reportFree := by decide +kernel

/-- A posture whose directory takes an action, with keys down. -/
def gated (a : GateAction) (keys : List Nat) (hold : Nat) : State :=
  { polling with
    igt := { State.reset.igt with dir := ⟨true, false, a, 0, 0⟩ :: State.reset.igt.dir.tail, keys := keys }
    fbf := { State.reset.fbf with map := { AreaMap.default with input := ⟨0, 6⟩, hold := ⟨1024, hold⟩ } } }

/-- Its directory's one entry is entry 127, for a class and the codes 1 to 254. -/
def matching (c : GateClass) (a : GateAction) (note : Bool) (hits : Nat) : State :=
  { polling with
    igt :=
      { State.reset.igt with
        dir := ⟨true, false, .pass, 127, 1⟩ :: State.reset.igt.dir.tail
        entries := State.reset.igt.entries.set 127 ⟨c, 1, 254, a, note, hits⟩ } }

/-- No posture has a directory. -/
def undirected (missing : Bool) : State :=
  { polling with igt := { State.reset.igt with dir := List.replicate 16 ⟨false, false, .pass, 0, 0⟩, missing := missing } }

theorem witness_KeyFramesMeetTheGate :
    (parseAnswer (keyFrame 254 true) = some (.key 254 true) ∧ (gated .pass [254] 96).igt.keys.contains 254 = true) ∧
      (parseAnswer (keyFrame 1 false) = some (.key 1 false) ∧ (gated .pass (List.range' 2 15) 96).igt.keys.contains 1 = false ∧
        (gated .pass (List.range' 2 15) 96).igt.keys.length < 16) ∧
      ((gated .pass [] 96).gateDir.present = true ∧ (gated .pass [] 96).gateDir.action = .pass ∧
        (gated .drop [] 96).gateDir.action = .drop ∧ (gated .hold [] 6).gateDir.action = .hold ∧
        6 ≤ (gated .hold [] 6).fbf.map.hold.len ∧ 0 < (gated .hold [] 6).par.gateHold) ∧
      findEntry (.press 1) (gated .pass [] 96).igt.entries (gated .pass [] 96).gateDir.first (gated .pass [] 96).gateDir.count =
        none ∧
      (gated .pass [] 96).fbf.hold = [] ∧ (gated .pass [] 96).igt.pend = [] ∧ (gated .pass [] 96).ulp.lineFree = false ∧
      6 ≤ (gated .pass [] 96).fbf.inputFree ∧ (gated .pass [] 96).judgedBody (.key 1 false) = some (.press 1) ∧
      (gated .pass [1] 96).judgedBody (.key 1 false) = none ∧ (gated .pass [1] 96).igt.keys.contains 1 = true ∧
      (gated .pass (List.range' 2 16) 96).igt.keys.contains 1 = false ∧ 16 ≤ (gated .pass (List.range' 2 16) 96).igt.keys.length ∧
      (∀ st ∈ [DockState.active, .quiesced, .waking], (docked st).dlc.state.delivers = true) := by decide +kernel

/-- The matching entries, the notes, a WAKE and the directory that is absent: a press of code 1, a POINT of 4 bytes. -/
theorem witness_KeyFramesMeetTheGate_entries :
    (parseAnswer (DockFrame.bytes ⟨0x22, [1, 2, 3, 0]⟩) = some (.point [1, 2, 3, 0]) ∧
        polling.judgedBody (.point [1, 2, 3, 0]) = some (.point [1, 2, 3, 0]) ∧
        polling.judgedBody (.key 1 false) = some (.press 1)) ∧
      (∀ a ∈ [GateAction.drop, .pass, .hold, .wake], ∀ note ∈ [false, true], ∀ h ∈ [254, 255],
        let s := matching .key a note h
        findEntry (.press 1) s.igt.entries s.gateDir.first s.gateDir.count = some 127 ∧
          s.igt.entries[127]? = some ⟨.key, 1, 254, a, note, h⟩) ∧
      (let s := matching .point .wake false 0
       findEntry (.point [1, 2, 3, 0]) s.igt.entries s.gateDir.first s.gateDir.count = some 127) ∧
      ((matching .key .wake false 0).gateDir.present = true ∧ 6 ≤ (matching .key .hold false 0).fbf.map.hold.len ∧
        0 < (matching .key .hold false 0).par.gateHold ∧ 6 ≤ (matching .key .wake false 0).fbf.inputFree ∧
        (matching .key .wake false 0).spu.cutStage = .none ∧ (matching .key .wake false 0).spu.host = .running ∧
        (matching .key .wake false 0).psc.power = .run ∧ (matching .key .wake false 0).Unruled ∧
        (matching .key .wake false 0).ulp.queue = [] ∧ (matching .key .wake false 0).fbf.hold = [] ∧
        (matching .key .wake false 0).igt.pend = [] ∧ (matching .key .wake false 0).ulp.lineFree = false ∧
        (matching .key .wake false 0).dlc.slot = some ⟨headPoll, []⟩ ∧ (matching .key .wake false 0).dlc.slotTimer ≠ some 0) ∧
      (∀ h ∈ [HostState.waking, .sleeping, .entering, .off, .advised], ∀ c ∈ [CutStage.none, .pulse],
        let s := { matching .key .wake false 0 with spu := { (hostIn h).spu with cutStage := c } }
        s.spu.host = h ∧ s.spu.cutStage = c ∧ s.Unruled) ∧
      (polling.ulp.lost = 0 ∧ reportEnabled polling.ulp.mask .gateNote = true ∧ reportEnabled polling.ulp.mask .gateMissing = true ∧
        reportEnabled polling.ulp.mask .rollover = true ∧ reportEnabled 0 .gateNote = false ∧ 10 ≤ (fullReports 10).fbf.reportFree ∧
        11 ≤ (fullReports 11).fbf.reportFree ∧ 14 ≤ (fullReports 14).fbf.reportFree) ∧
      ((undirected true).gateDir.present = false ∧ (undirected true).igt.missing = true ∧ (undirected false).igt.missing = false) := by
  decide +kernel

/-- A QUIESCE slot in ACTIVE. -/
def quiescing (missed overdraw : Nat) : State :=
  { docked .active with
    dlc :=
      { dockIn .active with
        step := some .quiesce, quiesceSent := true, slot := some ⟨headQuiesce, []⟩, slotTimer := some 8, missed := missed
        overdraw := overdraw } }

theorem witness_MissedResponsesCountToRecovery :
    (parseAnswer [0x25, 0, 0] = none ∧ ({ polling.dlc with missed := 1 } : Dlc).missed < 2 ∧
        ({ polling.dlc with missed := 2 } : Dlc).missed = 2 ∧ polling.psc.power = .run ∧ polling.ulp.queue = []) ∧
      ((quiescing 1 2).dlc.state = .active ∧ (quiescing 1 2).dlc.slot = some ⟨headQuiesce, []⟩ ∧
        (quiescing 1 2).dlc.powerReq = none ∧ (quiescing 1 2).psc.power = .run ∧ (quiescing 1 2).ulp.queue = [] ∧
        (quiescing 1 2).dlc.missed < 2 ∧ (quiescing 2 0).dlc.missed = 2 ∧ (quiescing 1 2).dlc.slotTimer ≠ some 0 ∧
        (quiescing 2 0).igt.head = .idle ∧ (quiescing 1 2).dlc.base = some (.keyboard kbd)) ∧
      (parseAnswer (statFrame 2 500) = some (.stat 2 500) ∧ (2 : Byte).getLsbD 2 = false ∧ (2 : Byte).getLsbD 1 = true ∧
        overdrawNext 400 500 2 ≠ 3) ∧
      (parseAnswer (statFrame 0 501) = some (.stat 0 501) ∧ (0 : Byte).getLsbD 1 = false ∧ overdrawNext 400 501 1 ≠ 3 ∧
        overdrawNext 400 501 2 = 3) ∧
      (parseAnswer (statFrame 6 0) = some (.stat 6 0) ∧ (6 : Byte).getLsbD 2 = true) ∧
      (let s (n : Nat) : State :=
        { docked .quiesced with dlc := { dockIn .quiesced with slot := some ⟨headPoll, []⟩, slotTimer := some 100, missed := n } }
       (s 1).dlc.state = .quiesced ∧ (s 1).dlc.slot = some ⟨headPoll, []⟩ ∧ (s 1).dlc.missed < 2 ∧
        (s 1).dlc.slotTimer ≠ some 0 ∧ (s 2).dlc.missed = 2 ∧ (s 2).ulp.queue = []) ∧
      (parseAnswer (DockFrame.bytes ⟨0x25, []⟩)).any Answer.isStat = false ∧
      ((parseAnswer (DockFrame.bytes ⟨0x23, int2 1 ++ int2 (-2) ++ int2 3⟩)).any Answer.isStat = false ∧
        parseAnswer (DockFrame.bytes ⟨0x23, int2 1 ++ int2 (-2) ++ int2 3⟩) = some (.tilt 1 (-2) 3)) := by
  decide +kernel

/-- A first identification by a DOCK_STEP, in its third slot. -/
def identifying : State :=
  { State.reset with
    dlc :=
      { Dlc.atReset with
        state := .identifying, step := some .identify, basePower := true, attempts := 3, outcomes := [.missing, .missing]
        slot := some ⟨headIdentReq, []⟩, attemptTimer := some 10 }
    sbu := { State.reset.sbu with requested := 50, grant := 50 } }

/-- The same in an ATTACH walk under a budget. -/
def attaching (budget : Nat) : State :=
  { identifying with
    dlc := { identifying.dlc with walk := some ⟨.attach, .host⟩ }, par := { Params.default with bTotal := budget } }

/-- A recovery in its slot, some ms after the slot opened. -/
def recovering (budget since : Nat) (outcomes : List Outcome) (pass : List Stored) : State :=
  { docked .identifying with
    dlc :=
      { dockIn .identifying with
        recov := true, step := some .recover, slot := some ⟨headIdentReq, []⟩, outcomes := outcomes, sinceOpen := since }
    par := { Params.default with bTotal := budget }
    pcl := { State.reset.pcl with cond := .keyboard }
    fbf := { State.reset.fbf with passdown := pass } }

/-- R60: the slot of a recovery that closes after a whole poll period is followed at once by the next. -/
theorem test_recovered_slot_is_followed :
    let t := after (.dockAnswer (DockFrame.bytes ⟨0x20, kbd.bytes⟩)) (recovering 400 8 [] [])
    t.dlc.state = .active ∧ t.dlc.slot = some ⟨headPoll, []⟩ ∧ t.dlc.slotTimer = some 8 := by decide +kernel

theorem witness_IdentificationOutcomes :
    (identifying.dlc.state = .identifying ∧ identifying.dlc.recov = false ∧
        identifying.dlc.slot = some ⟨headIdentReq, []⟩ ∧ identifying.dlc.walk = none ∧ identifying.psc.power = .run ∧
        identifying.igt.head = .idle ∧ identifying.ulp.queue = [] ∧ identifying.dlc.outcomes = [.missing, .missing] ∧
        parseAnswer (DockFrame.bytes ⟨0x20, kbd.bytes⟩) = some (.ident kbd)) ∧
      ((attaching 400).dlc.walk = some ⟨.attach, .host⟩ ∧ (attaching 400).hau.cond = .absent ∧
        (attaching 400).pcl.cond = .detached ∧ kbd.active ≤ (attaching 400).par.bTotal ∧
        (attaching 399).par.bTotal < kbd.active) ∧
      (Outcome.garbled ∈ [Outcome.missing, .garbled] ∧ ([Outcome.missing, .garbled] : List Outcome).length = 2 ∧
        ([Outcome.garbled] : List Outcome).length < 2 ∧ identifying.dlc.attemptTimer ≠ some 0 ∧
        (parseAnswer [0x20, 0, 0]).any Answer.isIdent = false ∧
        (parseAnswer (DockFrame.bytes ⟨0x25, []⟩)).any Answer.isIdent = false) := by decide +kernel

theorem witness_IdentificationOutcomes_recovery :
    let s := recovering 400 7 [.missing, .garbled] []
    (s.dlc.state = .identifying ∧ s.dlc.recov = true ∧ s.dlc.slot = some ⟨headIdentReq, []⟩ ∧ s.dlc.walk = none ∧
        s.dlc.powerReq = none ∧ s.psc.power = .run ∧ s.pcl.cond = .keyboard ∧ s.igt.head = .idle ∧ s.ulp.queue = [] ∧
        s.hau.cond = .absent ∧ kbd.tilt.isSome = true ∧ 0 < s.par.postureDwell ∧ s.fbf.hold = [] ∧ s.dlc.outcomes.length = 2) ∧
      (s.dlc.sameBase kbd = true ∧ s.dlc.sameBase { kbd with rev := 4, active := 401 } = true ∧
        s.dlc.sameBase { kbd with layout := 8 } = false) ∧
      (kbd.active ≤ s.par.bTotal ∧ (recovering 399 7 [] []).par.bTotal < kbd.active) ∧
      (s.dlc.sinceOpen < s.par.pollPeriod ∧ s.par.pollPeriod ≤ (recovering 400 8 [] []).dlc.sinceOpen ∧
        (recovering 400 8 [] []).fbf.passdown = [] ∧
        (recovering 400 8 [] [⟨.passdown, [1]⟩]).fbf.passdown = [⟨.passdown, [1]⟩]) := by decide +kernel

def grantWaits (a : Option Await) (st : DockState) : State :=
  { State.reset with
    dlc := { dockIn st with await := a }
    sbu := { State.reset.sbu with requested := 1500, grant := 1499, pending := true, railState := .warn } }

theorem witness_FollowOnStepsAndGrants :
    ((docked .active).dlc.step = none ∧ (docked .active).awake = true ∧ (docked .active).dlc.walk = none) ∧
      (({ dockIn .active with walk := some ⟨.quiesce, .psc⟩ } : Dlc).step = none ∧
        ({ dockIn .active with powerReq := some .quiesce } : Dlc).walk = none ∧
        ({ dockIn .active with powerReq := some .wake } : Dlc).walk = none) ∧
      ((grantWaits (some .ident) .identifying).Calm ∧ (grantWaits (some .run) .powering).Calm ∧
        (grantWaits none .active).sbu.railState ≠ .shed ∧ (grantWaits none .active).sbu.grant < 1500 ∧
        (grantWaits none .active).sbu.requested ≤ (grantWaits none .active).par.bTotal) := by decide

theorem witness_HoldExpiryAndSpaceEvent :
    (let s : State := { State.reset with fbf := { State.reset.fbf with hold := [⟨.press 60, false, 0⟩] } }
     s.Calm ∧ s.fbf.hold = [⟨.press 60, false, 0⟩]) ∧
      (let s (n : Nat) : State :=
        { gated .pass [42] 96 with
          igt := { (gated .pass [42] 96).igt with pend := [⟨42, .base⟩] }
          fbf := { (gated .pass [42] 96).fbf with map := { AreaMap.default with input := ⟨0, n⟩ } } }
       (s 5).fbf.inputFree < 6 ∧ 6 ≤ (s 6).fbf.inputFree ∧ (s 6).igt.head = .idle ∧ (s 6).ulp.lineFree = false) := by decide

theorem witness_IdleCutAndUnlockTimers :
    State.reset.Unruled ∧
      (let b : Spu := { State.reset.spu with cutTimer := some 100, cutStage := .wait }
       b.cutTimer = some 100 ∧ b.cutStage = .wait) ∧
      (let b : Spu := { State.reset.spu with cutTimer := some 4000, cutStage := .pulse }
       b.cutStage = .pulse ∧ b.pendingWake = none) ∧
      (let b : Spu := { State.reset.spu with unlock := some ⟨0, 0⟩ }
       b.unlock = some ⟨0, 0⟩ ∧ b.rxSeq = 0) := by decide

/-- 4399 and 4400 about the SHED threshold; 4600 moves no state of NORMAL. -/
theorem witness_RailAndTemperatureReadings :
    State.reset.sbu.railTimer = some 1 ∧ State.reset.ulp.queue = [] ∧
      State.reset.sbu.railState.next State.reset.par 4600 = State.reset.sbu.railState ∧
      State.reset.sbu.railState.next State.reset.par 4399 = .shed ∧ State.reset.sbu.railState.next State.reset.par 4400 = .warn ∧
      State.reset.sbu.tempTimer = some 100 ∧ State.reset.psc.power = .run := by decide

def shedding (st : DockState) : State := { docked st with sbu := { (docked st).sbu with shed := some 1, railState := .shed } }

theorem witness_ShedTimerRevokesGrant :
    (shedding .active).Calm ∧ (shedding .active).sbu.shed = some 1 ∧ (shedding .active).psc.power = .run ∧
      (shedding .active).dlc.state.supplied = true ∧ (shedding .present).dlc.state.supplied = false := by decide

/-- 4300 mV is the last cell voltage below the over-voltage fault, with V_reg 4200. -/
theorem witness_MeasurementAndLimitMoveChargePhase :
    ((inPhase .probe).pcc.measTimer = some 100 ∧ (inPhase .probe).ulp.queue = []) ∧
      ((inPhase .probe).pcc.profile.vReg + 100 < 4301 ∧ (4300 : Nat) ≤ (inPhase .probe).pcc.profile.vReg + 100) ∧
      (inPhase .precharge).pcc.phase = .precharge ∧ (inPhase .bulk).pcc.phase = .bulk ∧ (inPhase .done).pcc.phase = .done ∧
      (inPhase .resting).pcc.phase = .resting ∧ (inPhase .fault).pcc.phase = .fault ∧
      (let s (t : Timer) : State := { inPhase .topup with pcc := { (inPhase .topup).pcc with penSet := 150, term := t } }
       (s none).pcc.phase = .topup ∧ (inPhase .topup).pcc.penSet = 0 ∧ 0 < (s none).pcc.penSet ∧
        (s none).pcc.profile.iTerm = 15 ∧ (max 0 (min 500 (15 : Int))).toNat ≤ 15 ∧ 15 < (max 0 (min 500 (16 : Int))).toNat ∧
        (s (some 9800)).pcc.term = some 9800 ∧ 9800 + 100 < 10000 ∧ (s (some 9900)).pcc.term = some 9900 ∧
        10000 ≤ 9900 + 100) ∧
      (busyState.pcc.phase.charging = true ∧ 0 < busyState.pcc.penSet ∧ busyState.ulp.queue = []) := by decide

def advising (d : Timer) : State :=
  { State.reset with
    spu := { State.reset.spu with governing := some 0, dwell := d, rules := [⟨true, 0xFFFF, 7, .any, .any, 0, none, 1, .adviseSleep⟩] } }

/-- The dwell of rule 0, of an action, ends. -/
def dwelling (a : SleepAction) (h : HostState) (c : CutStage) : State :=
  { advising (some 1) with
    spu :=
      { (advising (some 1)).spu with
        host := h, cutStage := c, rules := [⟨true, 0xFFFF, 7, .any, .any, 0, none, 1, a⟩] } }

/-- 4 s idle under the advice of rule 1, with an action of rule 0, which asks for 5 s. -/
def advisedIdle (h : HostState) (a : SleepAction) : State :=
  { State.reset with
    igt := { State.reset.igt with idle := 4, idleLeft := 1000 }
    spu :=
      { State.reset.spu with
        host := h, governing := some 1, fired := true, advising := some 1, compliance := some 20000
        rules := [⟨true, 0xFFFF, 7, .any, .any, 5, none, 1, a⟩, ⟨true, 0xFFFF, 7, .any, .any, 0, none, 1, .adviseSleep⟩] } }

theorem witness_SleepAdviceAndWakeTimers :
    ((advising (some 1)).spu.dwell = some 1 ∧ (advising (some 1)).spu.governing = some 0 ∧ (advising (some 1)).spu.fired = false ∧
        governingRule (elapse 1 (advising (some 1))) = some 0 ∧
        ((advising (some 1)).spu.rules.getD 0 defaultRule).action = .adviseSleep ∧ (advising (some 1)).spu.host = .running ∧
        (advising (some 1)).Calm) ∧
      (let s : State := { hostIn .waking with spu := { (hostIn .waking).spu with before := some .entering, wakeTimer := some 1 } }
       s.Unruled ∧ s.Calm ∧ s.spu.wakeTimer = some 1 ∧ s.spu.before = some .entering ∧ s.spu.host = .waking ∧ s.psc.power = .run) ∧
      ((wakeWaits .off).Unruled ∧ (wakeWaits .off).Calm ∧ (wakeWaits .off).spu.cutStage = .none ∧
        (wakeWaits .running).spu.host = .running) ∧
      (∀ a ∈ [SleepAction.keepAwake, .adviseSleep, .adviseWake], ∀ h ∈ [HostState.running, .advised, .entering, .sleeping, .waking, .off],
        ∀ c ∈ [CutStage.none, .wait],
        let s := dwelling a h c
        s.spu.dwell = some 1 ∧ s.spu.governing = some 0 ∧ s.spu.fired = false ∧ (s.spu.rules.getD 0 defaultRule).action = a ∧
          s.spu.host = h ∧ s.spu.cutStage = c ∧ governingRule (elapse 1 s) = some 0 ∧ s.Calm ∧ s.psc.power = .run ∧
          0 < (s.spu.rules.getD 0 defaultRule).dwell) := by decide

/-- The idle second that makes rule 0 govern, and the write of the rule that advises. -/
theorem witness_SleepAdviceAndWakeTimers_withdrawal :
    (∀ h ∈ [HostState.advised, .entering],
        let s := advisedIdle h .keepAwake
        s.spu.host = h ∧ s.igt.idle < 65535 ∧ s.Calm ∧ s.psc.power = .run ∧
          (∀ q ∈ s.spu.rules, q.enabled = true → 0 < q.dwell) ∧ governingRule s.idleCounted = some 0 ∧
          (some 0 : Option Nat) ≠ s.spu.governing ∧ s.spu.advising ≠ some 0) ∧
      (let s := idleLine (advisedIdle .advised .keepAwake)
       s.Receptive ∧ s.Permitted 0 .sleep true ∧ s.Calm ∧ s.spu.advising = some (1 : Byte).toNat ∧
        s.spu.governing = some (1 : Byte).toNat ∧
        sleepRuleOf [1, 1, 0, 1, 0, 0, 0, 0, 1, 125, 0x60, 0xEA, 2] =
          some ⟨true, 1, 1, .any, .any, 0, some 125, 60000, .keepAwake⟩ ∧
        (∀ q ∈ s.spu.rules.set (1 : Byte).toNat ⟨true, 1, 1, .any, .any, 0, some 125, 60000, .keepAwake⟩,
          q.enabled = true → 0 < q.dwell)) := by decide

theorem witness_ComplianceRemindsThenCuts :
    let s (stage : Nat) (m : ForceMode) : State :=
      { hostIn .advised with spu := { (hostIn .advised).spu with compliance := some 1, stage := stage, forceMode := m } }
    (s 1 .notifyThenCut).Calm ∧ (s 1 .notifyThenCut).spu.stage ≠ 2 ∧ (s 2 .notifyOnly).spu.forceMode = .notifyOnly ∧
      (s 2 .notifyThenCut).spu.stage = 2 ∧ (s 2 .notifyThenCut).spu.host = .advised := by decide

/-- DOZE with the host OFF. -/
def dozing (deferred : Bool) (standby : Timer) (dock : DockState) : State :=
  { docked dock with
    spu := { State.reset.spu with host := .off }
    psc := { State.reset.psc with power := .doze, standby := standby, deferred := deferred } }

theorem witness_DozeAndStandbyAreEntered :
    (let s : State := { hostIn .sleeping with psc := { State.reset.psc with doze := some 1 } }
     s.psc.power = .run ∧ s.psc.doze = some 1 ∧ s.spu.host = .sleeping ∧ s.Calm) ∧
      ((dozing false (some 1) .active).Calm ∧ (∀ i ∈ [Input.lid, .fold, .garage, .presence], State.reset.par.mode i ≠ 0) ∧
        deferring { dozing false (some 1) .active with pcc := { State.reset.pcc with phase := .bulk } } = true ∧
        deferring (dozing false (some 1) .absent) = false ∧ (dozing false (some 1) .quiesced).Unruled ∧
        deferring (dozing false (some 1) .quiesced) = false ∧ State.reset.par.dockLines = 0) ∧
      (deferring (dozing true none .absent) = false ∧ standbyCondition (dozing true none .absent) = true ∧
        (dozing true none .absent).psc.deferred = true) := by decide

theorem witness_WakeEventsAndSettleTimer :
    ((inPower .standby (docked .quiesced)).dlc.state = .quiesced ∧ (inPower .standby (docked .active)).dlc.state = .active ∧
        (inPower .standby State.reset).dlc.state ≠ .active ∧ (inPower .standby State.reset).psc.uplinkSeen = false ∧
        ({ State.reset.psc with uplinkSeen := true } : Psc).uplinkSeen = true) ∧
      (({ State.reset.psc with power := .settle, settle := some 4 } : Psc).settle = some 4 ∧ 0 < State.reset.par.dozeDelay) := by
  decide

def sending (k : Option ResetKind) : State :=
  { State.reset with ulp := { State.reset.ulp with line := some ⟨.reply, 5, [1, 0], k⟩ } }

theorem witness_TransmitEndAndOverflowReport :
    ((sending none).ulp.line = some ⟨.reply, 5, [1, 0], none⟩ ∧ (sending none).ulp.preReset = none ∧ UpKind.reply ≠ .report ∧
        (sending none).held = false ∧ (sending none).ulp.slot = none ∧ (sending none).ulp.resetDue = none ∧
        (sending none).fbf.report = [] ∧ (sending none).fbf.input = [] ∧ (sending none).fbf.mirror = [] ∧
        (sending none).ulp.lost = 0) ∧
      ((sending (some .soft)).ulp.line = some ⟨.reply, 5, [1, 0], some .soft⟩) ∧
      (let s (k : UpKind) (p : List Byte) (c : CutStage) (h : HostState) (r : Option Reply) : State :=
        { hostIn h with
          spu := { (hostIn h).spu with cutStage := c }
          fbf := { State.reset.fbf with report := [⟨.report, [2, 3]⟩], input := [releaseFrame 4] }
          ulp := { State.reset.ulp with line := some ⟨k, 0, p, none⟩, slot := r } }
       (s .reply [1] .none .running (some ⟨5, [1, 0], none⟩)).held = false ∧
        (s .reply [1] .none .running none).ulp.resetDue = none ∧ (s .reply [1] .none .running none).ulp.overruns = [] ∧
        (s .reply [1] .none .running none).ulp.queue = [] ∧ (s .reply [1] .none .running none).ulp.lost = 0 ∧
        (s .reply [1] .none .running none).igt.pend = [] ∧ (s .reply [1] .none .running none).igt.head = .idle ∧
        isForceCut [2, 3] = false ∧ isForceCut [17, 0] = true ∧ (s .report [17, 0] .wait .off none).held = true ∧
        (s .report [17, 0] .wait .off none).spu.cutStage = .wait) ∧
      ((fullReports 10).fbf.reportFree = 10 ∧ (fullReports 9).fbf.reportFree < 10 ∧ (fullReports 9).ulp.lineFree = false ∧
        0 < ({ State.reset.ulp with lost := 1 } : Ulp).lost) := by decide +kernel

theorem witness_CommandFramesAreRefusedInOrder :
    (State.reset.ulp.rx = [] ∧ 2 ≤ channelOf 0x80 ∧ channelOf 0x7F < 2 ∧ ([25] : List Byte).headD 0 = 25 ∧
        24 < (([25] : List Byte).headD 0).toNat ∧ lengthOk [1, 0] = false ∧ lengthOk [24, 0] = true ∧
        accessAllows State.reset.ulp.driver (commandNeed [24, 0]) = false) ∧
      ((inPower .settle State.reset).awake = false) ∧
      (let s : State :=
        { State.reset with
          ulp :=
            { State.reset.ulp with
              queue := List.replicate 4 ⟨0, [1], 0, 0⟩, slot := some ⟨5, [1, 0], none⟩
              overruns := List.replicate 3 ⟨5, [1, 6], none⟩ } }
       s.awake = true ∧ s.held = false ∧ s.ulp.queue.length = 4 ∧ s.ulp.slot.isSome = true ∧ s.ulp.overruns.length < 4) := by
  decide

theorem witness_ReadsAnswerWithoutEffect :
    State.reset.Receptive ∧ channelOf 0x40 < 2 ∧ State.reset.Permitted 0x40 .user false ∧
      State.reset.Permitted 0 .buffer false ∧ tableGroup 4 = some .charge ∧ State.reset.Permitted 0x40 .charge false ∧
      paramGroup 46 = some .power ∧ State.reset.Permitted 0 .power false := by decide

theorem witness_GateTablesAreWritten :
    State.reset.Receptive ∧ State.reset.Permitted 0x40 .gate true ∧ gateDirOf [3, 2, 96, 32] = some ⟨true, true, .hold, 96, 32⟩ ∧
      gateDirOf [1, 0, 97, 32] = none ∧ (15 : Byte).toNat ≤ 15 ∧ 15 < (16 : Byte).toNat ∧
      gateEntryOf [0, 1, 254, 3, 1, 0] = some ⟨.key, 1, 254, .wake, true, 0⟩ ∧ gateEntryOf [0, 0, 254, 3, 1, 0] = none ∧
      (127 : Byte).toNat + (1 : Byte).toNat ≤ 128 ∧ 128 < (127 : Byte).toNat + (2 : Byte).toNat := by decide

theorem witness_PostureRuleAndProfileWrites :
    (State.reset.Permitted 0 .sensing true ∧ (PostureRow.ofBytes [1, 0, 0, 0x80, 0x16, 63, 0xF7]).acceptable = true ∧
        (PostureRow.ofBytes [1, 0, 0, 0x81, 0x16, 63, 0xF7]).acceptable = false ∧ 0 < State.reset.par.postureDwell) ∧
      (State.reset.Permitted 0 .sleep true ∧
        sleepRuleOf [1, 1, 0, 1, 0, 0, 0, 0, 1, 125, 0x60, 0xEA, 2] =
          some ⟨true, 1, 1, .any, .any, 0, some 125, 60000, .keepAwake⟩ ∧
        sleepRuleOf [1, 1, 0, 1, 0, 0, 0, 0, 1, 126, 0x60, 0xEA, 2] = none) ∧
      (State.reset.Permitted 0 .charge true ∧ Profile.default.bytes.length = 17 ∧
        (Profile.ofBytes Profile.default.bytes).valid = true ∧ (Profile.ofBytes (List.replicate 17 0)).valid = false ∧
        channelOf 0x40 = 1 ∧
        ({ State.reset with ulp := { State.reset.ulp with driver := List.replicate 10 .write } } : State).Permitted 0x40 .charge true) := by
  decide

theorem witness_ConfigSetAndReportEnableStore :
    (paramGroup 1 = some .sensing ∧ State.reset.Permitted 0 .sensing true ∧ ((4 : Byte).toNat ≤ 4) ∧ (36 ≤ (46 : Byte).toNat) ∧
        (channelOf 0x40 < 2 ∧ 46 < (47 : Byte).toNat)) ∧
      State.reset.Permitted 0x40 .user true := by decide

def tight (st : DockState) (b : Nat) : State := { docked st with par := { Params.default with bTotal := b } }

theorem witness_DockStepsBeginInTheirStates :
    ((tight .present 50).Receptive ∧ (tight .present 50).Permitted 0 .dock true ∧ (tight .present 50).psc.power = .run ∧
        (tight .present 50).dlc.step = none ∧ (tight .present 50).dlc.walk = none ∧ 50 ≤ (tight .present 50).par.bTotal) ∧
      ((tight .identified 400).dlc.activeDemand ≤ (tight .identified 400).par.bTotal) ∧
      ((tight .identified 399).par.bTotal < (tight .identified 399).dlc.activeDemand) ∧
      ((docked .active).Receptive ∧ (docked .quiesced).dlc.activeDemand ≤ (docked .quiesced).par.bTotal) ∧
      ((dockIn .faulted).state.releasable = true ∧ (docked .faulted).dlc.step = none ∧
        (quiescing 0 0).dlc.step ≠ none ∧ (quiescing 0 0).igt.head = .idle ∧ (quiescing 0 0).dlc.state.releasable = true) := by decide

theorem witness_DockAutoWalksAndRefusals :
    (({ dockIn .active with step := some .quiesce } : Dlc).step ≠ none ∧ (docked .active).dlc.step = none ∧
        (docked .active).dlc.walk = none ∧ (docked .active).dlc.state ≠ .present ∧ (docked .active).dlc.state ≠ .identified ∧
        (docked .active).dlc.state ≠ .quiesced ∧ State.reset.dlc.state ≠ .active ∧ State.reset.dlc.state.releasable = false ∧
        2 < (3 : Byte).toNat) ∧
      (∀ st ∈ [DockState.present, .identified, .active, .quiesced, .covered, .absent, .faulted],
        (docked st).Receptive ∧ (docked st).Permitted 0 .dock true ∧ (docked st).dlc.step = none ∧ (docked st).dlc.walk = none ∧
          (docked st).psc.power = .run ∧ (docked st).dlc.state = st ∧ (docked st).dlc.activeDemand ≤ (docked st).par.bTotal) ∧
      DockState.absent ∉ [DockState.present, .identified, .active, .covered] ∧ (2 : Byte).toNat ≤ 2 ∧
      50 ≤ (tight .present 50).par.bTotal := by decide

/-- 512 bytes: a payload of 16 takes 20. -/
theorem witness_PassdownIsStoredOrRefused :
    let s (n : Nat) : State :=
      { docked .active with fbf := { State.reset.fbf with passdown := [⟨.passdown, List.replicate (508 - n) 0⟩] } }
    (s 20).Receptive ∧ (s 20).Permitted 0 .dock true ∧ (List.replicate 16 (0 : Byte)).length ≤ 16 ∧ 16 + 4 ≤ (s 20).fbf.passdownFree ∧
      (s 19).fbf.passdownFree < 16 + 4 ∧ State.reset.dlc.state ≠ .active := by decide +kernel

theorem witness_GateRescanAndFlush :
    let s : State :=
      { gated .pass (List.range' 2 15) 96 with fbf := { (gated .pass [] 96).fbf with hold := [⟨.press 1, false, 0⟩] } }
    s.Receptive ∧ s.Permitted 0x40 .gate true ∧ s.igt.proc = none ∧ State.reset.fbf.hold = [] ∧ s.gateDir.present = true ∧
      s.gateDir.action = .pass ∧ findEntry (.press 1) s.igt.entries s.gateDir.first s.gateDir.count = none ∧
      s.igt.keys.contains 1 = false ∧ s.igt.keys.length < 16 ∧ s.igt.pend = [] ∧ 6 ≤ s.fbf.inputFree ∧ s.ulp.lineFree = false ∧
      ∀ f ∈ s.fbf.hold, f.decided = false := by decide

/-- An undecided press before a decided frame; room for 6 or for 5 bytes. -/
def flushing (b : HoldBody) (room : Nat) : State :=
  { gated .pass [42] 96 with
    fbf :=
      { (gated .pass [] 96).fbf with
        hold := [⟨.press 7, false, 0⟩, ⟨b, true, 0⟩], map := { (gated .pass [] 96).fbf.map with input := ⟨0, room⟩ } } }

theorem witness_GateRescanAndFlush_decided :
    (∀ b ∈ [HoldBody.press 60, .release 42 false, .point [1, 2, 3, 4]], ∀ n ∈ [5, 6],
        let s := flushing b n
        s.Receptive ∧ s.Permitted 0x40 .gate true ∧ s.igt.proc = none ∧ s.igt.head = .idle ∧ s.igt.pend = [] ∧
          s.ulp.lineFree = false ∧ s.gateDir.present = true ∧ s.fbf.hold.filter HoldFrame.decided = [⟨b, true, 0⟩]) ∧
      ((flushing (.press 60) 5).fbf.inputFree < (⟨.press 60, true, 0⟩ : HoldFrame).size ∧
        (⟨.press 60, true, 0⟩ : HoldFrame).size ≤ (flushing (.press 60) 6).fbf.inputFree ∧
        (flushing (.press 60) 6).igt.keys.contains 60 = false ∧ (flushing (.press 60) 6).igt.keys.length < 16 ∧
        (flushing (.release 42 false) 6).igt.keys.contains 42 = true ∧ (undirected false).gateDir.present = false) ∧
      (let s : State :=
        { flushing (.press 60) 6 with igt := { (flushing (.press 60) 6).igt with head := .drainPaused, pend := [⟨42, .base⟩] } }
       s.igt.head ≠ .idle ∧ s.igt.pend ≠ [] ∧ s.Receptive) := by decide

def rotated (lock : Bool) : State :=
  { State.reset with oru := ⟨.portrait, some .landscape, none, lock, false, some 0⟩ }

theorem witness_RotationLockHoldsAndCommits :
    (rotated true).Receptive ∧ (rotated true).Permitted 0x40 .user true ∧ (rotated false).oru.lock = false ∧
      (rotated true).oru.lock = true ∧ (rotated true).oru.candidate = some .landscape ∧
      Orient.landscape ≠ (rotated true).oru.committed ∧ (rotated true).psc.power = .run ∧ 1 < (2 : Byte).toNat := by decide

theorem witness_ChargeControlByPhase :
    (inPhase .bulk).Receptive ∧ (inPhase .bulk).Permitted 0 .charge true ∧ (inPhase .none).pcc.phase = .none ∧
      (inPhase .idleDocked).pcc.phase = .idleDocked ∧ (inPhase .fault).pcc.phase = .fault ∧
      (inPhase .topup).pcc.phase.charging = true ∧ (inPhase .fault).pcc.phase.session = true := by decide

theorem witness_HostStateMovesTheHost :
    (∀ h ∈ [HostState.running, .advised, .entering, .sleeping, .waking, .off],
        (hostIn h).Prompt ∧ (hostIn h).Permitted 0 .sleep true ∧ (hostIn h).Calm ∧ (hostIn h).Unruled ∧
          (hostIn h).spu.cutStage = .none ∧ (hostIn h).spu.host = h ∧ (hostIn h).psc.power = .run ∧
          0 < (hostIn h).par.dozeDelay) ∧
      (∀ h ∈ [HostState.sleeping, .off],
        let s : State := { hostIn h with psc := { State.reset.psc with power := .doze, standby := some 5000 } }
        s.Prompt ∧ s.Calm ∧ s.Unruled ∧ s.psc.power = .doze ∧ s.spu.host = h ∧ s.fbf.hold = []) ∧
      (∀ c ∈ [CutStage.wait, .pulse],
        let s : State := { hostIn .off with spu := { (hostIn .off).spu with cutStage := c } }
        s.Prompt ∧ s.held = true ∧ s.Permitted 0 .sleep true ∧ s.spu.cutStage ≠ .none) ∧
      (3 : Byte).toNat ≤ 3 ∧ 3 < (4 : Byte).toNat := by decide

/-- 99 and 100 ms after the frame of the window, the frame right before and an older one. -/
theorem witness_NotifyOnlyNeedsTheUnlockWindow :
    let s (ms seq : Nat) : State :=
      { State.reset with spu := { State.reset.spu with unlock := some ⟨seq, 0⟩, rxSeq := 7 }, ms := ms }
    (s 99 7).Prompt ∧ (s 99 7).Permitted 0 .sleep true ∧ channelOf 0 = 0 ∧ channelOf 0x40 = 1 ∧
      (s 99 7).spu.unlock = some ⟨7, 0⟩ ∧ (s 99 7).spu.rxSeq = 7 ∧ since (s 99 7).ms 0 < 100 ∧ 100 ≤ since (s 100 7).ms 0 ∧
      (s 99 6).spu.unlock = some ⟨6, 0⟩ ∧ (6 : Nat) ≠ 7 ∧ State.reset.spu.unlock = none ∧ 1 < (2 : Byte).toNat ∧
      (hostIn .sleeping).Prompt ∧ (hostIn .sleeping).held = true ∧
      ({ State.reset with ulp := { State.reset.ulp with driver := List.replicate 10 .write } } : State).Permitted 0x40 .sleep true := by
  decide

theorem witness_AreaMapAndAreaClear :
    let good : List (BitVec 16) := [0, 1024, 1024, 64, 1120, 2464, 3584, 512, 0, 0]
    let bad : List (BitVec 16) := [0, 1024, 1024, 64, 1088, 2496, 3584, 512, 0, 0]
    State.reset.Receptive ∧ State.reset.Permitted 0 .buffer true ∧ good.length = 10 ∧
      (adjustMap (mapOfWords (good.map BitVec.toNat))).valid = true ∧ (adjustMap (mapOfWords (bad.map BitVec.toNat))).valid = false ∧
      (docked .active).dlc.state.mapLocked = true ∧ State.reset.dlc.state.mapLocked = false ∧ State.reset.fbf.input = [] ∧
      State.reset.igt.proc = none ∧ State.reset.igt.head = .idle ∧ State.reset.fbf.hold = [] ∧ State.reset.Calm ∧ State.reset.ulp.lost = 0 ∧ State.reset.ulp.lineFree = false ∧
      (let s (n : Nat) : State :=
        { gated .hold [42] 96 with
          fbf :=
            { (gated .hold [42] 96).fbf with
              map := { AreaMap.default with input := ⟨0, n⟩ }, hold := [⟨.press 60, false, 0⟩, ⟨.release 42 false, true, 0⟩] } }
       (s 6).Receptive ∧ (s 6).Permitted 0 .buffer true ∧ (s 6).Calm ∧ (s 6).ulp.lineFree = false ∧
        ((⟨.press 60, false, 0⟩ : HoldFrame).loneRelease && (⟨.press 60, false, 0⟩ : HoldFrame).decided) = false ∧
        6 ≤ (s 6).fbf.inputFree ∧ (s 6).igt.keys.contains 42 = true ∧ (s 5).fbf.inputFree < 6) ∧
      4 < (5 : Byte).toNat := by decide

theorem witness_AccessWordsAndPartReset :
    let opened : State := { State.reset with ulp := { State.reset.ulp with driver := List.replicate 10 .write } }
    let frozen : State := { State.reset with ulp := { State.reset.ulp with freeze := true } }
    (State.reset.Receptive ∧ State.reset.Permitted 0 .system true ∧ frozen.ulp.freeze = true ∧ opened.Permitted 0x40 .system true ∧
        channelOf 0x40 = 1) ∧
      (channelOf 0 = 0 ∧ State.reset.ulp.freeze = false ∧ 1 < (2 : Byte).toNat ∧ 9 < (10 : Byte).toNat ∧ 2 < (3 : Byte).toNat ∧
        (9 : Byte).toNat ≤ 9 ∧ (8 : Byte).toNat ≤ 8) ∧
      State.reset.ulp.rx = [] := by decide

end Sys2Proof.Tests
end

section
/-! The magnitude, continuity and hinge quality (01 R12, R15, R17) and the flat test (02 R25). -/

namespace Sys2Proof.Machine

/-! ### The magnitude -/

theorem natAbs_clampAxis_le (v : Int) : (clampAxis v).natAbs ≤ 8192 := by
  unfold clampAxis
  omega

/-- Components of at most `n` give at most one and a half times `n`. -/
theorem magnitude_le {u v : Int} {n : Nat} (hu : u.natAbs ≤ n) (hv : v.natAbs ≤ n) : magnitude u v ≤ n + n / 2 := by
  have hmax : max u.natAbs v.natAbs ≤ n := max_le hu hv
  have hmin : min u.natAbs v.natAbs / 2 ≤ n / 2 := Nat.div_le_div_right (min_le_of_left_le hu)
  exact Nat.add_le_add hmax hmin

theorem magnitude_clampAxis_le (x y : Int) : magnitude (clampAxis x) (clampAxis y) ≤ 12288 :=
  magnitude_le (natAbs_clampAxis_le x) (natAbs_clampAxis_le y)

/-! ### Continuity: the four rows of R15's table, and what follows from them -/

@[simp] theorem continuity_none (r : Nat) : continuity none r = r := rfl

theorem continuity_of_wrap_above {h r : Nat} (hh : 4320 ≤ h) (hr : r < 1440) : continuity (some h) r = 5760 :=
  if_pos ⟨hh, hr⟩

theorem continuity_of_wrap_below {h r : Nat} (hh : h ≤ 1440) (hr : 4320 ≤ r) : continuity (some h) r = 0 :=
  (if_neg (by omega)).trans (if_pos ⟨hh, hr⟩)

theorem continuity_of_no_wrap {h r : Nat} (ha : ¬(4320 ≤ h ∧ r < 1440)) (hb : ¬(h ≤ 1440 ∧ 4320 ≤ r)) :
    continuity (some h) r = r :=
  (if_neg ha).trans (if_neg hb)

/-- From the upper quarter of the travel no raw angle leads into the lower one. -/
theorem le_continuity_of_high {h : Nat} (hh : 4320 ≤ h) (r : Nat) : 1440 ≤ continuity (some h) r := by
  rcases Nat.lt_or_ge r 1440 with hr | hr
  · rw [continuity_of_wrap_above hh hr]
    decide
  · rwa [continuity_of_no_wrap (by omega) (by omega)]

/-- From the lower quarter of the travel no raw angle leads into the upper one. -/
theorem continuity_lt_of_low {h : Nat} (hh : h ≤ 1440) (r : Nat) : continuity (some h) r < 4320 := by
  rcases Nat.lt_or_ge r 4320 with hr | hr
  · rwa [continuity_of_no_wrap (by omega) (by omega)]
  · rw [continuity_of_wrap_below hh hr]
    decide

/-! ### The hinge record at a sample -/

/-- A sample with both magnitudes strong and a fresh base vector is good; its previous angle is the record's (R14, R15). -/
theorem hingeSample_of_strong {s : State} {l b : Vec} (hl : s.hau.lid = some l) (hb : s.hau.base = some b)
    (hc : s.hau.cond = .fresh) (hml : s.par.mMin ≤ magnitude l.y l.z) (hmb : s.par.mMin ≤ magnitude b.y b.z) :
    hingeSample s =
      some (continuity s.hau.hinge.angle (rawAngle (psi l.y l.z) (psi b.y b.z) s.par.hingeOffset)) := by
  have strong : ¬(magnitude l.y l.z < s.par.mMin ∨ magnitude b.y b.z < s.par.mMin ∨ s.hau.cond ≠ .fresh) := by
    rintro (h | h | h)
    · exact absurd h (Nat.not_lt.mpr hml)
    · exact absurd h (Nat.not_lt.mpr hmb)
    · exact h hc
  simp only [hingeSample, hl, hb, if_neg strong]

/-- A weak sample loses the angle or holds it. -/
theorem Hinge.weak_eq_lost_or_held (limit n : Nat) (h : Hinge) :
    h.weak limit n = Hinge.lost ∨ h.weak limit n = ⟨h.angle, .held, n⟩ := by
  unfold Hinge.weak
  split
  · exact .inl rfl
  · exact .inr rfl

theorem Hinge.weak_angle_of_unknown {limit n : Nat} {h : Hinge} (hq : (h.weak limit n).quality = .unknown) :
    (h.weak limit n).angle = none := by
  rcases h.weak_eq_lost_or_held limit n with hw | hw
  · rw [hw]
    rfl
  · rw [hw] at hq
    cases hq

/-- No row of R17's table leaves an angle beside the quality UNKNOWN. -/
theorem Hinge.next_angle_of_unknown (limit : Nat) (sample : Option Nat) (h : Hinge)
    (hq : (Hinge.next limit sample h).quality = .unknown) : (Hinge.next limit sample h).angle = none := by
  cases sample with
  | some a => cases hq
  | none =>
    obtain ⟨angle, quality, holds⟩ := h
    cases quality with
    | good => exact Hinge.weak_angle_of_unknown hq
    | hall => exact Hinge.weak_angle_of_unknown hq
    | held => exact Hinge.weak_angle_of_unknown hq
    | unknown => rfl

/-! ### The evaluation of the orientation -/

@[simp] theorem flatTest_false (threshold m : Nat) : flatTest threshold false m = true ↔ m < threshold := by
  simp [flatTest]

@[simp] theorem flatTest_true (threshold m : Nat) : flatTest threshold true m = true ↔ m < threshold + 64 := by
  simp [flatTest]

@[simp] theorem chooseOrient_true (margin : Nat) (o : Oru) (v : Vec) :
    chooseOrient margin o true v = if 0 ≤ v.z then .flatUp else .flatDown := rfl

/-- An evaluation stores the flat flag, the orientation angle and the candidate; of the rest only the dwell timer may change (02 R24 to R29). -/
theorem Oru.evaluated_fst {p : Params} {v : Vec} {o : Oru} {flat : Bool} (inRun : Bool)
    (hf : flatTest p.flatThreshold o.flat (magnitude v.y v.x) = flat) :
    ∃ dwell, (o.evaluated p inRun v).1 =
      { o with
        flat, dwell
        angle := if flat then none else some (psi v.y v.x)
        candidate := some (chooseOrient p.margin o flat v) } := by
  subst hf
  unfold Oru.evaluated
  dsimp only
  split_ifs <;> exact ⟨_, rfl⟩

@[simp] theorem Oru.evaluated_flat (p : Params) (inRun : Bool) (v : Vec) (o : Oru) :
    (o.evaluated p inRun v).1.flat = flatTest p.flatThreshold o.flat (magnitude v.y v.x) := by
  obtain ⟨dwell, h⟩ := Oru.evaluated_fst (o := o) inRun rfl
  rw [h]

/-- With the flag set after the test there is no orientation angle, and the sign of z chooses the candidate (R25). -/
theorem Oru.evaluated_of_flat {p : Params} {inRun : Bool} {v : Vec} {o : Oru}
    (hf : (o.evaluated p inRun v).1.flat = true) :
    (o.evaluated p inRun v).1.angle = none ∧
      (o.evaluated p inRun v).1.candidate = some (if 0 ≤ v.z then .flatUp else .flatDown) := by
  rw [Oru.evaluated_flat] at hf
  obtain ⟨dwell, h⟩ := Oru.evaluated_fst inRun hf
  rw [h]
  exact ⟨rfl, rfl⟩

/-- Settles O19: R12 from the clamp's range, R15 row by row and from the hinge record's transitions, R25 from the one lemma about an evaluation. -/
theorem magnitudeContinuityAndFlatTest : Obligations.MagnitudeContinuityAndFlatTest := by
  refine ⟨⟨fun _ _ => rfl, magnitude_clampAxis_le⟩, ⟨continuity_none, fun h r => ?rows, ?sample, ?unknown⟩,
    rfl, rfl, fun _ => rfl, fun p inRun v o => ⟨fun hf => ?enter, fun hf => ?leave, Oru.evaluated_of_flat⟩⟩
  case rows =>
    exact ⟨continuity_of_wrap_above, continuity_of_wrap_below, continuity_of_no_wrap,
      fun hh => le_continuity_of_high hh r, fun hh => continuity_lt_of_low hh r⟩
  case sample =>
    intro s l b hl hb hc hml hmb
    exact hingeSample_of_strong hl hb hc hml hmb
  case unknown => exact Hinge.next_angle_of_unknown
  case enter => rw [Oru.evaluated_flat, hf, flatTest_false]
  case leave => rw [Oru.evaluated_flat, hf, flatTest_true]

end Sys2Proof.Machine
end

section
/-! The match condition of a posture row (03 R40), the re-test of the committed row (R42) and the scan in index order (R43). -/

namespace Sys2Proof.Machine

/-! ### The match condition -/

theorem PostureRow.angleFits_iff (r : PostureRow) (m : Nat) (angle : Option Nat) :
    r.angleFits m angle = true ↔
      (∀ a, angle = some a → r.low - m ≤ a ∧ a ≤ min 5760 (r.high + m)) ∧
        (angle = none → r.low = 0 ∧ r.high = 5760) := by
  cases angle with
  | none => simp [PostureRow.angleFits]
  | some a => simp [PostureRow.angleFits]

theorem PostureRow.orientFits_iff (r : PostureRow) (o : Orient) :
    r.orientFits o = true ↔
      (o ≠ .unknown → r.orients.getLsbD o.code = true) ∧ (o = .unknown → r.orients = BitVec.allOnes 6) := by
  unfold PostureRow.orientFits
  by_cases ho : o = .unknown
  · simp [ho]
  · simp [ho]

/-- R40: a row matches when it is valid and the angle, the orientation and the base condition each fit it. -/
theorem rowMatches_iff (m : Nat) (s : State) (r : PostureRow) :
    rowMatches m s r = true ↔
      r.valid = true ∧ r.angleFits m s.hau.hinge.angle = true ∧ r.orientFits s.oru.committed = true ∧
        r.bases.getLsbD s.pcl.cond.code = true := by
  simp only [rowMatches, Bool.and_eq_true, and_assoc]

/-! ### The re-test of the committed row -/

/-- R42: the re-test asks for a committed row that is valid, still holds the committed code, and matches with its band widened. -/
theorem retest_iff (s : State) :
    retest s = true ↔
      ∃ i r, s.pcl.row = some i ∧ s.pcl.table[i]? = some r ∧ r.valid = true ∧ r.code = s.pcl.code ∧
        rowMatches s.par.hysteresis s r = true := by
  unfold retest
  cases s.pcl.row with
  | none => simp
  | some i =>
    cases hr : s.pcl.table[i]? with
    | none => simp [hr]
    | some r => simp [hr, and_assoc]

theorem choosePosture_of_retest {s : State} (h : retest s = true) : choosePosture s = (s.pcl.code, s.pcl.row) :=
  if_pos h

theorem choosePosture_of_not_retest {s : State} (h : ¬retest s = true) :
    choosePosture s = scanRows s 0 s.pcl.table :=
  if_neg h

/-! ### The scan -/

@[simp] theorem scanRows_cons_of_match {s : State} {r : PostureRow} (i : Nat) (rest : List PostureRow)
    (h : rowMatches 0 s r = true) : scanRows s i (r :: rest) = (r.code, some i) :=
  if_pos h

@[simp] theorem scanRows_cons_of_no_match {s : State} {r : PostureRow} (i : Nat) (rest : List PostureRow)
    (h : rowMatches 0 s r = false) : scanRows s i (r :: rest) = scanRows s (i + 1) rest :=
  if_neg (Bool.eq_false_iff.mp h)

/-- A scan that starts to count at `i` gives the first row that matches, `k` places further on. -/
theorem scanRows_of_first_match {s : State} {rows : List PostureRow} {k : Nat} {r : PostureRow} (i : Nat)
    (hr : rows[k]? = some r) (hm : rowMatches 0 s r = true)
    (hbefore : ∀ (j : Nat) (q : PostureRow), j < k → rows[j]? = some q → rowMatches 0 s q = false) :
    scanRows s i rows = (r.code, some (i + k)) := by
  induction rows generalizing i k with
  | nil => cases hr
  | cons q rest ih =>
    cases k with
    | zero =>
      obtain rfl : q = r := Option.some.inj hr
      exact scanRows_cons_of_match i rest hm
    | succ k =>
      have hq : rowMatches 0 s q = false := hbefore 0 q k.succ_pos rfl
      have hrest : scanRows s (i + 1) rest = (r.code, some (i + 1 + k)) :=
        ih (i + 1) hr fun j p hj hp => hbefore (j + 1) p (Nat.succ_lt_succ hj) hp
      rw [scanRows_cons_of_no_match i rest hq, hrest, Nat.add_right_comm, Nat.add_assoc]

theorem scanRows_of_no_match {s : State} {rows : List PostureRow} (i : Nat)
    (h : ∀ r ∈ rows, rowMatches 0 s r = false) : scanRows s i rows = (0, none) := by
  induction rows generalizing i with
  | nil => rfl
  | cons q rest ih =>
    obtain ⟨hq, hrest⟩ := List.forall_mem_cons.mp h
    rw [scanRows_cons_of_no_match i rest hq, ih (i + 1) hrest]

/-- Settles O21: R40's condition for any margin, R42 from what the re-test asks for, R43 by induction on the rows of the scan. -/
theorem postureChoiceFollowsRowOrder : Obligations.PostureChoiceFollowsRowOrder := by
  refine ⟨⟨rfl, rfl, fun _ => rfl⟩, fun s => ⟨fun m r => ?condition, ?kept, fun hfail => ?scanned⟩⟩
  case condition =>
    rw [rowMatches_iff, PostureRow.angleFits_iff, PostureRow.orientFits_iff]
    simp only [and_assoc]
  case kept =>
    intro i r hrow hr hvalid hcode hm
    rw [choosePosture_of_retest ((retest_iff s).mpr ⟨i, r, hrow, hr, hvalid, hcode, hm⟩), hrow]
  case scanned =>
    have hretest : ¬retest s = true := by
      rw [retest_iff]
      rintro ⟨i, r, hrow, hr, hvalid, hcode, hm⟩
      exact absurd hm (Bool.eq_false_iff.mp (hfail i r hrow hr hvalid hcode))
    rw [choosePosture_of_not_retest hretest]
    refine ⟨fun i r hr hm hbefore => ?first, scanRows_of_no_match 0⟩
    case first => simpa only [Nat.zero_add] using scanRows_of_first_match 0 hr hm hbefore

end Sys2Proof.Machine
end

section
/-! The Mirror area's displace-oldest policy (06 R118) and the decimation that feeds it (01 R21). -/

namespace Sys2Proof.Machine

/-! ### When a frame fits -/

@[simp] theorem occupancy_nil : occupancy [] = 0 := rfl

/-- The free space is a difference cut off at 0, so a frame fits exactly where its size, which is not 0, brings the occupancy to at most the length. -/
theorem fits_iff {size : Nat} (hpos : 0 < size) (len : Nat) (l : List Stored) :
    size ≤ len - occupancy l ↔ occupancy l + size ≤ len := by omega

/-! ### Displacement -/

theorem displace_cons_of_fits {len size : Nat} {f : Stored} {rest : List Stored}
    (h : size ≤ len - occupancy (f :: rest)) : displace len size (f :: rest) = f :: rest :=
  if_pos h

theorem displace_cons_of_not_fits {len size : Nat} {f : Stored} {rest : List Stored}
    (h : ¬size ≤ len - occupancy (f :: rest)) : displace len size (f :: rest) = displace len size rest :=
  if_neg h

/-- A frame larger than the area displaces all of it. -/
theorem displace_of_len_lt {len size : Nat} (h : len < size) (l : List Stored) : displace len size l = [] := by
  induction l with
  | nil => rfl
  | cons f rest ih =>
    have hno : ¬size ≤ len - occupancy (f :: rest) := by omega
    rw [displace_cons_of_not_fits hno, ih]

/-- What displacement keeps for a frame no larger than the area is a suffix that leaves room for it; no longer suffix does. -/
theorem exists_displace_eq_drop {len size : Nat} (hpos : 0 < size) (hsize : size ≤ len) (l : List Stored) :
    ∃ n, displace len size l = l.drop n ∧ occupancy (l.drop n) + size ≤ len ∧
      ∀ k, k < n → len < occupancy (l.drop k) + size := by
  induction l with
  | nil => exact ⟨0, rfl, by simpa using hsize, fun k hk => absurd hk k.not_lt_zero⟩
  | cons f rest ih =>
    by_cases hfit : size ≤ len - occupancy (f :: rest)
    · exact ⟨0, displace_cons_of_fits hfit, (fits_iff hpos len _).mp hfit, fun k hk => absurd hk k.not_lt_zero⟩
    · obtain ⟨n, hkept, hroom, hleast⟩ := ih
      refine ⟨n + 1, (displace_cons_of_not_fits hfit).trans hkept, hroom, fun k hk => ?_⟩
      cases k with
      | zero => exact Nat.lt_of_not_le (mt (fits_iff hpos len _).mpr hfit)
      | succ k => exact hleast k (Nat.lt_of_succ_lt_succ hk)

/-! ### The Mirror area and its decimation -/

theorem Fbf.putMirror_of_fits {b : Fbf} {p : List Byte}
    (h : p.length + 4 ≤ b.map.mirror.len - occupancy (displace b.map.mirror.len (p.length + 4) b.mirror)) :
    b.putMirror p =
      { b with mirror := displace b.map.mirror.len (p.length + 4) b.mirror ++ [⟨.sample, p⟩] } :=
  if_pos h

theorem Fbf.putMirror_of_not_fits {b : Fbf} {p : List Byte}
    (h : ¬p.length + 4 ≤ b.map.mirror.len - occupancy (displace b.map.mirror.len (p.length + 4) b.mirror)) :
    b.putMirror p = { b with mirror := displace b.map.mirror.len (p.length + 4) b.mirror } :=
  if_neg h

/-- R118: a SAMPLE frame that does not fit even in the empty area is discarded, and the area is left empty. -/
theorem Fbf.putMirror_of_len_lt {b : Fbf} {p : List Byte} (h : b.map.mirror.len < p.length + 4) :
    b.putMirror p = { b with mirror := [] } := by
  rw [Fbf.putMirror_of_not_fits (by omega), displace_of_len_lt h]

/-- R118: a SAMPLE frame no larger than the area is stored at the tail, behind what the least displacement keeps. -/
theorem Fbf.putMirror_of_le_len {b : Fbf} {p : List Byte} (h : p.length + 4 ≤ b.map.mirror.len) :
    ∃ n, b.putMirror p = { b with mirror := b.mirror.drop n ++ [⟨.sample, p⟩] } ∧
      occupancy (b.mirror.drop n) + (p.length + 4) ≤ b.map.mirror.len ∧
      ∀ k, k < n → b.map.mirror.len < occupancy (b.mirror.drop k) + (p.length + 4) := by
  have hpos : 0 < p.length + 4 := Nat.succ_pos _
  obtain ⟨n, hkept, hroom, hleast⟩ := exists_displace_eq_drop hpos h b.mirror
  refine ⟨n, ?_, hroom, hleast⟩
  rw [Fbf.putMirror_of_fits (hkept ▸ (fits_iff hpos _ _).mpr hroom), hkept]

theorem mirrorSample_of_count_lt {s : State} (hn : s.par.mirrorN ≠ 0) (h : s.hau.mirrorCount + 1 < s.par.mirrorN) :
    mirrorSample s = ({ s with hau := { s.hau with mirrorCount := s.hau.mirrorCount + 1 } }, []) :=
  (if_neg hn).trans (if_pos h)

theorem mirrorSample_of_le_count {s : State} (hn : s.par.mirrorN ≠ 0) (h : s.par.mirrorN ≤ s.hau.mirrorCount + 1) :
    mirrorSample s =
      ({ s with hau := { s.hau with mirrorCount := 0 }, fbf := s.fbf.putMirror (samplePayload s.hau) }, [.arbiter]) :=
  (if_neg hn).trans (if_neg h.not_gt)

/-- Settles O22: R21's decimation by its two cases, R118 from the least displacement that makes room, found by induction on the stored frames. -/
theorem mirrorKeepsNewestFrames : Obligations.MirrorKeepsNewestFrames :=
  ⟨fun _ hn => ⟨mirrorSample_of_count_lt hn, mirrorSample_of_le_count hn⟩,
    fun _ _ _ => ⟨Fbf.putMirror_of_len_lt, Fbf.putMirror_of_le_len⟩⟩

end Sys2Proof.Machine
end

section
/-! The six stages of the pen setpoint and the pause decision (07 R130), and the room that R129 and R131 leave. -/

namespace Sys2Proof.Machine

/-! ### Stage 2: the derated phase current -/

theorem derated_of_le_knee {p : Params} {t : Int} (i : Nat) (h : t ≤ p.tKnee) : derated p t i = i :=
  if_pos h

theorem derated_of_cut_le {p : Params} {t : Int} (i : Nat) (hknee : (p.tKnee : Int) < t) (hcut : (p.tCut : Int) ≤ t) :
    derated p t i = 0 :=
  (if_neg hknee.not_ge).trans (if_pos hcut)

theorem derated_of_between {p : Params} {t : Int} (i : Nat) (hknee : (p.tKnee : Int) < t) (hcut : t < p.tCut) :
    derated p t i = i * (p.tCut - t).toNat / (p.tCut - p.tKnee) :=
  (if_neg hknee.not_ge).trans (if_neg hcut.not_ge)

/-- Between knee and cut both differences are positive, so the model's quotient of naturals is R130's quotient of integers. -/
theorem natCast_derated_of_between {p : Params} {t : Int} (i : Nat) (hknee : (p.tKnee : Int) < t) (hcut : t < p.tCut) :
    (derated p t i : Int) = i * (p.tCut - t) / (p.tCut - p.tKnee) := by
  have hnum : ((p.tCut - t).toNat : Int) = p.tCut - t := Int.toNat_of_nonneg (by omega)
  have hden : ((p.tCut - p.tKnee : Nat) : Int) = p.tCut - p.tKnee := Int.ofNat_sub (by omega)
  rw [derated_of_between i hknee hcut, Int.natCast_ediv, Int.natCast_mul, hnum, hden]

/-! ### Stages 3 to 5: the minimum, WARN and the conditions -/

theorem penCandidate_of_denied {room : Nat} {s : State}
    (h : s.sbu.railState = .shed ∨ s.awake = false ∨ s.pcc.phase.charging = false) : penCandidate room s = 0 :=
  if_pos (by simpa using h)

/-- Out of SHED, awake and in a charging phase, only WARN's halving is left of stages 4 and 5. -/
theorem penCandidate_of_allowed {room : Nat} {s : State} (hrail : s.sbu.railState ≠ .shed) (hawake : s.awake = true)
    (hphase : s.pcc.phase.charging = true) :
    penCandidate room s =
      if s.sbu.railState = .warn then min s.sbu.iPhase (min room (derated s.par s.sbu.temp s.sbu.iPhase)) / 2
      else min s.sbu.iPhase (min room (derated s.par s.sbu.temp s.sbu.iPhase)) :=
  if_neg (by simp [hrail, hawake, hphase])

theorem penCandidate_of_normal {room : Nat} {s : State} (hrail : s.sbu.railState = .normal) (hawake : s.awake = true)
    (hphase : s.pcc.phase.charging = true) :
    penCandidate room s = min s.sbu.iPhase (min room (derated s.par s.sbu.temp s.sbu.iPhase)) :=
  (penCandidate_of_allowed (by simp [hrail]) hawake hphase).trans (if_neg (by simp [hrail]))

theorem penCandidate_of_warn {room : Nat} {s : State} (hrail : s.sbu.railState = .warn) (hawake : s.awake = true)
    (hphase : s.pcc.phase.charging = true) :
    penCandidate room s = min s.sbu.iPhase (min room (derated s.par s.sbu.temp s.sbu.iPhase)) / 2 :=
  (penCandidate_of_allowed (by simp [hrail]) hawake hphase).trans (if_pos hrail)

/-! ### Stage 6: the floor -/

theorem penSetpoint_of_candidate {room v : Nat} {s : State} (h : penCandidate room s = v) :
    penSetpoint room s = if v < s.par.iMin then 0 else v := by
  rw [penSetpoint, h]

theorem penSetpoint_of_denied {room : Nat} {s : State}
    (h : s.sbu.railState = .shed ∨ s.awake = false ∨ s.pcc.phase.charging = false) : penSetpoint room s = 0 :=
  (penSetpoint_of_candidate (penCandidate_of_denied h)).trans (ite_self 0)

/-! ### What applying a setpoint stores -/

@[simp] theorem applyPen_sbu (told : Bool) (v : Nat) (s : State) :
    (applyPen told v s).1.sbu = { s.sbu with penSet := v, pause := decide (v = 0) && s.pcc.phase.charging } := rfl

/-- R130: the pause decision is that the session is in a charging phase and gets nothing. -/
theorem applyPen_pause_iff (told : Bool) (v : Nat) (s : State) :
    (applyPen told v s).1.sbu.pause = true ↔ v = 0 ∧ s.pcc.phase.charging = true := by
  rw [applyPen_sbu, Bool.and_eq_true, decide_eq_true_iff]

/-- R131: a recomputation leaves the pen the room beside the applied grant. -/
theorem recompute_penSet (told : Bool) (s : State) :
    (recompute told s).1.sbu.penSet = penSetpoint (s.par.bTotal - s.sbu.grant) s := rfl

theorem recompute_pause_iff (told : Bool) (s : State) :
    (recompute told s).1.sbu.pause = true ↔
      penSetpoint (s.par.bTotal - s.sbu.grant) s = 0 ∧ s.pcc.phase.charging = true :=
  applyPen_pause_iff told _ s

/-- R129: before a rising level is applied, the pen is left the room beside that level. -/
theorem raiseGrant_penSet (level : Nat) (capped : Bool) (s : State) :
    (raiseGrant level capped s).1.sbu.penSet = penSetpoint (s.par.bTotal - level) s := rfl

/-! ### Sound parameters -/

theorem State.ParamsSound.grant_le {s : State} (h : s.ParamsSound) : s.sbu.grant ≤ s.par.bTotal := by
  obtain ⟨-, -, -, hgrant⟩ := h
  exact hgrant

theorem State.ParamsSound.five_le_cut_sub_knee {s : State} (h : s.ParamsSound) :
    5 ≤ (s.par.tCut : Int) - s.par.tKnee := by
  obtain ⟨-, hdist, -, -⟩ := h
  omega

/-- Settles O23: R130 stage by stage, the two rooms of R129 and R131, and the distances that sound parameters keep. -/
theorem penSetpointStages : Obligations.PenSetpointStages := by
  intro room s
  refine ⟨⟨?knee, ?cut, ?between⟩, ?denied, ?normal, ?warn, ?applied, ?raised, ?sound⟩
  case knee => exact derated_of_le_knee s.sbu.iPhase
  case cut => exact derated_of_cut_le s.sbu.iPhase
  case between => exact natCast_derated_of_between s.sbu.iPhase
  case denied => exact penSetpoint_of_denied
  case normal => exact fun hr ha hp => penSetpoint_of_candidate (penCandidate_of_normal hr ha hp)
  case warn => exact fun hr ha hp => penSetpoint_of_candidate (penCandidate_of_warn hr ha hp)
  case applied => exact fun told => ⟨recompute_penSet told s, recompute_pause_iff told s⟩
  case raised => exact fun level capped => raiseGrant_penSet level capped s
  case sound => exact fun h => ⟨h.grant_le, h.five_le_cut_sub_knee⟩

end Sys2Proof.Machine
end

section
/-! SUPPORT. What a command does at most: nothing, or its core effect once its timer's time has passed, and then its
handovers; and the fields that each core effect and each handover may touch. -/

namespace Sys2Proof.Machine

/-- The fields that a handover may touch. -/
def Signal.blocks : Signal → List Block
  | .report _ _ | .reportRemoved | .arbiter => [.fbf, .ulp]
  | .spaceEvent | .igtCommit _ | .igtDeparture | .headStep | .gateRoute _ | .headAdmit | .holdCheck _ => [.igt, .fbf]
  | .received _ _ => [.spu, .ulp]
  | .serve => [.sib, .hau, .oru, .pcl, .dlc, .igt, .fbf, .sbu, .pcc, .spu, .ulp, .par]
  | .reply _ | .holdBegin => [.ulp]
  | .holdEnd | .walkNext | .pscLevels => []
  | .hauHall | .hinge | .hauDock _ => [.hau]
  | .mirror => [.hau, .fbf]
  | .oruEval | .oruCommit _ => [.oru]
  | .pclEval | .pclCommit | .pclDock => [.pcl]
  | .spuEval _ | .wakeRequest _ | .spuAction | .cutAssert => [.spu]
  | .dockLevel _ | .pccGarage _ | .pccLimit => [.sbu, .pcc]
  | .pscRecheck | .pscHost _ _ | .pscDeferred => [.hau, .oru, .pcl, .dlc, .sbu, .pcc, .psc, .ulp]
  | .grantApplied _ | .dlcPowerReq _ | .servePower => [.dlc]
  | .dlcPresence _ | .dlcRevoked | .dlcRelease _ | .dlcBegin _ | .openDue | .dlcRecover => [.dlc, .fbf]
  | .pscWake _ => [.psc]
  | .pscDozeCheck => [.oru, .sbu, .pcc, .psc]

/-- The frame of a handover. -/
theorem handle_blocks (g : Signal) (s : State) : Only g.blocks s (handle g s).1 := by
  cases g <;> unfold Only <;> dsimp only [handle, Signal.blocks]
  case pccGarage a =>
    cases a <;> simp (disch := decide) only [Bool.false_eq_true, if_false, if_true, ↓penInserted_only, ↓penRemoved_only]
  all_goals
    simp (disch := decide) only [↓composeReport_only, ↓offerOverflow_only, ↓spaceEvent_only, ↓arbiterChoice_only,
      ↓receiveFrame_only, ↓serveQueue_only, ↓commandReply_only, ↓beginHold_only, ↓endHold_only, ↓hallChange_only,
      ↓orientEvaluate_only, ↓orientCommit_only, ↓hingeAtSample_only, ↓mirrorSample_only, ↓postureEvaluate_only,
      ↓postureCommit_only, ↓gateCommit_only, ↓spuEvaluate_only, ↓wakeRequest_only, ↓spuAction_only, ↓cutAssert_only,
      ↓dockRequest_only, ↓hauDockNotice_only, ↓pclDockNotice_only, ↓gateDeparture_only, ↓standbyRecheck_only,
      ↓grantApplied_only, ↓dlcPresence_only, ↓dockRevoked_only, ↓dockRelease_only, ↓powerRequest_only,
      ↓beginStep_only, ↓walkNext_only, ↓servePower_only, ↓openDue_only, ↓beginRecovery_only, ↓limitAfterWrite_only,
      ↓headStep_only, ↓gateRoute_only, ↓headAdmit_only, ↓holdCheck_only, ↓hostChanged_only, ↓deferredRecheck_only,
      ↓wakeEvent_only, ↓levelConditions_only, ↓dozeCheck_only]

end Sys2Proof.Machine

namespace Sys2Proof

open Machine

/-- The payload of the frame that a host command stands for (11 R203), none for an event. -/
def Instr.frame : Instr → Option (Byte × List Byte)
  | .echo ct => some (ct, [1])
  | .tableWritePosture ct idx e => some (ct, 2 :: 0 :: idx :: e)
  | .tableWriteGateDir ct idx e => some (ct, 2 :: 1 :: idx :: e)
  | .tableWriteGateEntry ct idx e => some (ct, 2 :: 2 :: idx :: e)
  | .tableWriteSleepRule ct idx e => some (ct, 2 :: 3 :: idx :: e)
  | .tableWriteChargeProfile ct idx e => some (ct, 2 :: 4 :: idx :: e)
  | .tableRead ct table idx => some (ct, [3, table, idx])
  | .hitsClear ct first count => some (ct, [4, first, count])
  | .configSet ct num value => some (ct, 5 :: num :: num4 value.toNat)
  | .configGet ct num => some (ct, [6, num])
  | .statusRead ct block page => some (ct, [7, block, page])
  | .reportEnable ct mask =>
    some (ct, [8, byte mask.toNat, byte (mask.toNat / 256), byte (mask.toNat / 65536)])
  | .dockStepIdentify ct => some (ct, [9, 0])
  | .dockStepPower ct => some (ct, [9, 1])
  | .dockStepQuiesce ct => some (ct, [9, 2])
  | .dockStepWake ct => some (ct, [9, 3])
  | .dockStepRelease ct => some (ct, [9, 4])
  | .dockAuto ct target => some (ct, [10, target])
  | .passdown ct bytes => some (ct, 11 :: bytes)
  | .gateRescan ct => some (ct, [12])
  | .gateFlush ct => some (ct, [13])
  | .rotationLock ct value => some (ct, [14, value])
  | .chargeControlStart ct => some (ct, [15, 0])
  | .chargeControlStop ct => some (ct, [15, 1])
  | .hostState ct value => some (ct, [16, value])
  | .policyUnlock ct => some (ct, [17])
  | .forceMode ct mode => some (ct, [18, mode])
  | .areaMap ct words => some (ct, 19 :: words.flatMap fun w => num2 w.toNat)
  | .areaClear ct area => some (ct, [20, area])
  | .areaPeek ct area index count => some (ct, 21 :: area :: (num2 index.toNat ++ [count]))
  | .accessSet ct channel group word => some (ct, [22, channel, group, word])
  | .accessFreeze ct => some (ct, [23])
  | .partResetSoft ct => some (ct, [24, 0])
  | .partResetFull ct => some (ct, [24, 1])
  | _ => none

/-- A host command is the reception of its frame (log 6). -/
theorem exec_of_frame {c : Instr} {ct : Byte} {p : List Byte} (h : c.frame = some (ct, p)) (s : State) :
    exec c s = hostCommand ct p s := by
  cases c <;> simp only [Instr.frame, Option.some.injEq, Prod.mk.injEq, reduceCtorEq] at h <;>
    (obtain ⟨rfl, rfl⟩ := h; rfl)

/-- What a command does once its timer's remaining time has passed; what it asks of the timer or of the state is asked
again here, since the passing of time does not change the answer. -/
def Instr.core : Instr → State → Act
  | .rawChange i high => Machine.rawChange i high
  | .debounceExpiry i => debouncedChange i
  | .lidSampleEvent x y z => takeLidSample x y z
  | .orientDwellExpiry => orientCommit false
  | .postureDwellExpiry => postureCommit
  | .restartHoldExpiry => endRestartHold
  | .settleTimerDockExpiry => fun s => if s.dlc.settle.isSome then dockSettled s else quiet s
  | .pollPeriodExpiry => fun s => if s.dlc.slot.isSome then quiet s else quiet (openNextSlot s)
  | .identAttemptOpen => fun s =>
    if s.dlc.state = .identifying ∧ s.dlc.slot.isNone then quiet { s with dlc := s.dlc.attempt } else quiet s
  | .dockAnswer bytes => Machine.dockAnswer bytes
  | .answerStoppedShort => closeSlot gateArrival none .garbled
  | .answerWindowExpiry => closeSlot gateArrival none .missing
  | .readyTimerExpiry => dockFault .power true
  | .dockAttention => Machine.dockAttention
  | .walkStepResume => walkNext
  | .powerRequestServe => servePower
  | .pendingGrantApply => Machine.pendingGrantApply
  | .holdExpiry => fun s =>
    match s.fbf.hold with
    | [] => quiet s
    | f :: rest => expireHead f rest s
  | .spaceEvent => Machine.spaceEvent
  | .idleTimerIncrement => fun s =>
    let s := { s with igt := { s.igt with idleLeft := 1000 } }
    if s.igt.idle < 65535 then ({ s with igt := { s.igt with idle := s.igt.idle + 1 } }, [.spuEval .other]) else quiet s
  | .railReading mv => takeRail mv
  | .shedTimerExpiry => budgetEvent revokeGrant
  | .temperatureReading t => takeTemperature t
  | .measurementEvent mv ma => takeMeasurement mv ma
  | .phaseLimitExpiry => limitReached
  | .sleepDwellExpiry => spuAction
  | .wakeTimerExpiry => wakeFailed
  | .complianceExpiry => complianceDue
  | .cutWaitExpiry => cutAssert
  | .cutPulseExpiry => endCut
  | .pendingWakeServe => servePendingWake
  | .unlockWindowTimeout => fun s => quiet { s with spu := { s.spu with unlock := none } }
  | .dozeTimerExpiry => fun s => if s.psc.power = .run then enterDoze s else quiet s
  | .standbyTimerExpiry => fun s => if s.psc.standby.isSome then standbyDue s else quiet s
  | .deferredStandbyEntry => deferredRecheck
  | .settleTimerExpiry w => fun s => if s.psc.settle.isSome then enterRunFromSettle w s else quiet s
  | .uplinkActivity => Machine.uplinkActivity
  | .commandFrameReceived bytes => receiveBytes false bytes
  | .uplinkFrameDiscard bytes framingError => receiveBytes framingError bytes
  | .interbyteTimeout => receiveBytes true []
  | .frameTransmitEnd => transmitEnd
  | .overflowReport => offerOverflow
  | .powerOnReset r => hardReset .powerOn r
  | .brownoutReset r => hardReset .brownout r
  | .pinReset r => hardReset .pin r
  | .fullReset rail temp => Machine.fullReset rail temp
  | .softReset rail temp => Machine.softReset rail temp
  | c => fun s =>
    match c.frame with
    | some (ct, p) => hostFrame ct p s
    | none => quiet s

/-- A timer's expiry does nothing, or lets the remaining time pass and acts. -/
theorem onExpiry_cases (t : Timer) (f : State → Act) (s : State) :
    t = none ∧ onExpiry t f s = quiet s ∨ ∃ r, t = some r ∧ onExpiry t f s = f (elapse r s) := by
  cases t with
  | none => exact .inl ⟨rfl, rfl⟩
  | some r => exact .inr ⟨r, rfl, rfl⟩

/-- `u` is `s`, or `s` with some time passed. -/
def Elapsed (s u : State) : Prop := u = s ∨ ∃ d, u = elapse d s

theorem Elapsed.refl (s : State) : Elapsed s s := .inl rfl

theorem Elapsed.pass (d : Nat) (s : State) : Elapsed s (elapse d s) := .inr ⟨d, rfl⟩

/-- The outcome of an expiry whose action is `g` wherever the timer runs. -/
theorem finish_onExpiry {t : Timer} {f g : State → Act} {s : State}
    (h : ∀ r, t = some r → f (elapse r s) = g (elapse r s)) :
    finish (onExpiry t f s) = .next s ∨ ∃ u, Elapsed s u ∧ finish (onExpiry t f s) = finish (g u) := by
  rcases onExpiry_cases t f s with ⟨-, ht⟩ | ⟨r, hr, ht⟩
  · exact .inl (by rw [ht, finish_eq]; exact congrArg _ (settle_quiet s))
  · exact .inr ⟨_, Elapsed.pass r s, by rw [ht, h r hr]⟩

theorem finish_quiet (s : State) : finish (quiet s) = .next s := congrArg _ (settle_quiet s)

/-- Each command does nothing, or its core effect on the state as it stands once the time of its timer has passed. -/
theorem exec_cases (c : Instr) (s : State) :
    exec c s = .next s ∨ ∃ u, Elapsed s u ∧ exec c s = finish (c.core u) := by
  cases c
  case debounceExpiry i => exact finish_onExpiry fun _ _ => rfl
  case orientDwellExpiry => exact finish_onExpiry fun _ _ => rfl
  case postureDwellExpiry => exact finish_onExpiry fun _ _ => rfl
  case restartHoldExpiry => exact finish_onExpiry fun _ _ => rfl
  case pollPeriodExpiry => exact finish_onExpiry fun _ _ => rfl
  case identAttemptOpen => exact finish_onExpiry fun _ _ => rfl
  case readyTimerExpiry => exact finish_onExpiry fun _ _ => rfl
  case railReading mv => exact finish_onExpiry fun _ _ => rfl
  case shedTimerExpiry => exact finish_onExpiry fun _ _ => rfl
  case temperatureReading t => exact finish_onExpiry fun _ _ => rfl
  case measurementEvent mv ma => exact finish_onExpiry fun _ _ => rfl
  case sleepDwellExpiry => exact finish_onExpiry fun _ _ => rfl
  case wakeTimerExpiry => exact finish_onExpiry fun _ _ => rfl
  case complianceExpiry => exact finish_onExpiry fun _ _ => rfl
  case settleTimerDockExpiry =>
    exact finish_onExpiry fun r hr => by simp [Instr.core, hr, Dlc.pass, Timer.pass]
  case standbyTimerExpiry =>
    exact finish_onExpiry fun r hr => by simp [Instr.core, hr, Psc.pass, Timer.pass]
  case settleTimerExpiry w =>
    exact finish_onExpiry fun r hr => by simp [Instr.core, hr, Psc.pass, Timer.pass]
  case idleTimerIncrement => exact .inr ⟨_, Elapsed.pass s.igt.idleLeft s, rfl⟩
  case lidSampleEvent x y z =>
    simp only [exec, execLidSampleEvent, lidSample]
    split
    · exact finish_onExpiry fun _ _ => rfl
    · exact .inl (finish_quiet s)
  case holdExpiry =>
    simp only [exec, execHoldExpiry, holdExpiry]
    split
    · exact .inl (finish_quiet s)
    · rename_i f rest hl
      split
      · exact .inl (finish_quiet s)
      · exact .inr ⟨elapse (s.par.gateHold - since s.ms f.stamp) s, Elapsed.pass _ s, by simp [Instr.core, hl]⟩
  case phaseLimitExpiry =>
    simp only [exec, execPhaseLimitExpiry, phaseLimitExpiry]
    split
    · exact .inr ⟨_, Elapsed.pass _ s, rfl⟩
    · exact .inl (finish_quiet s)
  case cutWaitExpiry =>
    simp only [exec, execCutWaitExpiry, cutWaitExpiry]
    split
    · exact finish_onExpiry fun _ _ => rfl
    · exact .inl (finish_quiet s)
  case cutPulseExpiry =>
    simp only [exec, execCutPulseExpiry, cutPulseExpiry]
    split
    · exact finish_onExpiry fun _ _ => rfl
    · exact .inl (finish_quiet s)
  case unlockWindowTimeout =>
    simp only [exec, execUnlockWindowTimeout, unlockTimeout]
    split
    · split
      · exact .inr ⟨_, Elapsed.pass _ s, rfl⟩
      · exact .inl (finish_quiet s)
    · exact .inl (finish_quiet s)
  case dozeTimerExpiry =>
    simp only [exec, execDozeTimerExpiry, dozeTimerExpiry]
    split
    · rename_i hp
      exact finish_onExpiry fun _ _ => by simp [Instr.core, Psc.pass, hp]
    · exact .inl (finish_quiet s)
  all_goals exact .inr ⟨s, Elapsed.refl s, rfl⟩

/-- What the passing of time, every core effect and every handover keep, and the queue of commands has no part in, every
step keeps. -/
theorem step_keeps (P : State → Prop) (hpend : ∀ s l, P s → P { s with pending := l })
    (htime : ∀ d s, P s → P (elapse d s)) (hcore : ∀ c s, P s → P (Instr.core c s).1)
    (hhandle : ∀ g s, P s → P (handle g s).1) {s t : State} (hs : P s) (h : step s = .next t) : P t := by
  unfold step at h
  split at h
  · cases h
    exact htime 1 s hs
  · rename_i c rest _
    have hs' := hpend s rest hs
    rcases exec_cases c { s with pending := rest } with he | ⟨u, hu, he⟩
    · rw [he] at h; cases h; exact hs'
    · rw [he, finish_eq] at h
      cases h
      refine settle_inv P hhandle _ (hcore c u ?_)
      rcases hu with rfl | ⟨d, rfl⟩
      · exact hs'
      · exact htime d _ hs'

/-- The fields that the core effect of a command may touch. -/
def Instr.blocks : Instr → List Block
  | .rawChange _ _ | .debounceExpiry _ => [.sib]
  | .lidSampleEvent _ _ _ => [.hau]
  | .orientDwellExpiry => [.oru]
  | .postureDwellExpiry | .restartHoldExpiry => [.pcl]
  | .settleTimerDockExpiry | .pollPeriodExpiry | .readyTimerExpiry => [.dlc, .fbf]
  | .identAttemptOpen | .powerRequestServe => [.dlc]
  | .dockAnswer _ | .answerStoppedShort | .answerWindowExpiry => [.hau, .dlc, .igt, .fbf]
  | .holdExpiry | .spaceEvent => [.igt, .fbf]
  | .idleTimerIncrement => [.igt]
  | .shedTimerExpiry => [.dlc, .sbu, .pcc]
  | .pendingGrantApply | .railReading _ | .temperatureReading _ | .measurementEvent _ _ | .phaseLimitExpiry =>
    [.sbu, .pcc]
  | .sleepDwellExpiry | .wakeTimerExpiry | .complianceExpiry | .cutWaitExpiry | .cutPulseExpiry | .pendingWakeServe
  | .unlockWindowTimeout => [.spu]
  | .dozeTimerExpiry => [.oru, .sbu, .pcc, .psc]
  | .standbyTimerExpiry | .deferredStandbyEntry => [.hau, .oru, .pcl, .dlc, .sbu, .pcc, .psc, .ulp]
  | .settleTimerExpiry _ => [.hau, .oru, .pcl, .dlc, .fbf, .sbu, .pcc, .psc, .ulp]
  | .uplinkActivity => [.psc]
  | .commandFrameReceived _ | .uplinkFrameDiscard _ _ | .interbyteTimeout | .frameTransmitEnd => [.ulp]
  | .overflowReport => [.fbf, .ulp]
  | .powerOnReset _ | .brownoutReset _ | .pinReset _ | .fullReset _ _ | .softReset _ _ =>
    [.sib, .hau, .oru, .pcl, .dlc, .igt, .fbf, .sbu, .pcc, .spu, .psc, .ulp, .par, .ms]
  | _ => []

/-- The frame of a core effect. -/
theorem core_blocks (c : Instr) (s : State) : Only c.blocks s (c.core s).1 := by
  cases c
  case lidSampleEvent => exact takeLidSample_only _ _ _ _ rfl
  case settleTimerDockExpiry =>
    dsimp only [Instr.core]; split
    · exact dockSettled_only _ (by decide)
    · rfl
  case pollPeriodExpiry =>
    dsimp only [Instr.core]; split
    · rfl
    · exact openNextSlot_only _ (by decide)
  case identAttemptOpen => dsimp only [Instr.core]; split <;> rfl
  case dockAnswer => exact closeSlot_only _ _ _ rfl
  case holdExpiry =>
    dsimp only [Instr.core]; split
    · rfl
    · exact expireHead_only _ _ _ (by decide)
  case idleTimerIncrement => dsimp only [Instr.core]; split <;> rfl
  case shedTimerExpiry => exact budgetEvent_only _ _ (revokeGrant_only _ (by decide))
  case unlockWindowTimeout => rfl
  case dozeTimerExpiry =>
    dsimp only [Instr.core]; split
    · exact enterDoze_only _ (by decide)
    · rfl
  case standbyTimerExpiry =>
    dsimp only [Instr.core]; split
    · exact standbyDue_only _ (by decide)
    · rfl
  case settleTimerExpiry =>
    dsimp only [Instr.core]; split
    · exact enterRunFromSettle_only _ _ rfl
    · rfl
  all_goals unfold Only; dsimp only [Instr.core, Instr.frame, Instr.blocks]
  all_goals
    simp (disch := decide) only [↓rawChange_only, ↓debouncedChange_only, ↓orientCommit_only, ↓postureCommit_only,
      ↓endRestartHold_only, ↓closeSlot_only, ↓dockFault_only, ↓dockAttention_only, ↓walkNext_only, ↓servePower_only,
      ↓pendingGrantApply_only, ↓spaceEvent_only, ↓takeRail_only, ↓takeTemperature_only, ↓takeMeasurement_only,
      ↓limitReached_only, ↓spuAction_only, ↓wakeFailed_only, ↓complianceDue_only, ↓cutAssert_only, ↓endCut_only,
      ↓servePendingWake_only, ↓deferredRecheck_only, ↓uplinkActivity_only, ↓receiveBytes_only, ↓transmitEnd_only,
      ↓offerOverflow_only, ↓hardReset_only, ↓fullReset_only, ↓softReset_only, ↓hostFrame_only]

end Sys2Proof
end

section
/-! SUPPORT. What the service of the queue does at most, and what each command of the host may touch. -/

namespace Sys2Proof.Machine

/-- The fields that a command of a code may touch, once it has passed the tests 1 to 4. -/
def commandBlocks : Nat → List Block
  | 2 => [.pcl, .igt, .sbu, .pcc, .spu]
  | 4 | 12 => [.igt]
  | 5 => [.sib, .hau, .sbu, .pcc, .par]
  | 8 | 22 | 23 => [.ulp]
  | 10 => [.dlc]
  | 11 | 19 => [.fbf]
  | 13 | 20 => [.igt, .fbf]
  | 14 => [.oru]
  | 15 => [.sbu, .pcc]
  | 16 | 17 | 18 => [.spu]
  | _ => []

/-- The code of a command's payload, as `runCommand` reads it. -/
abbrev codeOf (p : List Byte) : Nat := (p.getD 0 0).toNat

/-- The frame of a command that has passed the tests 1 to 4. -/
theorem runCommand_blocks (platform : Bool) (seq : Nat) (time : Stamp) (p : List Byte) (s : State) :
    Only (commandBlocks (codeOf p)) s (runCommand platform seq time p s).act.1 := by
  unfold Only runCommand
  dsimp only
  split
  case h_24 =>
    unfold partResetResult
    split <;> exact Only.refl _ _
  all_goals
    rename_i h
    simp (disch := decide) only [codeOf, h, commandBlocks, plainResult, ↓echoResult_only, ↓tableWriteResult_only,
      ↓tableReadResult_only, ↓hitsClear_only, ↓configSetResult_only, ↓configGetResult_only, ↓readResult_only,
      ↓reportEnableResult_only, ↓dockStepResult_only, ↓dockAutoResult_only, ↓passdownCommand_only, ↓gateRescan_only,
      ↓gateFlush_only, ↓rotationLockResult_only, ↓chargeControlResult_only, ↓hostStateCommand_only,
      ↓policyUnlock_only, ↓forceModeCommand_only, ↓areaMapResult_only, ↓areaClearCommand_only,
      ↓accessSetResult_only, ↓accessFreezeResult_only]

/-- An execution is a refusal that closes the unlock window, or the command on a state with the window closed or, for
FORCE_MODE, as it was. -/
theorem executeFrame_fst_cases (f : RxFrame) (s : State) :
    (executeFrame f s).1 = State.closeUnlock { s with ulp := { s.ulp with executing := true } } ∨
      (executeFrame f s).1 =
          (runCommand (channelOf f.ct == 0) f.seq f.time f.payload { s with ulp := { s.ulp with executing := true } }).act.1 ∨
      (executeFrame f s).1 =
        (runCommand (channelOf f.ct == 0) f.seq f.time f.payload
          (State.closeUnlock { s with ulp := { s.ulp with executing := true } })).act.1 := by
  unfold executeFrame commandResult
  dsimp only
  split
  · exact .inl rfl
  · split
    · exact .inr (.inl rfl)
    · exact .inr (.inr rfl)

/-- The service of the queue does nothing, moves an overrun reply into the slot, or executes the head. -/
theorem serveQueue_cases (s : State) :
    serveQueue s = quiet s ∨
      (∃ r rs, s.ulp.overruns = r :: rs ∧
        serveQueue s = ({ s with ulp := { s.ulp with slot := some r, overruns := rs } }, [.arbiter])) ∨
      ∃ f q, s.ulp.queue = f :: q ∧ serveQueue s = executeFrame f { s with ulp := { s.ulp with queue := q } } := by
  unfold serveQueue
  split
  · exact .inl rfl
  · split
    · split
      · rename_i f q h; exact .inr (.inr ⟨f, q, h, rfl⟩)
      · exact .inl rfl
    · split
      · exact .inl rfl
      · split
        · rename_i r rs h; exact .inr (.inl ⟨r, rs, h, rfl⟩)
        · split
          · rename_i f q h; exact .inr (.inr ⟨f, q, h, rfl⟩)
          · exact .inl rfl

/-- What the queue's and the slot's own moves, a closed window and every command keep, the service of the queue keeps. -/
theorem serveQueue_keeps (P : State → Prop)
    (hulp : ∀ s q rs x e, q.length ≤ s.ulp.queue.length → rs.length ≤ s.ulp.overruns.length → P s →
      P { s with ulp := { s.ulp with queue := q, overruns := rs, slot := x, executing := e } })
    (hclose : ∀ s, P s → P s.closeUnlock)
    (hrun : ∀ platform seq time p s, P s → P (runCommand platform seq time p s).act.1) (s : State) (hs : P s) :
    P (serveQueue s).1 := by
  rcases serveQueue_cases s with h | ⟨r, rs, hov, h⟩ | ⟨f, q, hq, h⟩ <;> rw [h]
  · exact hs
  · exact hulp s s.ulp.queue rs (some r) s.ulp.executing le_rfl (by simp [hov]) hs
  · have hx : P { s with ulp := { s.ulp with queue := q, executing := true } } :=
      hulp s q s.ulp.overruns s.ulp.slot true (by simp [hq]) le_rfl hs
    rcases executeFrame_fst_cases f { s with ulp := { s.ulp with queue := q } } with he | he | he <;> rw [he]
    · exact hclose _ hx
    · exact hrun _ _ _ _ _ hx
    · exact hrun _ _ _ _ _ (hclose _ hx)

/-- What a change of the DLC's record, an emptied Passdown area and the routing of an answer keep, the close of a slot
keeps. -/
theorem closeSlot_keeps (P : State → Prop) (hdlc : ∀ s t, Only [.dlc] s t → P s → P t)
    (hpass : ∀ s d, P s → P { s with dlc := d, fbf := { s.fbf with passdown := [] } })
    (hroute : ∀ ans s, P s → P (routeAnswer gateArrival ans s).1) (ans : Option Answer) (o : Outcome) (s : State)
    (hs : P s) : P (closeSlot gateArrival ans o s).1 := by
  have hd : ∀ s d, P s → P { s with dlc := d } := fun s d h => hdlc s _ rfl h
  have hmove : ∀ new s, P s → P (dockMove new s).1 := by
    intro new s h
    unfold dockMove
    dsimp only
    split
    · exact hpass s new h
    · exact hd s new h
  have hfault : ∀ c b s, P s → P (dockFault c b s).1 := fun c b s h => hmove _ s h
  have htests : ∀ flags ma (k : State → Act) s, (∀ s, P s → P (k s).1) → P s → P (statTests flags ma k s).1 := by
    intro flags ma k s hk h
    unfold statTests
    dsimp only
    repeat' split
    · exact hfault _ _ _ h
    · exact hfault _ _ _ (hd s _ h)
    · exact hk _ (hd s _ h)
  have hqfail : ∀ ans s, P s → P (quiesceFailed gateArrival ans s).1 := by
    intro ans s h
    unfold quiesceFailed
    cases ans with
    | none => exact hd s _ h
    | some x => exact hroute x _ (hd s _ h)
  have hident : ∀ ans s, P s → P (identClose ans o s).1 := by
    intro ans s h
    unfold identClose identified identificationFailed recovered
    dsimp only
    repeat' split
    all_goals first | exact hd s _ h | exact hmove _ _ (hd _ _ (hd s _ h)) | exact hmove _ _ (hd s _ h)
                    | exact hpass _ _ (hd s _ h)
  have hrun : ∀ ans s, P s → P (runClose gateArrival ans s).1 := by
    intro ans s h
    unfold runClose readyReached
    split
    · refine htests _ _ _ _ (fun t ht => ?_) h
      repeat' split
      all_goals first | exact ht | exact hmove _ _ ht
    · exact hroute _ _ h
    · exact h
  have hpoll : ∀ ans s, P s → P (pollClose gateArrival ans s).1 := by
    intro ans s h
    unfold pollClose
    split
    · dsimp only
      split
      · exact htests _ _ _ _ (fun _ ht => ht) (hd s _ h)
      · exact hroute _ _ (hd s _ h)
    · dsimp only
      repeat' split
      all_goals first | exact hd s _ h | exact hfault _ _ _ (hd s _ h)
  have hqclose : ∀ ans s, P s → P (quiesceClose gateArrival ans s).1 := by
    intro ans s h
    unfold quiesceClose
    split
    · refine htests _ _ _ _ (fun t ht => ?_) h
      split
      · exact hmove _ _ ht
      · exact hqfail _ _ ht
    · exact hqfail _ _ h
  unfold closeSlot
  split
  · exact hs
  · have h := hd s { s.dlc with slot := none } hs
    dsimp only
    split
    · exact hident ans _ h
    · exact hrun ans _ h
    · exact hrun ans _ h
    · split
      · exact hqclose ans _ h
      · exact hpoll ans _ h
    · exact hpoll ans _ h
    all_goals exact h

end Sys2Proof.Machine
end

section
/-! The keys-down set and its marks (05 5.3): each operation of the Input Gate keeps them sound. -/

namespace Sys2Proof.Machine

open Sys2Proof

/-- Soundness asks of the record only its set and its marks. -/
theorem Igt.KeysSound.congr {g g' : Igt} (h : g.KeysSound) (hk : g'.keys = g.keys) (hp : g'.pend = g.pend) :
    g'.KeysSound := by
  unfold Igt.KeysSound
  rw [hk, hp]
  exact h

/-- A code without a mark leaves the set. -/
theorem Igt.KeysSound.erase {g : Igt} (h : g.KeysSound) (c : Nat) (hc : ∀ p ∈ g.pend, p.code ≠ c) :
    Igt.KeysSound { g with keys := g.keys.erase c } := by
  obtain ⟨hlen, hnd, hpnd, hmem⟩ := h
  exact ⟨List.length_erase_le.trans hlen, hnd.erase c, hpnd,
    fun p hp => (List.mem_erase_of_ne (hc p hp)).mpr (hmem p hp)⟩

/-- The first mark and its code leave together. -/
theorem Igt.KeysSound.release {g : Igt} {p : Pending} {ps : List Pending} (h : g.KeysSound) (hp : g.pend = p :: ps) :
    Igt.KeysSound { g with keys := g.keys.erase p.code, pend := ps } := by
  obtain ⟨hlen, hnd, hpnd, hmem⟩ := h
  rw [hp, List.map_cons, List.nodup_cons] at hpnd
  refine Igt.KeysSound.erase (g := { g with pend := ps }) ⟨hlen, hnd, hpnd.2, fun q hq => hmem q (by simp [hp, hq])⟩ _ ?_
  intro q hq heq
  exact hpnd.1 (heq ▸ List.mem_map_of_mem hq)

/-- A new code enters a set of fewer than 16. -/
theorem Igt.KeysSound.press {g : Igt} (h : g.KeysSound) {c : Nat} (hc : c ∉ g.keys) (hl : g.keys.length < 16) :
    Igt.KeysSound { g with keys := g.keys ++ [c] } := by
  obtain ⟨hlen, hnd, hpnd, hmem⟩ := h
  refine ⟨by simpa using hl, ?_, hpnd, fun p hp => List.mem_append_left _ (hmem p hp)⟩
  rw [List.nodup_append]
  exact ⟨hnd, by simp, fun a ha b hb hab => hc (List.mem_singleton.mp hb ▸ hab ▸ ha)⟩

/-- A code of the set without a mark is marked. -/
theorem Igt.KeysSound.mark {g : Igt} (h : g.KeysSound) (p : Pending) (hk : p.code ∈ g.keys)
    (hn : ∀ q ∈ g.pend, q.code ≠ p.code) : Igt.KeysSound { g with pend := g.pend ++ [p] } := by
  obtain ⟨hlen, hnd, hpnd, hmem⟩ := h
  refine ⟨hlen, hnd, ?_, ?_⟩
  · rw [List.map_append, List.nodup_append]
    refine ⟨hpnd, by simp, ?_⟩
    simpa using fun q hq => hn q hq
  · intro q hq
    rcases List.mem_append.mp hq with hq | hq
    · exact hmem q hq
    · rw [List.mem_singleton.mp hq]; exact hk

theorem Igt.KeysSound.markAll {g : Igt} (h : g.KeysSound) : g.markAll.KeysSound := by
  obtain ⟨hlen, hnd, hpnd, hmem⟩ := h
  have hnew : ((g.keys.filter fun c => !g.pend.any fun p => p.code == c).map fun c =>
      (⟨c, .synth⟩ : Pending)).map Pending.code = g.keys.filter fun c => !g.pend.any fun p => p.code == c := by
    simp [Function.comp_def]
  refine ⟨hlen, hnd, ?_, ?_⟩
  · show ((g.pend ++ _).map Pending.code).Nodup
    rw [List.map_append, List.nodup_append, hnew]
    refine ⟨hpnd, hnd.filter _, ?_⟩
    intro c hc d hd hcd
    obtain ⟨q, hq, rfl⟩ := List.mem_map.mp hc
    subst hcd
    have := (List.mem_filter.mp hd).2
    simp only [Bool.not_eq_true', List.any_eq_false, beq_iff_eq] at this
    exact this q hq rfl
  · intro p hp
    rcases List.mem_append.mp hp with hp | hp
    · exact hmem p hp
    · obtain ⟨c, hc, rfl⟩ := List.mem_map.mp hp
      exact (List.mem_filter.mp hc).1

theorem keysSound_queuePending (l : List Pending) (s : State) (h : s.igt.KeysSound) (hl : s.igt.pend = l) :
    (queuePending l s).igt.KeysSound := by
  induction l generalizing s with
  | nil => exact h
  | cons p ps ih =>
    unfold queuePending
    dsimp only
    split
    · have hr := h.release hl
      split
      · exact ih _ hr rfl
      · exact ih _ hr rfl
    · exact h

/-- What the test of 05 R94 asks of a frame that it lets enter the Input area. -/
theorem admission_entered {b : HoldBody} {s : State} (h : admission b s = .entered) :
    s.gateDir.present = true ∧ (∀ c, b = .press c → c ∉ s.igt.keys ∧ s.igt.keys.length < 16) ∧ s.igt.pend = [] ∧
      b.payload.length + 4 ≤ s.fbf.inputFree := by
  unfold admission at h
  cases b <;> dsimp only at h <;> split_ifs at h with hdir hknown hfull hroom <;>
    (rw [not_or, not_not, Nat.not_lt] at *; simp_all)

theorem keysSound_enterInput {b : HoldBody} {s : State} (h : s.igt.KeysSound) (ha : admission b s = .entered) :
    (enterInput b s).igt.KeysSound := by
  obtain ⟨-, hpress, -, -⟩ := admission_entered ha
  cases b with
  | press c =>
    obtain ⟨hnew, hroom⟩ := hpress c rfl
    exact Igt.KeysSound.press (g := { s.igt with idle := 0, idleLeft := 1000 }) h hnew hroom
  | release c paired => exact h
  | point bytes => exact h

theorem keysSound_enterRelease {c : Nat} {s : State} (h : s.igt.KeysSound) (hp : s.igt.pend = []) :
    (enterRelease c s).igt.KeysSound :=
  Igt.KeysSound.erase (g := { s.igt with idle := 0, idleLeft := 1000 }) h c (by simp [hp])

theorem keysSound_noteSpill (r : SpillReason) (l : List (HoldBody × Nat)) {s : State} (h : s.igt.KeysSound) :
    (noteSpill r l s).1.igt.KeysSound := by
  unfold noteSpill
  repeat' split
  all_goals exact h

theorem keysSound_appendHold (b : HoldBody) (d : Bool) {s : State} (h : s.igt.KeysSound) :
    (appendHold b d s).1.igt.KeysSound := keysSound_noteSpill _ _ h

theorem keysSound_judge (b : HoldBody) {s : State} (h : s.igt.KeysSound) : (judge b s).2.1.igt.KeysSound := by
  unfold judge
  dsimp only
  repeat' split
  all_goals exact h

theorem keysSound_toInput (b : HoldBody) {s : State} (h : s.igt.KeysSound) : (toInput b s).1.igt.KeysSound := by
  unfold toInput
  split
  · split
    · rename_i ha; exact keysSound_enterInput h ha
    all_goals exact h
  · exact keysSound_appendHold b true h

theorem keysSound_routeJudged (a : GateAction) (b : HoldBody) {s : State} (h : s.igt.KeysSound) :
    (routeJudged a b s).1.igt.KeysSound := by
  cases a with
  | pass => exact keysSound_toInput b h
  | wake => exact keysSound_toInput b h
  | drop => exact h
  | hold =>
    unfold routeJudged
    dsimp only
    split
    · exact h
    · exact keysSound_appendHold b false h

theorem keysSound_judgeArrival (b : HoldBody) {s : State} (h : s.igt.KeysSound) :
    (judgeArrival b s).1.igt.KeysSound := by
  have hj := keysSound_judge b h
  unfold judgeArrival
  dsimp only
  split
  · exact hj
  all_goals exact keysSound_routeJudged _ b hj

theorem keysSound_pressArrival (code : Nat) {s : State} (h : s.igt.KeysSound) :
    (pressArrival code s).1.igt.KeysSound := by
  unfold pressArrival
  split
  · exact h
  · split
    · exact h
    · exact keysSound_judgeArrival _ h

theorem keysSound_releaseArrival (code : Nat) {s : State} (h : s.igt.KeysSound) :
    (releaseArrival code s).1.igt.KeysSound := by
  unfold releaseArrival
  split
  · exact keysSound_appendHold _ _ h
  · split
    · rename_i hk
      split
      · exact h
      · rename_i hn
        split
        · exact keysSound_appendHold _ _ h
        · split
          · rename_i hp; exact keysSound_enterRelease h hp.1
          · refine h.mark ⟨code, .base⟩ (by simpa using hk) fun q hq heq => hn (.inl ?_)
            exact List.any_eq_true.mpr ⟨q, hq, by simpa using heq⟩
    · exact h

theorem keysSound_gateArrival (ans : Answer) {s : State} (h : s.igt.KeysSound) :
    (gateArrival ans s).1.igt.KeysSound := by
  cases ans with
  | key code up =>
    cases up with
    | false => exact keysSound_pressArrival code h
    | true => exact keysSound_releaseArrival code h
  | point bs => exact keysSound_judgeArrival _ h
  | ident i => exact h
  | tilt x y z => exact h
  | stat f m => exact h
  | nil => exact h

theorem keysSound_routeAnswer (ans : Answer) {s : State} (h : s.igt.KeysSound) :
    (routeAnswer gateArrival ans s).1.igt.KeysSound := by
  cases ans with
  | key code up => unfold routeAnswer; dsimp only; split <;> [exact keysSound_gateArrival _ h; exact h]
  | point bs => unfold routeAnswer; dsimp only; split <;> [exact keysSound_gateArrival _ h; exact h]
  | tilt x y z => exact ((acceptTilt_only x y z s (T := [.hau]) (by decide)).igt (by decide)).symm ▸ h
  | ident i => exact h
  | stat f m => exact h
  | nil => exact h

theorem keysSound_closeSlot (ans : Option Answer) (o : Outcome) {s : State} (h : s.igt.KeysSound) :
    (closeSlot gateArrival ans o s).1.igt.KeysSound :=
  closeSlot_keeps (fun s => s.igt.KeysSound) (fun _ _ ho h => (ho.igt rfl).symm ▸ h) (fun _ _ h => h)
    (fun ans _ h => keysSound_routeAnswer ans h) ans o s h

theorem keysSound_admitHead (f : HoldFrame) (rest : List HoldFrame) {s : State} (h : s.igt.KeysSound) :
    (admitHead f rest s).1.igt.KeysSound := by
  unfold admitHead
  split
  · rename_i ha; exact keysSound_enterInput h ha
  all_goals exact h

theorem keysSound_judgeHead (f : HoldFrame) (rest : List HoldFrame) {s : State} (h : s.igt.KeysSound) :
    (judgeHead f rest s).1.igt.KeysSound := by
  have hj := keysSound_judge f.body h
  unfold judgeHead
  dsimp only
  split
  case h_3 => exact keysSound_admitHead f rest hj
  all_goals exact hj

theorem keysSound_headStep {s : State} (h : s.igt.KeysSound) : (headStep s).1.igt.KeysSound := by
  unfold headStep
  split
  · exact h
  · split
    · exact h
    · split
      · exact h
      · rename_i hroom
        split
        · split
          · split
            · exact keysSound_enterRelease h (by simpa using fun hp => hroom (.inl hp))
            · exact h
          · exact keysSound_admitHead _ _ h
          · exact keysSound_admitHead _ _ h
        · split
          · exact h
          · exact keysSound_judgeHead _ _ h

theorem keysSound_headAdmit {s : State} (h : s.igt.KeysSound) : (headAdmit s).1.igt.KeysSound := by
  unfold headAdmit
  split
  · exact keysSound_admitHead _ _ h
  all_goals exact h

theorem keysSound_gateRoute (b : HoldBody) {s : State} (h : s.igt.KeysSound) : (gateRoute b s).1.igt.KeysSound := by
  unfold gateRoute
  split
  · exact keysSound_routeJudged _ b h
  · exact h

theorem keysSound_expireHead (f : HoldFrame) (rest : List HoldFrame) {s : State} (h : s.igt.KeysSound) :
    (expireHead f rest s).1.igt.KeysSound := keysSound_noteSpill _ _ h

theorem keysSound_holdCheck (b : Bool) {s : State} (h : s.igt.KeysSound) : (holdCheck b s).1.igt.KeysSound := by
  unfold holdCheck
  repeat' split
  all_goals first | exact h | exact keysSound_expireHead _ _ h

theorem keysSound_spaceEvent {s : State} (h : s.igt.KeysSound) : (spaceEvent s).1.igt.KeysSound := by
  have hq := keysSound_queuePending s.igt.pend s h rfl
  unfold spaceEvent
  dsimp only
  repeat' split
  all_goals exact hq

theorem keysSound_synthesize {s : State} (h : s.igt.KeysSound) : (synthesize s).igt.KeysSound :=
  keysSound_queuePending _ _ h.markAll rfl

theorem keysSound_gateCommit (code : Nat) {s : State} (h : s.igt.KeysSound) : (gateCommit code s).1.igt.KeysSound := by
  have hm : Igt.KeysSound { s.igt with missing := false } := h
  unfold gateCommit
  dsimp only
  repeat' split
  all_goals first | exact h | exact keysSound_synthesize (s := { s with igt := { s.igt with missing := false } }) hm

theorem keysSound_gateDeparture {s : State} (h : s.igt.KeysSound) : (gateDeparture s).1.igt.KeysSound :=
  keysSound_queuePending _ _ h.markAll rfl

theorem keysSound_flushHold (keep : HoldFrame → Bool) {s : State} (h : s.igt.KeysSound) :
    (flushHold keep s).1.igt.KeysSound := by
  unfold flushHold
  dsimp only
  split <;> exact h

theorem keysSound_runCommand (platform : Bool) (seq : Nat) (time : Stamp) (p : List Byte) {s : State}
    (h : s.igt.KeysSound) : (runCommand platform seq time p s).act.1.igt.KeysSound := by
  by_cases hc : (commandBlocks (codeOf p)).contains .igt = false
  · exact ((runCommand_blocks platform seq time p s).igt hc).symm ▸ h
  unfold runCommand
  dsimp only
  split
  case h_2 =>
    unfold tableWriteResult writeTable writePosture writeGateDir writeGateEntry writeSleepRule writeProfile storeProfile
    dsimp only [plainResult]
    repeat' split
    all_goals exact h
  case h_4 => unfold hitsClear; split <;> exact h
  case h_12 => exact h
  case h_13 => exact keysSound_flushHold _ h
  case h_20 =>
    unfold areaClearCommand clearArea
    dsimp only [plainResult]
    repeat' split
    all_goals first | exact h | exact keysSound_flushHold _ h
  case h_24 => unfold partResetResult; split <;> exact h
  all_goals
    rename_i hn
    exact absurd (by unfold codeOf; rw [hn]; rfl) hc

theorem keysSound_handle (g : Signal) {s : State} (h : s.igt.KeysSound) : (handle g s).1.igt.KeysSound := by
  by_cases hb : g.blocks.contains .igt = false
  · exact ((handle_blocks g s).igt hb).symm ▸ h
  cases g
  case serve =>
    exact serveQueue_keeps (fun s => s.igt.KeysSound) (fun _ _ _ _ _ _ _ h => h) (fun _ h => h)
      (fun pl sq tm p _ h => keysSound_runCommand pl sq tm p h) s h
  case spaceEvent => exact keysSound_spaceEvent h
  case igtCommit c => exact keysSound_gateCommit c h
  case igtDeparture => exact keysSound_gateDeparture h
  case headStep => exact keysSound_headStep h
  case gateRoute b => exact keysSound_gateRoute b h
  case headAdmit => exact keysSound_headAdmit h
  case holdCheck b => exact keysSound_holdCheck b h
  all_goals exact (hb rfl).elim

theorem keysSound_nil {g : Igt} (hk : g.keys = []) (hp : g.pend = []) : g.KeysSound := by
  simp [Igt.KeysSound, hk, hp]

theorem keysSound_endReset (rail temp : Int) {s : State} (h : s.igt.KeysSound) :
    (endReset rail temp s).1.igt.KeysSound :=
  ((endReset_only rail temp s (T := [.hau, .pcl, .dlc, .fbf, .sbu, .pcc]) (by decide)).igt (by decide)).symm ▸ h

theorem keysSound_core (c : Instr) {s : State} (h : s.igt.KeysSound) : (c.core s).1.igt.KeysSound := by
  by_cases hb : c.blocks.contains .igt = false
  · exact ((core_blocks c s).igt hb).symm ▸ h
  cases c
  case dockAnswer bytes => exact keysSound_closeSlot _ _ h
  case answerStoppedShort => exact keysSound_closeSlot _ _ h
  case answerWindowExpiry => exact keysSound_closeSlot _ _ h
  case holdExpiry =>
    dsimp only [Instr.core]
    split
    · exact h
    · exact keysSound_expireHead _ _ h
  case spaceEvent => exact keysSound_spaceEvent h
  case idleTimerIncrement =>
    dsimp only [Instr.core]
    split <;> exact h
  case powerOnReset r => exact keysSound_endReset _ _ (keysSound_nil rfl rfl)
  case brownoutReset r => exact keysSound_endReset _ _ (keysSound_nil rfl rfl)
  case pinReset r => exact keysSound_endReset _ _ (keysSound_nil rfl rfl)
  case fullReset rail temp =>
    dsimp only [Instr.core, fullReset]
    split
    · exact keysSound_endReset _ _ (keysSound_nil rfl rfl)
    · exact h
  case softReset rail temp =>
    dsimp only [Instr.core, softReset]
    split
    · exact keysSound_endReset _ _ (keysSound_nil rfl rfl)
    · exact h
  all_goals exact (hb rfl).elim

/-- Settles O6: the passing of time, each core effect and each handover keep the set and its marks sound. -/
theorem keysDownStaysSound : Obligations.KeysDownStaysSound := fun _ _ hs h =>
  step_keeps (fun s => s.igt.KeysSound) (fun _ _ h => h) (fun _ _ h => h) (fun c _ h => keysSound_core c h)
    (fun g _ h => keysSound_handle g h) hs h

end Sys2Proof.Machine
end

section
/-! The queue areas (06): each operation keeps the map valid and every area's frames within its length. -/

namespace Sys2Proof.Machine

open Sys2Proof

/-! ### Occupancies -/

theorem occupancy_cons (f : Stored) (l : List Stored) : occupancy (f :: l) = f.size + occupancy l := by simp [occupancy]

theorem occupancy_append (l m : List Stored) : occupancy (l ++ m) = occupancy l + occupancy m := by simp [occupancy]

theorem occupancy_singleton (f : Stored) : occupancy [f] = f.size := by simp [occupancy]

theorem occupancy_le_of_sublist {l m : List Stored} (h : l.Sublist m) : occupancy l ≤ occupancy m :=
  (h.map Stored.size).sum_le_sum fun _ _ => Nat.zero_le _

theorem holdOccupancy_nil : holdOccupancy [] = 0 := rfl

theorem holdOccupancy_cons (f : HoldFrame) (l : List HoldFrame) : holdOccupancy (f :: l) = f.size + holdOccupancy l := by
  simp [holdOccupancy]

theorem holdOccupancy_append (l m : List HoldFrame) : holdOccupancy (l ++ m) = holdOccupancy l + holdOccupancy m := by
  simp [holdOccupancy]

theorem holdOccupancy_le_of_sublist {l m : List HoldFrame} (h : l.Sublist m) : holdOccupancy l ≤ holdOccupancy m :=
  (h.map HoldFrame.size).sum_le_sum fun _ _ => Nat.zero_le _

theorem dropPaired_sublist (c : Nat) (l : List HoldFrame) : (dropPaired c l).Sublist l := by
  induction l with
  | nil => exact List.Sublist.slnil
  | cons f rest ih =>
    unfold dropPaired
    split
    · exact List.sublist_cons_self f rest
    · exact ih.cons_cons f

theorem afterDiscard_sublist (b : HoldBody) (l : List HoldFrame) : (afterDiscard b l).Sublist l := by
  cases b with
  | press c => exact dropPaired_sublist c l
  | release c p => exact List.Sublist.refl l
  | point bs => exact List.Sublist.refl l

/-- A release that loses its pairing keeps its size. -/
theorem holdOccupancy_unpair (c : Nat) (l : List HoldFrame) : holdOccupancy (unpair c l) = holdOccupancy l := by
  induction l with
  | nil => rfl
  | cons f rest ih =>
    unfold unpair
    split
    · rename_i hf
      simp [holdOccupancy_cons, HoldFrame.size, hf, HoldBody.payload]
    · rw [holdOccupancy_cons, holdOccupancy_cons, ih]

theorem holdOccupancy_afterEntry (b : HoldBody) (l : List HoldFrame) : holdOccupancy (afterEntry b l) = holdOccupancy l := by
  cases b with
  | press c => exact holdOccupancy_unpair c l
  | release c p => rfl
  | point bs => rfl

theorem removeOldest_sublist {l l' : List HoldFrame} {b : HoldBody} (h : removeOldest l = some (b, l')) :
    l'.Sublist l := by
  induction l generalizing b l' with
  | nil => cases h
  | cons f rest ih =>
    unfold removeOldest at h
    split at h
    · split at h
      · rename_i hr
        cases h
        exact (ih hr).cons_cons f
      · cases h
    · cases h
      exact (afterDiscard_sublist f.body rest).cons f

theorem displaceHold_sublist (len size n : Nat) (l : List HoldFrame) : (displaceHold len size n l).2.Sublist l := by
  induction n generalizing l with
  | zero => exact List.Sublist.refl l
  | succ n ih =>
    unfold displaceHold
    split
    · exact List.Sublist.refl l
    · split
      · exact List.Sublist.refl l
      · rename_i hr
        exact (ih _).trans (removeOldest_sublist hr)

theorem displace_sublist (len size : Nat) (l : List Stored) : (displace len size l).Sublist l := by
  induction l with
  | nil => exact List.Sublist.slnil
  | cons f rest ih =>
    unfold displace
    split
    · exact List.Sublist.refl _
    · exact ih.cons f

theorem takeLast_sublist {α : Type} (p : α → Bool) {l r : List α} {a : α} (h : takeLast p l = some (a, r)) :
    r.Sublist l := by
  induction l generalizing r with
  | nil => cases h
  | cons f rest ih =>
    unfold takeLast at h
    split at h
    · rename_i hr
      cases h
      exact (ih hr).cons_cons f
    · split at h
      · cases h
        exact List.sublist_cons_self _ _
      · cases h

/-! ### One area replaced -/

theorem Fbf.AreasSound.input {f : Fbf} (h : f.AreasSound) {l : List Stored} (hl : occupancy l ≤ f.map.input.len) :
    Fbf.AreasSound { f with input := l } := by
  obtain ⟨hv, -, hh, hr, hp, hm⟩ := h
  exact ⟨hv, hl, hh, hr, hp, hm⟩

theorem Fbf.AreasSound.hold {f : Fbf} (h : f.AreasSound) {l : List HoldFrame}
    (hl : holdOccupancy l ≤ f.map.hold.len) : Fbf.AreasSound { f with hold := l } := by
  obtain ⟨hv, hi, -, hr, hp, hm⟩ := h
  exact ⟨hv, hi, hl, hr, hp, hm⟩

theorem Fbf.AreasSound.report {f : Fbf} (h : f.AreasSound) {l : List Stored} (hl : occupancy l ≤ f.map.report.len) :
    Fbf.AreasSound { f with report := l } := by
  obtain ⟨hv, hi, hh, -, hp, hm⟩ := h
  exact ⟨hv, hi, hh, hl, hp, hm⟩

theorem Fbf.AreasSound.passdown {f : Fbf} (h : f.AreasSound) {l : List Stored}
    (hl : occupancy l ≤ f.map.passdown.len) : Fbf.AreasSound { f with passdown := l } := by
  obtain ⟨hv, hi, hh, hr, -, hm⟩ := h
  exact ⟨hv, hi, hh, hr, hl, hm⟩

theorem Fbf.AreasSound.mirror {f : Fbf} (h : f.AreasSound) {l : List Stored} (hl : occupancy l ≤ f.map.mirror.len) :
    Fbf.AreasSound { f with mirror := l } := by
  obtain ⟨hv, hi, hh, hr, hp, -⟩ := h
  exact ⟨hv, hi, hh, hr, hp, hl⟩

/-- A frame that fits the free space of an area. -/
theorem occupancy_snoc_le {l : List Stored} {f : Stored} {len : Nat} (hl : occupancy l ≤ len)
    (hf : f.size ≤ len - occupancy l) : occupancy (l ++ [f]) ≤ len := by
  rw [occupancy_append, occupancy_singleton]; omega

theorem Fbf.AreasSound.putInput {f : Fbf} (h : f.AreasSound) {x : Stored} (hx : x.size ≤ f.inputFree) :
    Fbf.AreasSound { f with input := f.input ++ [x] } := h.input (occupancy_snoc_le h.2.1 hx)

theorem Fbf.AreasSound.inputSublist {f : Fbf} (h : f.AreasSound) {l : List Stored} (hl : l.Sublist f.input) :
    Fbf.AreasSound { f with input := l } := h.input ((occupancy_le_of_sublist hl).trans h.2.1)

theorem Fbf.AreasSound.holdLe {f : Fbf} (h : f.AreasSound) {l : List HoldFrame}
    (hl : holdOccupancy l ≤ holdOccupancy f.hold) : Fbf.AreasSound { f with hold := l } := h.hold (hl.trans h.2.2.1)

theorem Fbf.AreasSound.holdSublist {f : Fbf} (h : f.AreasSound) {l : List HoldFrame} (hl : l.Sublist f.hold) :
    Fbf.AreasSound { f with hold := l } := h.holdLe (holdOccupancy_le_of_sublist hl)

theorem Fbf.AreasSound.reportSublist {f : Fbf} (h : f.AreasSound) {l : List Stored} (hl : l.Sublist f.report) :
    Fbf.AreasSound { f with report := l } := h.report ((occupancy_le_of_sublist hl).trans h.2.2.2.1)

theorem Fbf.AreasSound.passdownSublist {f : Fbf} (h : f.AreasSound) {l : List Stored} (hl : l.Sublist f.passdown) :
    Fbf.AreasSound { f with passdown := l } := h.passdown ((occupancy_le_of_sublist hl).trans h.2.2.2.2.1)

theorem Fbf.AreasSound.mirrorSublist {f : Fbf} (h : f.AreasSound) {l : List Stored} (hl : l.Sublist f.mirror) :
    Fbf.AreasSound { f with mirror := l } := h.mirror ((occupancy_le_of_sublist hl).trans h.2.2.2.2.2)

/-! ### The Uplink and the mirror -/

theorem areasSound_offerOverflow {s : State} (h : s.fbf.AreasSound) : (offerOverflow s).1.fbf.AreasSound := by
  unfold offerOverflow
  dsimp only
  split
  · rename_i hfit
    exact h.report (occupancy_snoc_le h.2.2.2.1 hfit.2)
  · exact h

theorem areasSound_offerReport (k : ReportKind) (fields : List Byte) {s : State} (h : s.fbf.AreasSound) :
    (offerReport k fields s).1.fbf.AreasSound := by
  unfold offerReport
  dsimp only
  split
  · rename_i hfit
    exact h.report (occupancy_snoc_le h.2.2.2.1 hfit)
  · exact h

theorem areasSound_composeReport (k : ReportKind) (fields : List Byte) {s : State} (h : s.fbf.AreasSound) :
    (composeReport k fields s).1.fbf.AreasSound := by
  unfold composeReport
  split
  · exact areasSound_offerReport k fields (areasSound_offerOverflow h)
  · exact h

theorem areasSound_arbiterChoice {s : State} (h : s.fbf.AreasSound) : (arbiterChoice s).1.fbf.AreasSound := by
  have hreport : ∀ r rs, s.fbf.report = r :: rs → Fbf.AreasSound { s.fbf with report := rs } :=
    fun r rs hl => h.reportSublist (hl ▸ List.sublist_cons_self r rs)
  have hinput : ∀ r rs, s.fbf.input = r :: rs → Fbf.AreasSound { s.fbf with input := rs } :=
    fun r rs hl => h.inputSublist (hl ▸ List.sublist_cons_self r rs)
  unfold arbiterChoice
  split
  · split
    · unfold chooseHeld
      repeat' split
      · rename_i hl
        exact h.reportSublist (takeLast_sublist _ hl)
      all_goals exact h
    · split
      · exact h
      · unfold chooseArea
        split
        · split
          · exact hreport _ _ (by assumption)
          · exact hinput _ _ (by assumption)
        · exact hreport _ _ (by assumption)
        · exact hinput _ _ (by assumption)
        · split
          · rename_i r rs hl
            exact h.mirrorSublist (hl ▸ List.sublist_cons_self r rs)
          · exact h
  · exact h

theorem Fbf.AreasSound.putMirror {f : Fbf} (h : f.AreasSound) (p : List Byte) : (f.putMirror p).AreasSound := by
  have hkept : occupancy (displace f.map.mirror.len (Stored.size ⟨.sample, p⟩) f.mirror) ≤ f.map.mirror.len :=
    (occupancy_le_of_sublist (displace_sublist _ _ _)).trans h.2.2.2.2.2
  unfold Fbf.putMirror
  dsimp only
  split
  · rename_i hfit
    exact h.mirror (occupancy_snoc_le hkept hfit)
  · exact h.mirror hkept

theorem areasSound_mirrorSample {s : State} (h : s.fbf.AreasSound) : (mirrorSample s).1.fbf.AreasSound := by
  unfold mirrorSample
  repeat' split
  all_goals first | exact h | exact h.putMirror _

/-! ### The Input Gate -/

theorem areasSound_enterInput {b : HoldBody} {s : State} (h : s.fbf.AreasSound) (hb : b.payload.length + 4 ≤ s.fbf.inputFree) :
    (enterInput b s).fbf.AreasSound := by
  have hput : Fbf.AreasSound { s.fbf with input := s.fbf.input ++ [b.stored] } := h.putInput hb
  cases b <;> exact hput

theorem areasSound_enterRelease {c : Nat} {s : State} (h : s.fbf.AreasSound) (hroom : 6 ≤ s.fbf.inputFree) :
    (enterRelease c s).fbf.AreasSound := h.putInput (x := releaseFrame c) hroom

theorem areasSound_queuePending (l : List Pending) (s : State) (h : s.fbf.AreasSound) :
    (queuePending l s).fbf.AreasSound := by
  induction l generalizing s with
  | nil => exact h
  | cons p ps ih =>
    unfold queuePending
    dsimp only
    split
    · rename_i hroom
      have hput : Fbf.AreasSound { s.fbf with input := s.fbf.input ++ [releaseFrame p.code] } :=
        h.putInput (x := releaseFrame p.code) hroom
      split
      · exact ih _ hput
      · exact ih _ hput
    · exact h

theorem areasSound_of_igt {s t : State} (h : s.fbf.AreasSound) (ho : Only [.igt] s t) : t.fbf.AreasSound :=
  (ho.fbf rfl).symm ▸ h

theorem areasSound_appendHold (b : HoldBody) (d : Bool) {s : State} (h : s.fbf.AreasSound) :
    (appendHold b d s).1.fbf.AreasSound := by
  have hsub := displaceHold_sublist s.fbf.map.hold.len (HoldFrame.size ⟨b, d, s.ms⟩) s.fbf.hold.length s.fbf.hold
  revert hsub
  unfold appendHold
  dsimp only [andThen_fst, emit_fst]
  generalize displaceHold s.fbf.map.hold.len (HoldFrame.size ⟨b, d, s.ms⟩) s.fbf.hold.length s.fbf.hold = r
  intro hsub
  refine areasSound_of_igt (s := s.setHold _) ?_ (noteSpill_only _ _ _ (by decide))
  refine h.hold ?_
  have hle := (holdOccupancy_le_of_sublist hsub).trans h.2.2.1
  refine le_of_eq_of_le (apply_ite holdOccupancy _ _ _) ?_
  split_ifs with hfit
  · rw [Bool.and_eq_true, decide_eq_true_eq] at hfit
    rw [holdOccupancy_append, holdOccupancy_cons, holdOccupancy_nil]
    omega
  · exact hle

theorem areasSound_toInput (b : HoldBody) {s : State} (h : s.fbf.AreasSound) : (toInput b s).1.fbf.AreasSound := by
  unfold toInput
  split
  · split
    · rename_i ha; exact areasSound_enterInput h (admission_entered ha).2.2.2
    all_goals exact h
  · exact areasSound_appendHold b true h

theorem areasSound_routeJudged (a : GateAction) (b : HoldBody) {s : State} (h : s.fbf.AreasSound) :
    (routeJudged a b s).1.fbf.AreasSound := by
  cases a with
  | pass => exact areasSound_toInput b h
  | wake => exact areasSound_toInput b h
  | drop => exact h
  | hold =>
    unfold routeJudged
    dsimp only
    split
    · exact h
    · exact areasSound_appendHold b false h

theorem areasSound_judge (b : HoldBody) {s : State} (h : s.fbf.AreasSound) : (judge b s).2.1.fbf.AreasSound :=
  areasSound_of_igt h (judge_only b s (by decide))

theorem areasSound_judgeArrival (b : HoldBody) {s : State} (h : s.fbf.AreasSound) :
    (judgeArrival b s).1.fbf.AreasSound := by
  have hj := areasSound_judge b h
  unfold judgeArrival
  dsimp only
  split
  · exact hj
  all_goals exact areasSound_routeJudged _ b hj

theorem areasSound_pressArrival (code : Nat) {s : State} (h : s.fbf.AreasSound) :
    (pressArrival code s).1.fbf.AreasSound := by
  unfold pressArrival
  split
  · exact h
  · split
    · exact h
    · exact areasSound_judgeArrival _ h

theorem areasSound_releaseArrival (code : Nat) {s : State} (h : s.fbf.AreasSound) :
    (releaseArrival code s).1.fbf.AreasSound := by
  unfold releaseArrival
  split
  · exact areasSound_appendHold _ _ h
  · split
    · split
      · exact h
      · split
        · exact areasSound_appendHold _ _ h
        · split
          · rename_i hroom; exact areasSound_enterRelease h hroom.2
          · exact h
    · exact h

theorem areasSound_gateArrival (ans : Answer) {s : State} (h : s.fbf.AreasSound) :
    (gateArrival ans s).1.fbf.AreasSound := by
  cases ans with
  | key code up =>
    cases up with
    | false => exact areasSound_pressArrival code h
    | true => exact areasSound_releaseArrival code h
  | point bs => exact areasSound_judgeArrival _ h
  | ident i => exact h
  | tilt x y z => exact h
  | stat f m => exact h
  | nil => exact h

theorem areasSound_routeAnswer (ans : Answer) {s : State} (h : s.fbf.AreasSound) :
    (routeAnswer gateArrival ans s).1.fbf.AreasSound := by
  cases ans with
  | key code up => unfold routeAnswer; dsimp only; split <;> [exact areasSound_gateArrival _ h; exact h]
  | point bs => unfold routeAnswer; dsimp only; split <;> [exact areasSound_gateArrival _ h; exact h]
  | tilt x y z => exact ((acceptTilt_only x y z s (T := [.hau]) (by decide)).fbf (by decide)).symm ▸ h
  | ident i => exact h
  | stat f m => exact h
  | nil => exact h

theorem areasSound_closeSlot (ans : Option Answer) (o : Outcome) {s : State} (h : s.fbf.AreasSound) :
    (closeSlot gateArrival ans o s).1.fbf.AreasSound :=
  closeSlot_keeps (fun s => s.fbf.AreasSound) (fun _ _ ho h => (ho.fbf rfl).symm ▸ h)
    (fun s _ h => Fbf.AreasSound.passdownSublist (f := s.fbf) h (List.nil_sublist _))
    (fun ans _ h => areasSound_routeAnswer ans h) ans o s h

theorem areasSound_admitHead {f : HoldFrame} {rest : List HoldFrame} {s : State} (h : s.fbf.AreasSound)
    (hl : s.fbf.hold = f :: rest) : (admitHead f rest s).1.fbf.AreasSound := by
  have hrest : rest.Sublist s.fbf.hold := hl ▸ List.sublist_cons_self f rest
  unfold admitHead
  split
  · rename_i ha
    have henter := areasSound_enterInput h (admission_entered ha).2.2.2
    have hle : holdOccupancy (afterEntry f.body rest) ≤ holdOccupancy s.fbf.hold :=
      (holdOccupancy_afterEntry f.body rest).le.trans (holdOccupancy_le_of_sublist hrest)
    refine henter.holdLe (hle.trans_eq ?_)
    unfold enterInput
    dsimp only
    split <;> rfl
  · exact h.holdSublist ((afterDiscard_sublist f.body rest).trans hrest)
  · exact h

theorem areasSound_judgeHead {f : HoldFrame} {rest : List HoldFrame} {s : State} (h : s.fbf.AreasSound)
    (hl : s.fbf.hold = f :: rest) : (judgeHead f rest s).1.fbf.AreasSound := by
  have hj := areasSound_judge f.body h
  have hlj : (judge f.body s).2.1.fbf.hold = f :: rest := by
    rw [(judge_only f.body s (T := [.igt]) (by decide)).fbf (by decide), hl]
  unfold judgeHead
  dsimp only
  split
  · exact hj
  · exact hj.holdSublist ((afterDiscard_sublist f.body rest).trans (hlj ▸ List.sublist_cons_self f rest))
  · exact areasSound_admitHead hj hlj
  · exact hj

theorem areasSound_headStep {s : State} (h : s.fbf.AreasSound) : (headStep s).1.fbf.AreasSound := by
  unfold headStep
  split
  · exact h
  · split
    · exact h
    · rename_i f rest hl
      have hrest : rest.Sublist s.fbf.hold := hl ▸ List.sublist_cons_self f rest
      split
      · exact h
      · rename_i hroom
        split
        · split
          · rename_i c p hbody
            split
            · have hsize : f.size = 6 := by simp [HoldFrame.size, hbody, HoldBody.payload]
              exact (areasSound_enterRelease (c := c) h (by omega)).holdSublist hrest
            · exact h.holdSublist hrest
          · exact areasSound_admitHead h hl
          · exact areasSound_admitHead h hl
        · split
          · exact h
          · exact areasSound_judgeHead h hl

theorem areasSound_headAdmit {s : State} (h : s.fbf.AreasSound) : (headAdmit s).1.fbf.AreasSound := by
  unfold headAdmit
  split
  · rename_i hl; exact areasSound_admitHead h hl
  all_goals exact h

theorem areasSound_gateRoute (b : HoldBody) {s : State} (h : s.fbf.AreasSound) : (gateRoute b s).1.fbf.AreasSound := by
  unfold gateRoute
  split
  · exact areasSound_routeJudged _ b h
  · exact h

theorem areasSound_expireHead {f : HoldFrame} {rest : List HoldFrame} {s : State} (h : s.fbf.AreasSound)
    (hl : s.fbf.hold = f :: rest) : (expireHead f rest s).1.fbf.AreasSound :=
  areasSound_of_igt (s := s.setHold (afterDiscard f.body rest))
    (h.holdSublist ((afterDiscard_sublist f.body rest).trans (hl ▸ List.sublist_cons_self f rest)))
    (noteSpill_only _ _ _ (by decide))

theorem areasSound_holdCheck (b : Bool) {s : State} (h : s.fbf.AreasSound) : (holdCheck b s).1.fbf.AreasSound := by
  unfold holdCheck
  repeat' split
  all_goals first | exact h | exact areasSound_expireHead h (by assumption)

theorem areasSound_spaceEvent {s : State} (h : s.fbf.AreasSound) : (spaceEvent s).1.fbf.AreasSound := by
  have hq := areasSound_queuePending s.igt.pend s h
  unfold spaceEvent
  dsimp only
  repeat' split
  all_goals exact hq

theorem areasSound_synthesize {s : State} (h : s.fbf.AreasSound) : (synthesize s).fbf.AreasSound :=
  areasSound_queuePending _ _ (h.holdSublist List.filter_sublist)

theorem areasSound_gateCommit (code : Nat) {s : State} (h : s.fbf.AreasSound) : (gateCommit code s).1.fbf.AreasSound := by
  unfold gateCommit
  dsimp only
  repeat' split
  all_goals first | exact h | exact areasSound_synthesize (s := { s with igt := { s.igt with missing := false } }) h

theorem areasSound_gateDeparture {s : State} (h : s.fbf.AreasSound) : (gateDeparture s).1.fbf.AreasSound :=
  areasSound_queuePending _ _ (h.holdSublist (List.nil_sublist _))

theorem areasSound_flushHold (keep : HoldFrame → Bool) {s : State} (h : s.fbf.AreasSound) :
    (flushHold keep s).1.fbf.AreasSound := by
  have hf := h.holdSublist (l := s.fbf.hold.filter keep) List.filter_sublist
  unfold flushHold
  dsimp only
  split <;> exact hf

/-! ### The Dock Link -/

/-- Of the areas the DLC touches the Passdown area only, from which it takes frames. -/
def Fbf.PassdownTaken (f f' : Fbf) : Prop := ∃ l, l.Sublist f.passdown ∧ f' = { f with passdown := l }

theorem Fbf.PassdownTaken.refl (f : Fbf) : f.PassdownTaken f := ⟨_, List.Sublist.refl _, rfl⟩

theorem Fbf.PassdownTaken.of_eq {f f' : Fbf} (h : f' = f) : f.PassdownTaken f' := h ▸ .refl f

theorem Fbf.PassdownTaken.sound {f f' : Fbf} (h : f.PassdownTaken f') (hf : f.AreasSound) : f'.AreasSound := by
  obtain ⟨l, hl, rfl⟩ := h
  exact hf.passdownSublist hl

theorem dockMove_taken (new : Dlc) (s : State) {f : Fbf} (hf : s.fbf = f) :
    f.PassdownTaken (dockMove new s).1.fbf := by
  subst hf
  unfold dockMove
  dsimp only
  split
  · exact ⟨[], List.nil_sublist _, rfl⟩
  · exact .refl _

theorem dockFault_taken (c : DockCause) (b : Bool) (s : State) {f : Fbf} (hf : s.fbf = f) :
    f.PassdownTaken (dockFault c b s).1.fbf := dockMove_taken _ s hf

theorem openNextSlot_taken (s : State) : s.fbf.PassdownTaken (openNextSlot s).fbf := by
  unfold openNextSlot
  dsimp only
  repeat' split
  all_goals first | exact .refl _ | skip
  rename_i f rest hl
  exact ⟨rest, hl ▸ List.sublist_cons_self f rest, rfl⟩

theorem openDue_taken (s : State) : s.fbf.PassdownTaken (openDue s).1.fbf := by
  unfold openDue
  repeat' split
  all_goals first | exact .refl _ | exact openNextSlot_taken s

theorem beginStep_taken (st : DockStep) (s : State) : s.fbf.PassdownTaken (beginStep st s).1.fbf := by
  unfold beginStep
  split
  · unfold startStep
    cases st with
    | identify => dsimp only; split <;> [exact dockFault_taken _ _ _ rfl; exact dockMove_taken _ _ rfl]
    | power => dsimp only; split <;> [exact dockFault_taken _ _ _ rfl; exact dockMove_taken _ _ rfl]
    | wake => dsimp only; split <;> [exact dockFault_taken _ _ _ rfl; exact dockMove_taken _ _ rfl]
    | quiesce => exact .refl _
    | release => exact .refl _
    | recover => exact .refl _
  · exact .refl _

theorem dlcPresence_taken (b : Bool) (s : State) : s.fbf.PassdownTaken (dlcPresence b s).1.fbf := by
  unfold dlcPresence presenceAsserted presenceDropped
  repeat' split
  all_goals first | exact .refl _ | exact dockMove_taken _ _ rfl

theorem dockRelease_taken (o : Option Origin) (s : State) : s.fbf.PassdownTaken (dockRelease o s).1.fbf := by
  unfold dockRelease
  split
  · exact dockMove_taken _ _ rfl
  · exact .refl _

theorem dockRevoked_taken (s : State) : s.fbf.PassdownTaken (dockRevoked s).1.fbf := by
  unfold dockRevoked
  split
  · exact dockFault_taken _ _ _ rfl
  · exact .refl _

theorem beginRecovery_taken (s : State) : s.fbf.PassdownTaken (beginRecovery s).1.fbf := by
  unfold beginRecovery
  split
  · exact dockMove_taken _ _ rfl
  · exact .refl _

theorem dlcRestart_taken (s : State) : s.fbf.PassdownTaken (dlcRestart s).fbf := by
  unfold dlcRestart
  repeat' split
  all_goals first | exact .refl _ | exact openNextSlot_taken s

/-! ### The commands of the host -/

theorem areasSound_storeMap {m : AreaMap} {s : State} (h : s.fbf.AreasSound) (hm : m.valid = true) :
    (storeMap m s).1.fbf.AreasSound := by
  obtain ⟨-, hi, hh, hr, hp, hmi⟩ := h
  have hkeep : ∀ (a b : Area) (l : List Stored), occupancy l ≤ a.len → occupancy (if a = b then l else []) ≤ b.len := by
    intro a b l hl
    split
    · subst b; exact hl
    · exact Nat.zero_le _
  have hhold : holdOccupancy (if s.fbf.map.hold = m.hold then s.fbf.hold else []) ≤ m.hold.len := by
    split
    · rename_i heq; exact heq ▸ hh
    · exact Nat.zero_le _
  unfold storeMap
  dsimp only
  exact ⟨hm, hkeep _ _ _ hi, hhold, hkeep _ _ _ hr, hkeep _ _ _ hp, hkeep _ _ _ hmi⟩

theorem areasSound_clearArea (a : AreaName) {s : State} (h : s.fbf.AreasSound) : (clearArea a s).1.fbf.AreasSound := by
  cases a with
  | input => exact h.inputSublist List.filter_sublist
  | hold => exact areasSound_flushHold _ h
  | report => exact h.reportSublist (List.nil_sublist _)
  | passdown => exact h.passdownSublist (List.nil_sublist _)
  | mirror => exact h.mirrorSublist (List.nil_sublist _)

theorem areasSound_runCommand (platform : Bool) (seq : Nat) (time : Stamp) (p : List Byte) {s : State}
    (h : s.fbf.AreasSound) : (runCommand platform seq time p s).act.1.fbf.AreasSound := by
  by_cases hc : (commandBlocks (codeOf p)).contains .fbf = false
  · exact ((runCommand_blocks platform seq time p s).fbf hc).symm ▸ h
  unfold runCommand
  dsimp only
  split
  case h_11 =>
    unfold passdownCommand
    dsimp only [plainResult]
    repeat' split
    · rename_i hfit; exact h.passdown (occupancy_snoc_le h.2.2.2.2.1 hfit)
    all_goals exact h
  case h_13 => exact areasSound_flushHold _ h
  case h_19 =>
    unfold areaMapResult areaMapCommand
    dsimp only
    split
    · exact h
    · rename_i hv
      have hv : (adjustMap (mapOfWords (wordsOf (p.drop 1)))).valid = true := by simpa using hv
      split
      · exact h
      · split <;> exact areasSound_storeMap h hv
  case h_20 =>
    unfold areaClearCommand
    split
    · exact areasSound_clearArea _ h
    · exact h
  case h_24 => unfold partResetResult; split <;> exact h
  all_goals
    rename_i hn
    exact absurd (by unfold codeOf; rw [hn]; rfl) hc

theorem areasSound_handle (g : Signal) {s : State} (h : s.fbf.AreasSound) : (handle g s).1.fbf.AreasSound := by
  by_cases hb : g.blocks.contains .fbf = false
  · exact ((handle_blocks g s).fbf hb).symm ▸ h
  cases g
  case report k f => exact areasSound_composeReport k f h
  case reportRemoved => exact areasSound_offerOverflow h
  case arbiter => exact areasSound_arbiterChoice h
  case serve =>
    exact serveQueue_keeps (fun s => s.fbf.AreasSound) (fun _ _ _ _ _ _ _ h => h) (fun _ h => h)
      (fun pl sq tm p _ h => areasSound_runCommand pl sq tm p h) s h
  case mirror => exact areasSound_mirrorSample h
  case spaceEvent => exact areasSound_spaceEvent h
  case igtCommit c => exact areasSound_gateCommit c h
  case igtDeparture => exact areasSound_gateDeparture h
  case headStep => exact areasSound_headStep h
  case gateRoute b => exact areasSound_gateRoute b h
  case headAdmit => exact areasSound_headAdmit h
  case holdCheck b => exact areasSound_holdCheck b h
  case dlcPresence b => exact (dlcPresence_taken b s).sound h
  case dlcRevoked => exact (dockRevoked_taken s).sound h
  case dlcRelease o => exact (dockRelease_taken o s).sound h
  case dlcBegin st => exact (beginStep_taken st s).sound h
  case openDue => exact (openDue_taken s).sound h
  case dlcRecover => exact (beginRecovery_taken s).sound h
  all_goals exact (hb rfl).elim

/-- At the end of a reset the areas are as the blocks' values give them: an asserted PRESENCE leads to SETTLING, which
empties none. -/
theorem endReset_fbf (rail temp : Int) (s : State) : (endReset rail temp s).1.fbf = s.fbf := by
  unfold endReset
  dsimp only [andThen_fst]
  rw [(penAtReset_only _ (T := [.sbu, .pcc]) (by decide)).fbf (by decide)]
  have hd : ∀ s, (dockAtReset s).1.fbf = s.fbf := by
    intro s
    unfold dockAtReset presenceAsserted
    repeat' split
    all_goals rfl
  rw [hd, (postureChoose_only _ (T := [.pcl]) (by decide)).fbf (by decide),
    (firstReadings_only _ _ _ (T := [.sbu, .pcc]) (by decide)).fbf (by decide)]
  rfl

theorem areasSound_default (r : List Stored) (hr : r = []) : (Fbf.atReset AreaMap.default r).AreasSound := by
  subst hr
  decide

theorem areasSound_core (c : Instr) {s : State} (h : s.fbf.AreasSound) : (c.core s).1.fbf.AreasSound := by
  by_cases hb : c.blocks.contains .fbf = false
  · exact ((core_blocks c s).fbf hb).symm ▸ h
  have hfull : ∀ rail temp s', s'.fbf = Fbf.atReset AreaMap.default [] → (endReset rail temp s').1.fbf.AreasSound := by
    intro rail temp s' hs'
    rw [endReset_fbf, hs']
    exact areasSound_default [] rfl
  cases c
  case settleTimerDockExpiry =>
    dsimp only [Instr.core]
    split
    · exact (dockMove_taken _ s rfl).sound h
    · exact h
  case pollPeriodExpiry =>
    dsimp only [Instr.core]
    split
    · exact h
    · exact (openNextSlot_taken s).sound h
  case readyTimerExpiry => exact (dockFault_taken _ _ s rfl).sound h
  case dockAnswer bytes => exact areasSound_closeSlot _ _ h
  case answerStoppedShort => exact areasSound_closeSlot _ _ h
  case answerWindowExpiry => exact areasSound_closeSlot _ _ h
  case holdExpiry =>
    dsimp only [Instr.core]
    split
    · exact h
    · rename_i hl; exact areasSound_expireHead h hl
  case spaceEvent => exact areasSound_spaceEvent h
  case settleTimerExpiry w =>
    dsimp only [Instr.core]
    split
    · unfold enterRunFromSettle
      dsimp only [andThen_fst, emitWith, quiet_fst]
      rw [(pccRestart_only _ _ _ (T := [.sbu, .pcc]) (by decide)).fbf (by decide),
        (sbuRestart_only _ _ _ (T := [.sbu, .pcc]) (by decide)).fbf (by decide)]
      refine (dlcRestart_taken _).sound ?_
      rw [(pclRestart_only _ (T := [.pcl]) (by decide)).fbf (by decide),
        (orientRestart_only _ (T := [.oru]) (by decide)).fbf (by decide),
        (hauRestart_only _ (T := [.hau]) (by decide)).fbf (by decide)]
      exact h
    · exact h
  case overflowReport => exact areasSound_offerOverflow h
  case powerOnReset r => exact hfull _ _ _ rfl
  case brownoutReset r => exact hfull _ _ _ rfl
  case pinReset r => exact hfull _ _ _ rfl
  case fullReset rail temp =>
    dsimp only [Instr.core, fullReset]
    split
    · exact hfull _ _ _ rfl
    · exact h
  case softReset rail temp =>
    dsimp only [Instr.core, softReset]
    split
    · rw [endReset_fbf]
      obtain ⟨hv, hi, hh, hr, hp, hm⟩ := h
      exact ⟨hv, Nat.zero_le _, Nat.zero_le _, hr, Nat.zero_le _, Nat.zero_le _⟩
    · exact h
  all_goals exact (hb rfl).elim

/-- Settles O7: the passing of time, each core effect and each handover keep the map valid and the areas within their
lengths. -/
theorem areasStaySound : Obligations.AreasStaySound := fun _ _ hs h =>
  step_keeps (fun s => s.fbf.AreasSound) (fun _ _ h => h) (fun _ _ h => h) (fun c _ h => areasSound_core c h)
    (fun g _ h => areasSound_handle g h) hs h

end Sys2Proof.Machine
end

section
/-! The dock grant and the pen setpoint (07): each operation keeps them within the budget together. -/

namespace Sys2Proof.Machine

open Sys2Proof

/-- Fields outside a list stay out of its part. -/
theorem not_contains_of_disjoint {T U : List Block} (h : T.any U.contains = false) {b : Block}
    (hb : U.contains b = true) : T.contains b = false := by
  rw [List.any_eq_false] at h
  rw [← Bool.not_eq_true, List.contains_iff_mem]
  exact fun hm => h b hm hb

/-- What a recomputation of the setpoint starts from: the grant within the budget, the current that the phase asks for. -/
def State.RoomSound (s : State) : Prop :=
  s.sbu.grant ≤ s.par.bTotal ∧ s.sbu.iPhase = phaseCurrent s.pcc.profile s.pcc.phase

theorem State.BudgetSound.room {s : State} (h : s.BudgetSound) : s.RoomSound := by
  obtain ⟨hsum, -, hphase, -⟩ := h
  exact ⟨by omega, hphase⟩

theorem penSetpoint_le_room (room : Nat) (s : State) : penSetpoint room s ≤ room := by
  unfold penSetpoint
  split
  · exact Nat.zero_le _
  · unfold penCandidate
    dsimp only
    split_ifs <;> omega

theorem budgetSound_applyPen {told : Bool} {v : Nat} {s : State} (hsum : s.sbu.grant + v ≤ s.par.bTotal)
    (hphase : s.sbu.iPhase = phaseCurrent s.pcc.profile s.pcc.phase)
    (hdenied : s.sbu.railState = .shed ∨ s.awake = false ∨ s.pcc.phase.charging = false → v = 0) :
    (applyPen told v s).1.BudgetSound :=
  ⟨hsum, rfl, hphase, hdenied⟩

theorem budgetSound_recompute (told : Bool) {s : State} (h : s.RoomSound) : (recompute told s).1.BudgetSound := by
  obtain ⟨hgrant, hphase⟩ := h
  have hle := penSetpoint_le_room (s.par.bTotal - s.sbu.grant) s
  exact budgetSound_applyPen (by omega) hphase penSetpoint_of_denied

theorem budgetSound_raiseGrant {level : Nat} (capped : Bool) {s : State} (h : s.RoomSound)
    (hlevel : level ≤ s.par.bTotal) : (raiseGrant level capped s).1.BudgetSound := by
  have hle := penSetpoint_le_room (s.par.bTotal - level) s
  have hsum : level + penSetpoint (s.par.bTotal - level) s ≤ s.par.bTotal := by omega
  exact ⟨hsum, rfl, h.2, penSetpoint_of_denied⟩

theorem budgetSound_lowerGrant {level : Nat} (capped : Bool) {s : State} (h : s.RoomSound)
    (hlevel : level ≤ s.par.bTotal) : (lowerGrant level capped s).1.BudgetSound :=
  budgetSound_recompute true
    (s := { s with sbu := { s.sbu with grant := level, pending := false, capped := capped } }) ⟨hlevel, h.2⟩

theorem budgetSound_applyRequest {s : State} (h : s.BudgetSound) : (applyRequest s).1.BudgetSound := by
  unfold applyRequest
  dsimp only
  split_ifs
  · exact h
  · exact budgetSound_lowerGrant _ h.room (Nat.min_le_right _ _)
  · exact h
  · exact budgetSound_raiseGrant _ h.room (Nat.min_le_right _ _)

/-- A change of the rail state may leave a setpoint that the new state denies; the recomputation that follows starts
from a sound room all the same. -/
theorem roomSound_applyRequest {s : State} (h : s.RoomSound) : (applyRequest s).1.RoomSound := by
  unfold applyRequest
  dsimp only
  split_ifs
  · exact h
  · exact (budgetSound_lowerGrant _ h (Nat.min_le_right _ _)).room
  · exact h
  · exact (budgetSound_raiseGrant _ h (Nat.min_le_right _ _)).room

theorem budgetSound_moveRail (v : Nat) {s : State} (h : s.BudgetSound) : (moveRail v s).1.BudgetSound := by
  unfold moveRail
  dsimp only
  split
  · refine budgetSound_recompute true ?_
    split
    · exact roomSound_applyRequest
        (s := { s with sbu := { s.sbu with rail := v, railState := s.sbu.railState.next s.par v, shed := _ } }) h.room
    · exact h.room
  · rename_i hsame
    have hsame : s.sbu.railState.next s.par v = s.sbu.railState := by simpa using hsame
    obtain ⟨hsum, hcopy, hphase, hdenied⟩ := h
    refine ⟨hsum, hcopy, hphase, fun hd => hdenied ?_⟩
    rcases hd with hd | hd | hd
    · exact .inl (hsame.symm.trans hd)
    · exact .inr (.inl hd)
    · exact .inr (.inr hd)

theorem budgetSound_takeRail (mv : Int) {s : State} (h : s.BudgetSound) : (takeRail mv s).1.BudgetSound :=
  budgetSound_moveRail _ (s := { s with sbu := { s.sbu with railTimer := railInterval s } }) h

theorem budgetSound_takeTemperature (t : Int) {s : State} (h : s.BudgetSound) : (takeTemperature t s).1.BudgetSound := by
  unfold takeTemperature
  dsimp only [andThen_fst]
  split
  · exact budgetSound_recompute true h.room
  · exact h

theorem budgetSound_handCurrent (told : Bool) {i : Nat} {s : State} (hgrant : s.sbu.grant ≤ s.par.bTotal)
    (hi : i = phaseCurrent s.pcc.profile s.pcc.phase) : (handCurrent told i s).1.BudgetSound :=
  budgetSound_recompute told (s := { s with sbu := { s.sbu with iPhase := i } }) ⟨hgrant, hi⟩

theorem Pcc.entered_phase (new : Phase) (cause : Option ChargeCause) (awake : Bool) (p : Pcc) :
    (p.entered new cause awake).phase = new ∧ (p.entered new cause awake).profile = p.profile := by
  unfold Pcc.entered
  dsimp only
  split <;> exact ⟨rfl, rfl⟩

theorem budgetSound_enterPhase (new : Phase) (cause : Option ChargeCause) (seconds : Nat) {s : State}
    (h : s.BudgetSound) : (enterPhase new cause seconds s).1.BudgetSound := by
  obtain ⟨hphase, -⟩ := Pcc.entered_phase new cause s.awake s.pcc
  refine budgetSound_handCurrent false (s := { s with pcc := s.pcc.entered new cause s.awake }) h.room.1 ?_
  dsimp only
  rw [hphase]

theorem budgetSound_takeMeasurement (mv ma : Int) {s : State} (h : s.BudgetSound) :
    (takeMeasurement mv ma s).1.BudgetSound := by
  unfold takeMeasurement
  dsimp only
  split
  · exact budgetSound_enterPhase _ _ _ h
  · split
    · exact budgetSound_enterPhase _ _ _ h
    · exact h

theorem budgetSound_penInserted {s : State} (h : s.BudgetSound) : (penInserted s).1.BudgetSound := by
  unfold penInserted
  split
  · rename_i hnone
    dsimp only [andThen_fst]
    split
    · obtain ⟨hsum, hcopy, hphase, hdenied⟩ := h
      exact ⟨hsum, hcopy, hphase.trans (by rw [hnone]; rfl), fun _ => hdenied (by simp [hnone, Phase.charging])⟩
    · exact budgetSound_enterPhase _ _ _ h
  · exact h

theorem budgetSound_penRemoved {s : State} (h : s.BudgetSound) : (penRemoved s).1.BudgetSound := by
  unfold penRemoved
  split
  · exact h
  · exact budgetSound_handCurrent false (s := { s with pcc := s.pcc.ended .none }) h.room.1 rfl

theorem budgetSound_chargeControl (v : Nat) {s : State} (h : s.BudgetSound) :
    (chargeControlResult v s).act.1.BudgetSound := by
  have hstop : (chargeStop s).2.1.BudgetSound := by
    unfold chargeStop
    split
    · exact h
    · exact h
    all_goals exact budgetSound_handCurrent false (s := { s with pcc := s.pcc.ended .idleDocked }) h.room.1 rfl
  have hstart : (chargeStart s).2.1.BudgetSound := by
    unfold chargeStart
    split
    case h_2 => exact budgetSound_enterPhase _ _ _ h
    case h_3 => exact budgetSound_enterPhase _ _ _ h
    all_goals exact h
  unfold chargeControlResult
  split
  · exact hstart
  · exact hstop
  · exact h

theorem budgetSound_limitReached {s : State} (h : s.BudgetSound) : (limitReached s).1.BudgetSound :=
  budgetSound_enterPhase _ _ _ h

theorem budgetSound_storeProfile (p : Profile) {s : State} (h : s.BudgetSound) : (storeProfile p s).1.BudgetSound := by
  unfold storeProfile
  dsimp only
  split
  · rename_i hsame
    obtain ⟨hsum, hcopy, hphase, hdenied⟩ := h
    exact ⟨hsum, hcopy, hphase.trans hsame.symm, hdenied⟩
  · exact budgetSound_handCurrent true (s := { s with pcc := { s.pcc with profile := p } }) h.room.1 rfl

/-- A parameter other than the budget leaves the budget. -/
theorem Params.set_bTotal (p : Params) {n : Nat} (hn : n ≠ 32) (v : Nat) : (p.set n v).bTotal = p.bTotal := by
  unfold Params.set
  split
  case h_32 => exact absurd rfl hn
  all_goals rfl

theorem budgetSound_setParam (n : Nat) (v : Int) {s : State} (h : s.BudgetSound) : (setParam n v s).1.BudgetSound := by
  obtain ⟨hsum, hcopy, hphase, hdenied⟩ := h
  have hroom : State.RoomSound { s with par := s.par.set n (clampParam s n v) } := by
    refine ⟨?_, hphase⟩
    by_cases hn : n = 32
    · subst hn
      exact Nat.le_max_right _ _
    · dsimp only
      rw [Params.set_bTotal _ hn]
      omega
  by_cases hn : n = 32 ∨ n = 33 ∨ n = 34 ∨ n = 35
  · rcases hn with rfl | rfl | rfl | rfl <;> exact budgetSound_recompute true hroom
  · have hbase : State.BudgetSound { s with par := s.par.set n (clampParam s n v) } := by
      refine ⟨?_, hcopy, hphase, hdenied⟩
      dsimp only
      rw [Params.set_bTotal _ (by omega)]
      exact hsum
    have honly : Only [.sib, .hau] { s with par := s.par.set n (clampParam s n v) } (setParam n v s).1 := by
      unfold setParam paramEffect
      dsimp only
      split
      case h_11 => omega
      case h_12 => omega
      case h_13 => omega
      case h_14 => omega
      all_goals first | rfl | (split <;> first | rfl | exact rejudgeRaw_only _ _ rfl | exact modeChanged_only _ _ rfl)
    generalize (setParam n v s).1 = t at honly ⊢
    have hsbu := honly.sbu rfl
    have hpcc := honly.pcc rfl
    have hpar := honly.par rfl
    have hpsc := honly.psc rfl
    simpa only [State.BudgetSound, State.awake, hsbu, hpcc, hpar, hpsc] using hbase

theorem budgetSound_of_only {T : List Block} {s t : State} (h : s.BudgetSound) (ho : Only T s t)
    (hT : T.any [Block.sbu, .pcc, .par, .psc].contains = false) : t.BudgetSound := by
  have hsbu := ho.sbu (not_contains_of_disjoint hT rfl)
  have hpcc := ho.pcc (not_contains_of_disjoint hT rfl)
  have hpar := ho.par (not_contains_of_disjoint hT rfl)
  have hpsc := ho.psc (not_contains_of_disjoint hT rfl)
  simpa only [State.BudgetSound, State.awake, hsbu, hpcc, hpar, hpsc] using h

theorem budgetSound_runCommand (platform : Bool) (seq : Nat) (time : Stamp) (p : List Byte) {s : State}
    (h : s.BudgetSound) : (runCommand platform seq time p s).act.1.BudgetSound := by
  by_cases hc : (commandBlocks (codeOf p)).any [Block.sbu, .pcc, .par, .psc].contains = false
  · exact budgetSound_of_only h (runCommand_blocks platform seq time p s) hc
  unfold runCommand
  dsimp only
  split
  case h_2 =>
    unfold tableWriteResult writeTable
    dsimp only [plainResult]
    split
    case h_5 =>
      unfold writeProfile
      dsimp only
      split_ifs
      · exact h
      · exact budgetSound_storeProfile _ h
      · exact h
    · exact budgetSound_of_only h (writePosture_only _ _ s (T := [.pcl]) rfl) rfl
    · exact budgetSound_of_only h (writeGateDir_only _ _ s (T := [.igt]) rfl) rfl
    · exact budgetSound_of_only h (writeGateEntry_only _ _ s (T := [.igt]) rfl) rfl
    · exact budgetSound_of_only h (writeSleepRule_only _ _ s (T := [.spu]) rfl) rfl
    · exact h
  case h_5 =>
    unfold configSetResult
    split
    · exact budgetSound_setParam _ _ h
    · exact h
  case h_15 => exact budgetSound_chargeControl _ h
  case h_24 => unfold partResetResult; split <;> exact h
  all_goals
    rename_i hn
    exact absurd (by unfold codeOf; rw [hn]; rfl) hc

/-! ### Power states -/

theorem budgetSound_enterStandby (d : Bool) {s : State} (h : s.BudgetSound) : (enterStandby d s).1.BudgetSound :=
  budgetSound_recompute true (s := standbyBlocks s) h.room

theorem budgetSound_standbyDue {s : State} (h : s.BudgetSound) : (standbyDue s).1.BudgetSound := by
  unfold standbyDue
  split
  · exact h
  · exact budgetSound_enterStandby _ h

theorem budgetSound_standbyRecheck {s : State} (h : s.BudgetSound) : (standbyRecheck s).1.BudgetSound := by
  unfold standbyRecheck
  split_ifs
  · exact budgetSound_standbyDue h
  all_goals exact h

theorem budgetSound_deferredRecheck {s : State} (h : s.BudgetSound) : (deferredRecheck s).1.BudgetSound := by
  unfold deferredRecheck
  split
  · exact budgetSound_enterStandby _ h
  · exact h

theorem budgetSound_enterDoze {s : State} (h : s.BudgetSound) : (enterDoze s).1.BudgetSound :=
  budgetSound_recompute true
    (s := { s with psc := { s.psc with power := .doze, doze := none }, oru := s.oru.stop }) h.room

theorem budgetSound_startDoze {s : State} (h : s.BudgetSound) : (startDoze s).1.BudgetSound := by
  unfold startDoze
  split
  · exact budgetSound_enterDoze h
  · exact h

theorem budgetSound_dozeCheck {s : State} (h : s.BudgetSound) : (dozeCheck s).1.BudgetSound := by
  unfold dozeCheck
  split
  · exact budgetSound_startDoze h
  · exact h

theorem roomSound_of_only {T : List Block} {s t : State} (h : s.RoomSound) (ho : Only T s t)
    (hT : T.any [Block.sbu, .pcc, .par].contains = false) : t.RoomSound := by
  have hsbu := ho.sbu (not_contains_of_disjoint hT rfl)
  have hpcc := ho.pcc (not_contains_of_disjoint hT rfl)
  have hpar := ho.par (not_contains_of_disjoint hT rfl)
  simpa only [State.RoomSound, hsbu, hpcc, hpar] using h

theorem budgetSound_enterRunFromDoze {s : State} (h : s.BudgetSound) : (enterRunFromDoze s).1.BudgetSound := by
  refine budgetSound_recompute true (s := (orientResume _).1) ?_
  exact roomSound_of_only (T := [.oru])
    (s := { s with psc := { s.psc with power := .run, standby := none, deferred := false } }) h.room
    (orientResume_only _ rfl) rfl

theorem budgetSound_enterSettle (src : PowerSource) {s : State} (h : s.BudgetSound) (ha : s.awake = false) :
    (enterSettle src s).1.BudgetSound := by
  obtain ⟨hsum, hcopy, hphase, hdenied⟩ := h
  exact ⟨hsum, hcopy, hphase, fun _ => hdenied (.inr (.inl ha))⟩

theorem budgetSound_hostChanged (old new : HostState) {s : State} (h : s.BudgetSound) :
    (hostChanged old new s).1.BudgetSound := by
  unfold hostChanged
  split
  · split_ifs
    · exact h
    · exact budgetSound_startDoze h
    · exact h
  · split
    · exact budgetSound_standbyRecheck h
    · exact budgetSound_enterRunFromDoze h
  · rename_i hp
    split
    · exact h
    · exact budgetSound_enterSettle _ h (by simp [State.awake, hp])
  · exact h

theorem budgetSound_wakeEvent (src : PowerSource) {s : State} (h : s.BudgetSound) : (wakeEvent src s).1.BudgetSound := by
  unfold wakeEvent
  split
  · split
    · rename_i hp
      exact budgetSound_enterSettle _ h (by simp [State.awake, hp])
    · split <;> exact h
    · exact h
    · exact h
  · exact h

theorem budgetSound_sbuRestart (rail temp : Int) {s : State} (h : s.RoomSound) :
    (sbuRestart rail temp s).1.BudgetSound :=
  budgetSound_takeTemperature temp (budgetSound_takeRail rail (budgetSound_recompute true h))

theorem budgetSound_pccRestart (mv ma : Int) {s : State} (h : s.BudgetSound) : (pccRestart mv ma s).1.BudgetSound := by
  unfold pccRestart
  split
  · exact budgetSound_takeMeasurement _ _ h
  · exact h

theorem budgetSound_enterRunFromSettle (w : WakeSense) {s : State} (h : s.BudgetSound) :
    (enterRunFromSettle w s).1.BudgetSound := by
  unfold enterRunFromSettle
  dsimp only [andThen_fst, emitWith, quiet_fst]
  have hroom : State.RoomSound (dlcRestart (pclRestart (orientRestart (hauRestart (runBlocks s)).1).1).1) := by
    refine roomSound_of_only ?_ (dlcRestart_only _ (T := [.dlc, .fbf]) rfl) rfl
    refine roomSound_of_only ?_ (pclRestart_only _ (T := [.pcl]) rfl) rfl
    refine roomSound_of_only ?_ (orientRestart_only _ (T := [.oru]) rfl) rfl
    exact roomSound_of_only (s := runBlocks s) h.room (hauRestart_only _ (T := [.hau]) rfl) rfl
  exact budgetSound_pccRestart _ _ (budgetSound_sbuRestart _ _ hroom)

theorem budgetSound_handle (g : Signal) {s : State} (h : s.BudgetSound) : (handle g s).1.BudgetSound := by
  by_cases hb : g.blocks.any [Block.sbu, .pcc, .par, .psc].contains = false
  · exact budgetSound_of_only h (handle_blocks g s) hb
  cases g
  case dockLevel l => exact budgetSound_applyRequest (s := { s with sbu := { s.sbu with requested := l } }) h
  case pccGarage a =>
    cases a with
    | true => exact budgetSound_penInserted h
    | false => exact budgetSound_penRemoved h
  case pccLimit =>
    dsimp only [handle]
    unfold limitAfterWrite
    split
    · exact budgetSound_limitReached h
    · exact h
  case pscRecheck => exact budgetSound_standbyRecheck h
  case pscHost old new => exact budgetSound_hostChanged old new h
  case pscDeferred => exact budgetSound_deferredRecheck h
  case pscWake src => exact budgetSound_wakeEvent src h
  case pscDozeCheck => exact budgetSound_dozeCheck h
  case serve =>
    exact serveQueue_keeps (fun s => s.BudgetSound) (fun _ _ _ _ _ _ _ h => h) (fun _ h => h)
      (fun pl sq tm p _ h => budgetSound_runCommand pl sq tm p h) s h
  all_goals exact (hb rfl).elim

/-- A rail reading moves no phase. -/
theorem takeRail_phase (mv : Int) (s : State) : (takeRail mv s).1.pcc.phase = s.pcc.phase := by
  have happly : ∀ s, (applyRequest s).1.pcc.phase = s.pcc.phase := by
    intro s
    unfold applyRequest
    dsimp only
    split_ifs <;> rfl
  unfold takeRail moveRail
  dsimp only [budgetEvent]
  split
  · refine (?_ : (recompute true _).1.pcc.phase = _)
    refine Eq.trans (rfl : _ = Pcc.phase (State.pcc _)) ?_
    split
    · exact happly _
    · rfl
  · rfl

theorem budgetSound_penAtReset {s : State} (h : s.BudgetSound) (hp : s.pcc.phase = .none) :
    (penAtReset s).1.BudgetSound := by
  unfold penAtReset
  split_ifs
  · obtain ⟨hsum, hcopy, hphase, hdenied⟩ := h
    exact ⟨hsum, hcopy, hphase.trans (by rw [hp]; rfl), fun _ => hdenied (by simp [hp, Phase.charging])⟩
  · exact budgetSound_enterPhase _ _ _ h
  · exact h

theorem budgetSound_endReset (rail temp : Int) {s : State} (h : s.BudgetSound) (hp : s.pcc.phase = .none) :
    (endReset rail temp s).1.BudgetSound := by
  unfold endReset
  dsimp only [andThen_fst]
  have hread : (firstReadings rail temp (hauAtReset s)).1.BudgetSound :=
    budgetSound_takeRail rail
      (s := { hauAtReset s with sbu := { (hauAtReset s).sbu with temp := max (-40) (min 125 temp) } }) h
  have hphase : (firstReadings rail temp (hauAtReset s)).1.pcc.phase = .none := (takeRail_phase rail _).trans hp
  generalize (firstReadings rail temp (hauAtReset s)).1 = u at hread hphase
  have hposture := postureChoose_only u (T := [.pcl]) rfl
  have hdock := dockAtReset_only (postureChoose u).1 (T := [.dlc, .fbf]) rfl
  refine budgetSound_penAtReset ?_ ?_
  · exact budgetSound_of_only (budgetSound_of_only hread hposture rfl) hdock rfl
  · rw [hdock.pcc rfl, hposture.pcc rfl, hphase]

theorem budgetSound_core (c : Instr) {s : State} (h : s.BudgetSound) : (c.core s).1.BudgetSound := by
  by_cases hb : c.blocks.any [Block.sbu, .pcc, .par, .psc].contains = false
  · exact budgetSound_of_only h (core_blocks c s) hb
  have hzero : ∀ rail temp s', s'.sbu = Sbu.atReset → s'.pcc.phase = .none → s'.pcc.penSet = 0 →
      (endReset rail temp s').1.BudgetSound := by
    intro rail temp s' hs hp hpen
    refine budgetSound_endReset rail temp ⟨?_, ?_, ?_, fun _ => ?_⟩ hp
    · rw [hs]; exact Nat.zero_le _
    · rw [hs, hpen]; rfl
    · rw [hs, hp]; rfl
    · rw [hs]; rfl
  cases c
  case pendingGrantApply =>
    dsimp only [Instr.core]
    unfold pendingGrantApply
    split
    · exact budgetSound_applyRequest h
    · exact h
  case railReading mv => exact budgetSound_takeRail mv h
  case shedTimerExpiry =>
    exact budgetSound_recompute true
      (s :=
        { s with
          sbu := { s.sbu with requested := 0, grant := 0, pending := false, capped := false, shed := none }
          dlc := { s.dlc with basePower := false, overdraw := if s.sbu.grant = 0 then s.dlc.overdraw else 0 } })
      ⟨Nat.zero_le _, h.room.2⟩
  case temperatureReading t => exact budgetSound_takeTemperature t h
  case measurementEvent mv ma => exact budgetSound_takeMeasurement mv ma h
  case phaseLimitExpiry => exact budgetSound_limitReached h
  case dozeTimerExpiry =>
    dsimp only [Instr.core]
    split
    · exact budgetSound_enterDoze h
    · exact h
  case standbyTimerExpiry =>
    dsimp only [Instr.core]
    split
    · exact budgetSound_standbyDue h
    · exact h
  case deferredStandbyEntry => exact budgetSound_deferredRecheck h
  case settleTimerExpiry w =>
    dsimp only [Instr.core]
    split
    · exact budgetSound_enterRunFromSettle w h
    · exact h
  case uplinkActivity =>
    dsimp only [Instr.core]
    unfold Machine.uplinkActivity
    split <;> exact h
  case powerOnReset r => exact hzero _ _ _ rfl rfl rfl
  case brownoutReset r => exact hzero _ _ _ rfl rfl rfl
  case pinReset r => exact hzero _ _ _ rfl rfl rfl
  case fullReset rail temp =>
    dsimp only [Instr.core, fullReset]
    split
    · exact hzero _ _ _ rfl rfl rfl
    · exact h
  case softReset rail temp =>
    dsimp only [Instr.core, softReset]
    split
    · exact hzero _ _ _ rfl rfl rfl
    · exact h
  all_goals exact (hb rfl).elim

/-- Settles O8: the passing of time, each core effect and each handover keep the grant and the setpoint within the
budget. -/
theorem budgetStaysSound : Obligations.BudgetStaysSound := fun _ _ hs h =>
  step_keeps (fun s => s.BudgetSound) (fun _ _ h => h) (fun _ _ h => h) (fun c _ h => budgetSound_core c h)
    (fun g _ h => budgetSound_handle g h) hs h

end Sys2Proof.Machine
end

section
/-! The SPU's lines and timers and the PSC's timers (09, 10): each operation keeps them those of their states. -/

namespace Sys2Proof.Machine

open Sys2Proof

/-! ### The SPU -/

/-- A cut in progress has the host OFF. -/
theorem Spu.Sound.cutStage_none {b : Spu} (h : b.Sound) (hh : b.host ≠ .off) : b.cutStage = .none := by
  obtain ⟨-, -, -, -, hcut, -⟩ := h
  exact not_not.mp fun hc => hh (hcut hc)

theorem Spu.Sound.moved {b : Spu} (h : b.Sound) (hc : b.cutStage = .none) (period : Nat) {new : HostState}
    (hw : new ≠ .waking) (ha : new ≠ .advised) : (b.moved period new).Sound := by
  obtain ⟨hreq, htimer, hpwr, hct, hcut, hbef, hbefs, hsrc, hcomp, hadv⟩ := h
  cases new with
  | waking => exact absurd rfl hw
  | advised => exact absurd rfl ha
  | entering =>
    unfold Spu.moved
    by_cases hwk : b.host = .waking
    · simp_all [Spu.Sound, Spu.leaveWaking, Spu.startCompliance]
    · by_cases had : b.host = .advised <;> simp_all [Spu.Sound, Spu.startCompliance]
  | running =>
    unfold Spu.moved
    by_cases hwk : b.host = .waking <;> simp_all [Spu.Sound, Spu.leaveWaking]
  | sleeping =>
    unfold Spu.moved
    by_cases hwk : b.host = .waking <;> simp_all [Spu.Sound, Spu.leaveWaking]
  | off =>
    unfold Spu.moved
    by_cases hwk : b.host = .waking <;> simp_all [Spu.Sound, Spu.leaveWaking]

theorem hostStateTarget_ne_waking (v : Nat) (h : HostState) : hostStateTarget v h ≠ some .waking := by
  unfold hostStateTarget
  split
  · split <;> exact fun he => nomatch he
  all_goals exact fun he => nomatch he

theorem hostStateTarget_advised {v : Nat} {h : HostState} (ht : hostStateTarget v h = some .advised) :
    h = .advised := by
  unfold hostStateTarget at ht
  split at ht
  · split at ht
    · assumption
    · exact nomatch ht
  all_goals exact nomatch ht

theorem spuSound_hostStateCommand (v : Nat) {s : State} (h : s.spu.Sound) :
    (hostStateCommand v s).2.1.spu.Sound := by
  unfold hostStateCommand
  split
  · exact h
  · rename_i new hnew
    split
    · rename_i hc
      unfold moveHost
      split
      · exact h
      · rename_i hne
        exact h.moved hc _ (fun he => hostStateTarget_ne_waking v _ (he ▸ hnew))
          (fun he => hne ((hostStateTarget_advised (he ▸ hnew)).trans he.symm))
    · exact h

theorem spuSound_withdraw (c : WithdrawCause) (g : Option Nat) {s : State} (h : s.spu.Sound)
    (ha : s.spu.host = .advised) : (withdraw c g s).1.spu.Sound := by
  obtain ⟨hreq, htimer, hpwr, hct, hcut, hbef, hbefs, hsrc, hcomp, hadv⟩ := h
  unfold withdraw
  simp_all [Spu.Sound]

theorem spuSound_beginEpisode (g : Option Nat) {s : State} (h : s.spu.Sound) : (beginEpisode g s).1.spu.Sound := by
  unfold beginEpisode
  dsimp only
  repeat' split
  all_goals exact h

theorem spuSound_spuEvaluate (t : SpuTrigger) {s : State} (h : s.spu.Sound) : (spuEvaluate t s).1.spu.Sound := by
  unfold spuEvaluate
  dsimp only
  split
  · refine spuSound_beginEpisode _ ?_
    split
    · rename_i ha; exact spuSound_withdraw _ _ h (by simpa using ha.1)
    · exact h
  · split
    · refine spuSound_beginEpisode _ ?_
      split
      · rename_i ha; exact spuSound_withdraw _ _ h (by simpa using ha.1)
      · exact h
    · exact h

theorem spuSound_adviseSleep (i : Nat) {s : State} (h : s.spu.Sound) : (adviseSleep i s).1.spu.Sound := by
  obtain ⟨hreq, htimer, hpwr, hct, hcut, hbef, hbefs, hsrc, hcomp, hadv⟩ := h
  unfold adviseSleep
  split
  · simp_all [Spu.Sound, Spu.startCompliance]
  · exact ⟨hreq, htimer, hpwr, hct, hcut, hbef, hbefs, hsrc, hcomp, hadv⟩

theorem spuSound_wakeRequest (src : WakeSource) {s : State} (h : s.spu.Sound) : (wakeRequest src s).1.spu.Sound := by
  unfold wakeRequest
  split
  · exact h
  · rename_i hc
    split
    case h_4 => rename_i ha; exact spuSound_withdraw _ _ h ha
    case h_5 => exact h
    case h_6 => exact h
    all_goals
      obtain ⟨hreq, htimer, hpwr, hct, hcut, hbef, hbefs, hsrc, hcomp, hadv⟩ := h
      simp_all [Spu.Sound]

theorem spuSound_spuAction {s : State} (h : s.spu.Sound) : (spuAction s).1.spu.Sound := by
  unfold spuAction
  split
  · exact h
  · split
    · exact h
    · dsimp only
      split
      · exact spuSound_adviseSleep _ h
      · exact spuSound_wakeRequest _ h
      · exact h

theorem spuSound_wakeFailed {s : State} (h : s.spu.Sound) : (wakeFailed s).1.spu.Sound := by
  unfold wakeFailed
  split
  · rename_i hw
    have hc := h.cutStage_none (by simp [hw])
    obtain ⟨hreq, htimer, hpwr, hct, hcut, hbef, hbefs, hsrc, hcomp, hadv⟩ := h
    obtain ⟨b, hb⟩ := Option.isSome_iff_exists.mp (hbef.mpr hw)
    have hcn : s.spu.compliance = none := by
      rw [← Option.not_isSome_iff_eq_none, hcomp]; simp [hw]
    have han : s.spu.advising = none := by
      rw [← Option.not_isSome_iff_eq_none]; intro hs; simpa [hw] using hadv hs
    have hb' := hbefs b hb
    rcases hb' with rfl | rfl | rfl <;> simp_all [Spu.Sound, Spu.leaveWaking, Spu.startCompliance]
  · exact h

theorem spuSound_complianceDue {s : State} (h : s.spu.Sound) : (complianceDue s).1.spu.Sound := by
  obtain ⟨hreq, htimer, hpwr, hct, hcut, hbef, hbefs, hsrc, hcomp, hadv⟩ := h
  unfold complianceDue
  split
  · rename_i hh
    split
    · unfold beginCut
      rcases hh with hh | hh <;> simp_all [Spu.Sound]
    · unfold overdue
      simp_all [Spu.Sound]
  · exact ⟨hreq, htimer, hpwr, hct, hcut, hbef, hbefs, hsrc, hcomp, hadv⟩

theorem spuSound_cutAssert {s : State} (h : s.spu.Sound) : (cutAssert s).1.spu.Sound := by
  obtain ⟨hreq, htimer, hpwr, hct, hcut, hbef, hbefs, hsrc, hcomp, hadv⟩ := h
  unfold cutAssert
  split
  · simp_all [Spu.Sound]
  · exact ⟨hreq, htimer, hpwr, hct, hcut, hbef, hbefs, hsrc, hcomp, hadv⟩

theorem spuSound_servePendingWake {s : State} (h : s.spu.Sound) : (servePendingWake s).1.spu.Sound := by
  unfold servePendingWake
  split
  · split
    · exact spuSound_wakeRequest _ (s := { s with spu := { s.spu with pendingWake := none } }) h
    · exact h
  · exact h

theorem spuSound_endCut {s : State} (h : s.spu.Sound) : (endCut s).1.spu.Sound := by
  obtain ⟨hreq, htimer, hpwr, hct, hcut, hbef, hbefs, hsrc, hcomp, hadv⟩ := h
  refine spuSound_servePendingWake
    (s := { s with spu := { s.spu with cutStage := .none, pwrCut := false, cutTimer := none } }) ?_
  simp_all [Spu.Sound]

theorem spuSound_pass (d : Nat) {s : State} (h : s.spu.Sound) : (elapse d s).spu.Sound := by
  simpa [Spu.Sound, Spu.pass, Timer.pass] using h

theorem spuSound_runCommand (platform : Bool) (seq : Nat) (time : Stamp) (p : List Byte) {s : State}
    (h : s.spu.Sound) : (runCommand platform seq time p s).act.1.spu.Sound := by
  by_cases hc : (commandBlocks (codeOf p)).contains .spu = false
  · exact ((runCommand_blocks platform seq time p s).spu hc).symm ▸ h
  unfold runCommand
  dsimp only
  split
  case h_2 =>
    unfold tableWriteResult writeTable
    dsimp only [plainResult]
    split
    case h_4 =>
      unfold writeSleepRule
      repeat' split
      all_goals exact h
    · exact ((writePosture_only _ _ s (T := [.pcl]) rfl).spu rfl).symm ▸ h
    · exact ((writeGateDir_only _ _ s (T := [.igt]) rfl).spu rfl).symm ▸ h
    · exact ((writeGateEntry_only _ _ s (T := [.igt]) rfl).spu rfl).symm ▸ h
    · exact ((writeProfile_only _ _ _ s (T := [.sbu, .pcc]) rfl).spu rfl).symm ▸ h
    · exact h
  case h_16 => exact spuSound_hostStateCommand _ h
  case h_17 => unfold policyUnlock; split <;> exact h
  case h_18 =>
    unfold forceModeCommand
    repeat' split
    all_goals exact h
  case h_24 => unfold partResetResult; split <;> exact h
  all_goals
    rename_i hn
    exact absurd (by unfold codeOf; rw [hn]; rfl) hc

theorem spuSound_handle (g : Signal) {s : State} (h : s.spu.Sound) : (handle g s).1.spu.Sound := by
  by_cases hb : g.blocks.contains .spu = false
  · exact ((handle_blocks g s).spu hb).symm ▸ h
  cases g
  case received ct p =>
    dsimp only [handle]
    unfold receiveFrame
    dsimp only
    repeat' split
    all_goals exact h
  case serve =>
    exact serveQueue_keeps (fun s => s.spu.Sound) (fun _ _ _ _ _ _ _ h => h) (fun _ h => h)
      (fun pl sq tm p _ h => spuSound_runCommand pl sq tm p h) s h
  case spuEval t => exact spuSound_spuEvaluate t h
  case wakeRequest src => exact spuSound_wakeRequest src h
  case spuAction => exact spuSound_spuAction h
  case cutAssert => exact spuSound_cutAssert h
  all_goals exact (hb rfl).elim

theorem Spu.sound_atReset (m : ForceMode) (r : List SleepRule) : (Spu.atReset m r).Sound := by
  simp [Spu.Sound, Spu.atReset]

theorem endReset_spu (rail temp : Int) (s : State) : (endReset rail temp s).1.spu = s.spu :=
  (endReset_only rail temp s (T := [.hau, .pcl, .dlc, .fbf, .sbu, .pcc]) rfl).spu rfl

theorem spuSound_core (c : Instr) {s : State} (h : s.spu.Sound) : (c.core s).1.spu.Sound := by
  by_cases hb : c.blocks.contains .spu = false
  · exact ((core_blocks c s).spu hb).symm ▸ h
  have hnew : ∀ rail temp s' m r, s'.spu = Spu.atReset m r → (endReset rail temp s').1.spu.Sound := by
    intro rail temp s' m r hs
    rw [endReset_spu, hs]
    exact Spu.sound_atReset m r
  cases c
  case sleepDwellExpiry => exact spuSound_spuAction h
  case wakeTimerExpiry => exact spuSound_wakeFailed h
  case complianceExpiry => exact spuSound_complianceDue h
  case cutWaitExpiry => exact spuSound_cutAssert h
  case cutPulseExpiry => exact spuSound_endCut h
  case pendingWakeServe => exact spuSound_servePendingWake h
  case unlockWindowTimeout => exact h
  case powerOnReset r => exact hnew _ _ _ _ _ rfl
  case brownoutReset r => exact hnew _ _ _ _ _ rfl
  case pinReset r => exact hnew _ _ _ _ _ rfl
  case fullReset rail temp =>
    dsimp only [Instr.core, fullReset]
    split
    · exact hnew _ _ _ _ _ rfl
    · exact h
  case softReset rail temp =>
    dsimp only [Instr.core, softReset]
    split
    · exact hnew _ _ _ _ _ rfl
    · exact h
  all_goals exact (hb rfl).elim

/-! ### The PSC -/

theorem pscSound_enterDoze {s : State} (h : s.psc.Sound) (hp : s.psc.power = .run) : (enterDoze s).1.psc.Sound := by
  have hpsc : (enterDoze s).1.psc = { s.psc with power := .doze, doze := none } := rfl
  rw [hpsc]
  simp_all [Psc.Sound]

theorem pscSound_startDoze {s : State} (h : s.psc.Sound) (hp : s.psc.power = .run) : (startDoze s).1.psc.Sound := by
  unfold startDoze
  split
  · exact pscSound_enterDoze h hp
  · simp_all [Psc.Sound]

theorem pscSound_dozeCheck {s : State} (h : s.psc.Sound) : (dozeCheck s).1.psc.Sound := by
  unfold dozeCheck
  split
  · rename_i hp; exact pscSound_startDoze h hp.1
  · exact h

theorem pscSound_enterStandby (d : Bool) {s : State} (h : s.psc.Sound) (hp : s.psc.power = .doze) :
    (enterStandby d s).1.psc.Sound := by
  have hpsc : (enterStandby d s).1.psc =
      { s.psc with
        power := .standby, standby := none, deferred := false, wakeCause := none, latched := [], uplinkSeen := false } :=
    rfl
  rw [hpsc]
  simp_all [Psc.Sound]

theorem pscSound_standbyDue {s : State} (h : s.psc.Sound) (hp : s.psc.power = .doze) : (standbyDue s).1.psc.Sound := by
  unfold standbyDue
  split
  · simp_all [Psc.Sound]
  · exact pscSound_enterStandby _ h hp

theorem pscSound_standbyRecheck {s : State} (h : s.psc.Sound) : (standbyRecheck s).1.psc.Sound := by
  unfold standbyRecheck
  split
  · rename_i hp
    split
    · split
      · split
        · exact pscSound_standbyDue h hp
        · simp_all [Psc.Sound]
      · exact h
    · simp_all [Psc.Sound]
  · exact h

theorem pscSound_deferredRecheck {s : State} (h : s.psc.Sound) : (deferredRecheck s).1.psc.Sound := by
  unfold deferredRecheck
  split
  · rename_i hp; exact pscSound_enterStandby _ h hp.1
  · exact h

theorem pscSound_enterRunFromDoze {s : State} (h : s.psc.Sound) (hp : s.psc.power = .doze) :
    (enterRunFromDoze s).1.psc.Sound := by
  have hpsc : (enterRunFromDoze s).1.psc = { s.psc with power := .run, standby := none, deferred := false } := by
    unfold enterRunFromDoze
    dsimp only [andThen_fst, emitWith]
    rw [(sbuPowerChange_only _ (T := [.sbu, .pcc]) rfl).psc rfl, (orientResume_only _ (T := [.oru]) rfl).psc rfl]
  rw [hpsc]
  simp_all [Psc.Sound]

theorem pscSound_enterSettle (src : PowerSource) {s : State} (h : s.psc.Sound) (hp : s.psc.power = .standby) :
    (enterSettle src s).1.psc.Sound := by
  unfold enterSettle
  simp_all [Psc.Sound]

theorem pscSound_hostChanged (old new : HostState) {s : State} (h : s.psc.Sound) :
    (hostChanged old new s).1.psc.Sound := by
  unfold hostChanged
  split
  · rename_i hp
    split
    · split
      · exact h
      · exact pscSound_startDoze h hp
    · simp_all [Psc.Sound]
  · rename_i hp
    split
    · exact pscSound_standbyRecheck h
    · exact pscSound_enterRunFromDoze h hp
  · rename_i hp
    split
    · exact h
    · exact pscSound_enterSettle _ h hp
  · exact h

theorem pscSound_wakeEvent (src : PowerSource) {s : State} (h : s.psc.Sound) : (wakeEvent src s).1.psc.Sound := by
  unfold wakeEvent
  split
  · split
    · rename_i hp; exact pscSound_enterSettle _ h hp
    · split <;> exact h
    · exact h
    · exact h
  · exact h

/-- The record of the PSC after an entry to RUN from SETTLE. -/
theorem enterRunFromSettle_psc (w : WakeSense) (s : State) :
    (enterRunFromSettle w s).1.psc = { s.psc with power := .run, settle := none, latched := [] } := by
  unfold enterRunFromSettle
  dsimp only [andThen_fst, emitWith, quiet_fst]
  rw [(pccRestart_only _ _ _ (T := [.sbu, .pcc]) rfl).psc rfl, (sbuRestart_only _ _ _ (T := [.sbu, .pcc]) rfl).psc rfl,
    (dlcRestart_only _ (T := [.dlc, .fbf]) rfl).psc rfl, (pclRestart_only _ (T := [.pcl]) rfl).psc rfl,
    (orientRestart_only _ (T := [.oru]) rfl).psc rfl, (hauRestart_only _ (T := [.hau]) rfl).psc rfl]
  rfl

theorem pscSound_pass (d : Nat) {s : State} (h : s.psc.Sound) : (elapse d s).psc.Sound := by
  simpa [Psc.Sound, Psc.pass, Timer.pass] using h

theorem pscSound_handle (g : Signal) {s : State} (h : s.psc.Sound) : (handle g s).1.psc.Sound := by
  by_cases hb : g.blocks.contains .psc = false
  · exact ((handle_blocks g s).psc hb).symm ▸ h
  cases g
  case pscRecheck => exact pscSound_standbyRecheck h
  case pscHost old new => exact pscSound_hostChanged old new h
  case pscDeferred => exact pscSound_deferredRecheck h
  case pscWake src => exact pscSound_wakeEvent src h
  case pscDozeCheck => exact pscSound_dozeCheck h
  all_goals exact (hb rfl).elim

theorem endReset_psc (rail temp : Int) (s : State) : (endReset rail temp s).1.psc = s.psc :=
  (endReset_only rail temp s (T := [.hau, .pcl, .dlc, .fbf, .sbu, .pcc]) rfl).psc rfl

theorem pscSound_core (c : Instr) {s : State} (h : s.psc.Sound) : (c.core s).1.psc.Sound := by
  by_cases hb : c.blocks.contains .psc = false
  · exact ((core_blocks c s).psc hb).symm ▸ h
  have hnew : ∀ rail temp s', s'.psc = Psc.atReset → (endReset rail temp s').1.psc.Sound := by
    intro rail temp s' hs
    rw [endReset_psc, hs]
    simp [Psc.Sound, Psc.atReset]
  obtain ⟨-, hstandby, -, hsettle⟩ := id h
  cases c
  case dozeTimerExpiry =>
    dsimp only [Instr.core]
    split
    · rename_i hp; exact pscSound_enterDoze h hp
    · exact h
  case standbyTimerExpiry =>
    dsimp only [Instr.core]
    split
    · rename_i hr; exact pscSound_standbyDue h (hstandby hr)
    · exact h
  case deferredStandbyEntry => exact pscSound_deferredRecheck h
  case settleTimerExpiry w =>
    dsimp only [Instr.core]
    split
    · rename_i hr
      have hp := hsettle.mp hr
      rw [enterRunFromSettle_psc]
      simp_all [Psc.Sound]
    · exact h
  case uplinkActivity =>
    dsimp only [Instr.core]
    unfold Machine.uplinkActivity
    split <;> exact h
  case powerOnReset r => exact hnew _ _ _ rfl
  case brownoutReset r => exact hnew _ _ _ rfl
  case pinReset r => exact hnew _ _ _ rfl
  case fullReset rail temp =>
    dsimp only [Instr.core, fullReset]
    split
    · exact hnew _ _ _ rfl
    · exact h
  case softReset rail temp =>
    dsimp only [Instr.core, softReset]
    split
    · exact hnew _ _ _ rfl
    · exact h
  all_goals exact (hb rfl).elim

/-- Settles O9: the passing of time, each core effect and each handover keep the SPU's record and the PSC's record
sound. -/
theorem sleepPolicyAndPowerStateStaySound : Obligations.SleepPolicyAndPowerStateStaySound :=
  ⟨fun _ _ hs h =>
      step_keeps (fun s => s.spu.Sound) (fun _ _ h => h) (fun d _ h => spuSound_pass d h)
        (fun c _ h => spuSound_core c h) (fun g _ h => spuSound_handle g h) hs h,
    fun _ _ hs h =>
      step_keeps (fun s => s.psc.Sound) (fun _ _ h => h) (fun d _ h => pscSound_pass d h)
        (fun c _ h => pscSound_core c h) (fun g _ h => pscSound_handle g h) hs h⟩

end Sys2Proof.Machine
end

section
/-! The DLC's record (04 4.3): each operation leaves one that its dock state allows. -/

namespace Sys2Proof.Machine

open Sys2Proof

/-! ### The record's own moves -/

/-- The counts of 3, which a fault keeps. -/
abbrev Dlc.CountsSound (d : Dlc) : Prop := d.attempts ≤ 3 ∧ d.missed ≤ 3 ∧ d.overdraw ≤ 3

theorem Dlc.Sound.counts {d : Dlc} (h : d.Sound) : d.CountsSound := by
  obtain ⟨-, -, -, -, -, -, -, -, -, -, -, -, -, -, hc⟩ := h
  exact hc

/-- No fault has a cause in a supplied or attached state. -/
theorem Dlc.Sound.cause_none {d : Dlc} (h : d.Sound) (hs : d.state ≠ .faulted) : d.cause = none := by
  obtain ⟨-, -, -, -, -, hcause, -⟩ := h
  exact Option.not_isSome_iff_eq_none.mp fun hc => hs (hcause.mp hc)

theorem Dlc.sound_faulted (c : DockCause) {d : Dlc} (h : d.CountsSound) : (d.faulted c).Sound := by
  obtain ⟨ha, hm, ho⟩ := h
  simp_all [Dlc.Sound, Dlc.faulted, Dlc.moved]

theorem Dlc.sound_cleared {st : DockState} (hst : st = .absent ∨ st = .present) {d : Dlc} (h : d.CountsSound) :
    (d.cleared st).Sound := by
  obtain ⟨ha, hm, ho⟩ := h
  rcases hst with rfl | rfl <;> simp_all [Dlc.Sound, Dlc.cleared, Dlc.moved]

theorem Dlc.Sound.slotClosed {d : Dlc} (h : d.Sound) : Dlc.Sound { d with slot := none } := by
  simp_all [Dlc.Sound]

theorem Dlc.Sound.opened {d : Dlc} (h : d.Sound) (ht : d.state.talks = true) (f : DockFrame) : (d.opened f).Sound := by
  simp_all [Dlc.Sound, Dlc.opened]

theorem Dlc.Sound.attempt {d : Dlc} (h : d.Sound) (hs : d.state = .identifying) : d.attempt.Sound := by
  simp_all [Dlc.Sound, Dlc.attempt, Dlc.opened, DockState.talks]

/-- The end of a step in a state that follows it. -/
theorem Dlc.sound_stepEnded {d : Dlc} (h : d.Sound) (hs : d.state ≠ .faulted) {st : DockState}
    (hst : st = .active ∨ st = .identified ∨ st = .quiesced) {w : Option Walk} {q : Bool} {m o : Nat} {t : Timer}
    (hrec : d.state ≠ .identifying ∨ d.recov = false) (hm : m ≤ 3) (ho : o ≤ 3) :
    Dlc.Sound
      { d.moved st with
        step := none, quiesceSent := q, walk := w, missed := m, overdraw := o, slotTimer := t } := by
  have hc := h.cause_none hs
  obtain ⟨-, -, -, -, hr, -, -, -, -, -, -, -, -, -, ha, -, -⟩ := h
  have hrf : d.recov = false := by
    rcases hrec with hne | hf
    · exact Bool.eq_false_iff.mpr fun hx => hne (hr hx)
    · exact hf
  rcases hst with rfl | rfl | rfl <;>
    simp [Dlc.Sound, Dlc.moved, DockState.supplied, hrf, hc, hm, ho, ha]

/-- A step of a base's first or new supply, or of its waking, begins in the state of the step. -/
theorem Dlc.sound_stepBegun {d : Dlc} (h : d.Sound) (hs : d.state ≠ .faulted) {st : DockState} {x : DockStep}
    {aw : Await} {r bp : Bool}
    (hst : st = .identifying ∧ x = .identify ∧ aw = .ident ∨ st = .powering ∧ x = .power ∧ aw = .run ∨
      st = .waking ∧ x = .wake ∧ aw = .run)
    (hr : r = false) :
    Dlc.Sound
      { ({ d with step := some x } : Dlc).moved st with recov := r, basePower := bp, await := some aw } := by
  have hc := h.cause_none hs
  obtain ⟨ha, hm, ho⟩ := h.counts
  subst hr
  rcases hst with ⟨rfl, rfl, rfl⟩ | ⟨rfl, rfl, rfl⟩ | ⟨rfl, rfl, rfl⟩ <;>
    simp [Dlc.Sound, Dlc.moved, DockState.supplied, hc, ha, hm, ho]

/-- From ABSENT to SETTLING, and from there to PRESENT. -/
theorem Dlc.sound_attached {d : Dlc} (h : d.Sound) (hs : d.state = .absent ∨ d.state = .settling) {st : DockState}
    {t : Timer} {b : Option BaseRecord} {w : Option Walk} (hst : st = .settling ∨ st = .present ∧ t = none) :
    Dlc.Sound { d.moved st with settle := t, base := b, walk := w } := by
  have hc := h.cause_none (by rcases hs with hs | hs <;> simp [hs])
  obtain ⟨-, -, -, -, hrec, -, hbp, -, -, hsi, hsr, hsp, hsw, hsq, ha, hm, ho⟩ := h
  have hrec : d.recov = false := Bool.eq_false_iff.mpr fun hr => by rcases hs with hs | hs <;> simpa [hs] using hrec hr
  have hbp : d.basePower = false :=
    Bool.eq_false_iff.mpr fun hr => by rcases hs with hs | hs <;> simpa [hs, DockState.supplied] using hbp hr
  rw [hrec] at hsr
  rcases hs with hs | hs <;> rcases hst with rfl | ⟨rfl, rfl⟩ <;>
    simp_all [Dlc.Sound, Dlc.moved]

theorem Dlc.Sound.missedNext {d : Dlc} (h : d.Sound) {m : Nat} (hm : m ≤ 3) : Dlc.Sound { d with missed := m } := by
  simp_all [Dlc.Sound]

theorem Dlc.Sound.overdrawNext {d : Dlc} (h : d.Sound) {o : Nat} (ho : o ≤ 3) : Dlc.Sound { d with overdraw := o } := by
  simp_all [Dlc.Sound]

theorem Dlc.sound_pass (n : Nat) {d : Dlc} (h : d.Sound) : (d.pass n).Sound := by
  simpa [Dlc.Sound, Dlc.pass, Timer.pass] using h

theorem Dlc.sound_stop {d : Dlc} (h : d.Sound) : d.stop.Sound := by
  unfold Dlc.stop
  split <;> exact h

/-! ### Operations -/

theorem dlcSound_dockFault (c : DockCause) (b : Bool) {s : State} (h : s.dlc.CountsSound) :
    (dockFault c b s).1.dlc.Sound :=
  Dlc.sound_faulted c h

theorem dlcSound_openNextSlot {s : State} (h : s.dlc.Sound) : (openNextSlot s).dlc.Sound := by
  have ht : ∀ {f t q}, s.dlc.state.talks = true →
      Dlc.Sound { s.dlc.opened f with slotTimer := t, quiesceSent := q } := fun ht => h.opened ht _
  unfold openNextSlot
  dsimp only
  split
  case h_1 hs => exact ht (by rw [hs]; rfl)
  case h_2 hs => exact ht (by rw [hs]; rfl)
  case h_3 hs =>
    repeat' split
    · exact h
    all_goals exact ht (by rw [hs]; rfl)
  case h_4 hs =>
    split
    · exact h
    · exact ht (by rw [hs]; rfl)
  all_goals exact h

theorem dlcSound_openDue {s : State} (h : s.dlc.Sound) : (openDue s).1.dlc.Sound := by
  unfold openDue
  split
  · exact h
  · split
    · rename_i hs
      split
      · exact h.attempt hs
      · exact h
    · split
      · exact dlcSound_openNextSlot h
      · exact h

theorem dlcSound_grantApplied (c : Bool) {s : State} (h : s.dlc.Sound) : (grantApplied c s).1.dlc.Sound := by
  have hd : (if c then { s.dlc with overdraw := 0 } else s.dlc).Sound := by
    split
    · exact h.overdrawNext (Nat.zero_le _)
    · exact h
  clear h
  unfold grantApplied
  dsimp only
  generalize (if c then { s.dlc with overdraw := 0 } else s.dlc) = d at hd
  split
  · exact hd
  · have hs : d.state = .identifying := by
      obtain ⟨-, -, -, -, -, -, -, hident, -⟩ := hd
      exact hident ‹_›
    simp_all [Dlc.Sound, Dlc.attempt, Dlc.opened, DockState.talks]
  · have hs : d.state = .powering ∨ d.state = .waking := by
      obtain ⟨-, -, -, -, -, -, -, -, hrun, -⟩ := hd
      exact hrun ‹_›
    obtain ⟨h1, -, h3, -, h5, h6, h7, -, -, h10, h11, h12, h13, h14, h15⟩ := hd
    rcases hs with hs | hs <;> simp_all [Dlc.Sound, Dlc.opened, DockState.talks]

/-- Where a step begins. -/
theorem Dlc.begins_iff (d : Dlc) (st : DockStep) :
    d.begins st = true ↔ stepState st = some d.state ∨ (st = .power ∧ d.state = .identifying ∧ d.recov = true) := by
  simp [Dlc.begins, and_assoc]

theorem Dlc.begins_state {d : Dlc} {st : DockStep} (hb : d.begins st = true) (hp : st ≠ .power) {q : DockState}
    (hq : stepState st = some q) : d.state = q := by
  rcases (d.begins_iff st).mp hb with h | ⟨h, -⟩
  · exact Option.some.inj (h.symm.trans hq)
  · exact absurd h hp

theorem dlcSound_beginStep (st : DockStep) {s : State} (h : s.dlc.Sound) : (beginStep st s).1.dlc.Sound := by
  have hfault : ∀ c b (t : State), t.dlc.CountsSound → (dockFault c b t).1.dlc.Sound :=
    fun c b _ ht => dlcSound_dockFault c b ht
  unfold beginStep
  split
  · rename_i hb
    unfold startStep
    cases st with
    | identify =>
      have hs : s.dlc.state = .present := Dlc.begins_state hb (by decide) rfl
      dsimp only
      split
      · exact hfault _ _ _ h.counts
      · exact Dlc.sound_stepBegun h (by simp [hs]) (.inl ⟨rfl, rfl, rfl⟩) rfl
    | power =>
      have hs : s.dlc.state ≠ .faulted := by
        rcases (s.dlc.begins_iff .power).mp hb with h | ⟨-, h, -⟩
        · simp [← Option.some.inj h]
        · simp [h]
      dsimp only
      split
      · exact hfault _ _ _ h.counts
      · exact Dlc.sound_stepBegun (bp := s.dlc.basePower) h hs (.inr (.inl ⟨rfl, rfl, rfl⟩)) rfl
    | wake =>
      have hs : s.dlc.state = .quiesced := Dlc.begins_state hb (by decide) rfl
      obtain ⟨-, -, -, -, hrec, -⟩ := id h
      have hrec : s.dlc.recov = false := Bool.eq_false_iff.mpr fun hr => by simpa [hs] using hrec hr
      dsimp only
      split
      · exact hfault _ _ _ h.counts
      · exact Dlc.sound_stepBegun (bp := s.dlc.basePower) h (by simp [hs]) (.inr (.inr ⟨rfl, rfl, rfl⟩)) hrec
    | quiesce =>
      have hs : s.dlc.state = .active := Dlc.begins_state hb (by decide) rfl
      simp_all [Dlc.Sound]
    | release => simp [Dlc.begins_iff, stepState] at hb
    | recover => simp [Dlc.begins_iff, stepState] at hb
  · exact h

theorem dlcSound_dockAuto (t : WalkTarget) (o : Origin) {s : State} (h : s.dlc.Sound) :
    (dockAuto t o s).2.1.dlc.Sound := by
  unfold dockAuto
  repeat' split
  all_goals exact h

theorem dlcSound_powerRequest (q : PowerReq) {s : State} (h : s.dlc.Sound) : (powerRequest q s).1.dlc.Sound := by
  unfold powerRequest
  split
  · exact h
  · exact dlcSound_dockAuto _ _ h

theorem dlcSound_servePower {s : State} (h : s.dlc.Sound) : (servePower s).1.dlc.Sound := by
  unfold servePower
  split
  · split
    · exact h
    · exact dlcSound_dockAuto _ _ (s := { s with dlc := { s.dlc with powerReq := none } }) h
  · exact h

theorem dlcSound_presenceAsserted {s : State} (h : s.dlc.Sound) : (presenceAsserted s).1.dlc.Sound := by
  unfold presenceAsserted
  split
  · rename_i hs
    exact Dlc.sound_attached (b := s.dlc.base) (w := s.dlc.walk) h (.inl hs) (.inl rfl)
  · exact h

theorem dlcSound_dlcPresence (b : Bool) {s : State} (h : s.dlc.Sound) : (dlcPresence b s).1.dlc.Sound := by
  obtain ⟨ha, hm, -⟩ := h.counts
  have hc := Dlc.sound_cleared (.inl rfl) (d := { s.dlc with overdraw := 0 }) ⟨ha, hm, Nat.zero_le _⟩
  unfold dlcPresence
  split
  · exact dlcSound_presenceAsserted h
  · unfold presenceDropped
    split
    · exact h
    · exact hc

theorem dlcSound_dockRelease (o : Option Origin) {s : State} (h : s.dlc.Sound) : (dockRelease o s).1.dlc.Sound := by
  have hc := Dlc.sound_cleared (.inr rfl) h.counts
  unfold dockRelease
  split
  · exact hc
  · exact h

theorem dlcSound_dockRevoked {s : State} (h : s.dlc.Sound) : (dockRevoked s).1.dlc.Sound := by
  unfold dockRevoked
  split
  · exact dlcSound_dockFault _ _ h.counts
  · exact h

theorem dlcSound_dockSettled {s : State} (h : s.dlc.Sound) (hs : s.dlc.state = .settling) :
    (dockSettled s).1.dlc.Sound :=
  Dlc.sound_attached (t := none) h (.inr hs) (.inr ⟨rfl, rfl⟩)

theorem dlcSound_beginRecovery {s : State} (h : s.dlc.Sound) : (beginRecovery s).1.dlc.Sound := by
  unfold beginRecovery
  split
  · rename_i hs
    have hc := h.cause_none (by simp [hs.1])
    obtain ⟨-, hm, ho⟩ := h.counts
    change Dlc.Sound
      (({ s.dlc.moved .identifying with
          recov := true, step := some .recover, quiesceSent := false, walk := none, attempts := 0, outcomes := [] }
        : Dlc).attempt)
    simp [Dlc.Sound, Dlc.attempt, Dlc.opened, Dlc.moved, DockState.talks, DockState.supplied, hm, ho, hc]
  · exact h

/-! ### The close of a slot -/

theorem routeAnswer_dlc (ans : Answer) (s : State) : (routeAnswer gateArrival ans s).1.dlc = s.dlc :=
  (routeAnswer_only ans s (T := [.hau, .igt, .fbf]) rfl).dlc rfl

theorem dlcSound_statTests (flags : Byte) (ma : Nat) {k : State → Act} {s : State} (h : s.dlc.Sound)
    (hk : ∀ t : State, t.dlc.Sound → t.dlc.state = s.dlc.state → (k t).1.dlc.Sound) :
    (statTests flags ma k s).1.dlc.Sound := by
  obtain ⟨ha, hm, ho⟩ := h.counts
  have hn : overdrawNext s.sbu.grant ma s.dlc.overdraw ≤ 3 := by
    unfold overdrawNext; split <;> omega
  unfold statTests
  dsimp only
  split
  · exact dlcSound_dockFault _ _ ⟨ha, hm, ho⟩
  · split
    · exact dlcSound_dockFault _ _ ⟨ha, hm, hn⟩
    · exact hk _ (h.overdrawNext hn) rfl

theorem dlcSound_identificationFailed {s : State} (h : s.dlc.Sound) (hs : s.dlc.state = .identifying)
    (hr : s.dlc.recov = false) : (identificationFailed s).1.dlc.Sound := by
  unfold identificationFailed
  split
  · change Dlc.Sound
      { s.dlc.moved .covered with step := none, walk := none, base := some .cover, basePower := false }
    simp_all [Dlc.Sound, Dlc.moved, DockState.supplied]
  · exact dlcSound_dockFault _ _ h.counts

theorem dlcSound_recovered (i : Ident) {s : State} (h : s.dlc.Sound) (hs : s.dlc.state = .identifying) :
    (recovered i s).1.dlc.Sound := by
  have hcounts := h.counts
  have hc := h.cause_none (by simp [hs])
  unfold recovered
  extract_lets same d u a
  clear_value same
  cases same
  · exact h
  · rw [if_pos rfl]
    split
    · exact Dlc.sound_faulted _ hcounts
    · change Dlc.Sound
        { ({ s.dlc with base := some (.keyboard i) } : Dlc).moved .active with
          recov := false, step := none, missed := 0, overdraw := 0, slotTimer := slotLeft s.par.pollPeriod u }
      simp [Dlc.Sound, Dlc.moved, DockState.supplied, hc, hcounts.1]

theorem dlcSound_identified (i : Ident) {s : State} (h : s.dlc.Sound) (hs : s.dlc.state = .identifying)
    (hr : s.dlc.recov = false) : (identified i s).1.dlc.Sound :=
  Dlc.sound_stepEnded (d := { s.dlc with base := some (.keyboard i) }) (w := s.dlc.walk.filter fun w => w.target == .attach)
    (q := s.dlc.quiesceSent) (t := none) h (by simp [hs]) (.inr (.inl rfl)) (.inr hr) h.counts.2.1 h.counts.2.2

theorem dlcSound_identClose (ans : Option Answer) (o : Outcome) {s : State} (h : s.dlc.Sound)
    (hs : s.dlc.state = .identifying) : (identClose ans o s).1.dlc.Sound := by
  have hnext : ∀ outs, Dlc.Sound { s.dlc with attempts := min (s.dlc.attempts + 1) 3, outcomes := outs } := by
    intro outs
    obtain ⟨h1, h2, h3, h4, h5, h6, h7, h8, h9, h10, h11, h12, h13, h14, -, h16⟩ := h
    exact ⟨h1, h2, h3, h4, h5, h6, h7, h8, h9, h10, h11, h12, h13, h14, Nat.min_le_right _ _, h16⟩
  unfold identClose
  extract_lets d v x u
  split
  · split
    · exact dlcSound_recovered _ (hnext _) hs
    · rename_i hr
      have hr : s.dlc.recov = false := by simpa using hr
      exact dlcSound_identified _ (hnext _) hs hr
  · split
    · exact hnext _
    · split
      · exact dlcSound_dockFault _ _ (s := u) (hnext _).counts
      · rename_i hr
        exact dlcSound_identificationFailed (s := u) (hnext _) hs (by simpa using hr)

theorem dlcSound_readyReached {s : State} (h : s.dlc.Sound) (hs : s.dlc.state = .powering ∨ s.dlc.state = .waking) :
    (readyReached s).1.dlc.Sound := by
  unfold readyReached
  split
  · exact Dlc.sound_stepEnded (q := s.dlc.quiesceSent) h (by rcases hs with hs | hs <;> simp [hs]) (.inl rfl)
      (.inl (by rcases hs with hs | hs <;> simp [hs])) (Nat.zero_le _) (Nat.zero_le _)
  · exact h

theorem dlcSound_runClose (ans : Option Answer) {s : State} (h : s.dlc.Sound)
    (hs : s.dlc.state = .powering ∨ s.dlc.state = .waking) : (runClose gateArrival ans s).1.dlc.Sound := by
  unfold runClose
  dsimp only [andThen_fst, emit]
  split
  · refine dlcSound_statTests _ _ h fun t ht hst => ?_
    split
    · exact dlcSound_readyReached ht (hst ▸ hs)
    · exact ht
  · rw [routeAnswer_dlc]; exact h
  · exact h

theorem dlcSound_quiesceFailed (ans : Option Answer) {s : State} (h : s.dlc.Sound) :
    (quiesceFailed gateArrival ans s).1.dlc.Sound := by
  have hd : Dlc.Sound
      { s.dlc with step := none, quiesceSent := false, walk := none, missed := min (s.dlc.missed + 1) 3 } := by
    have hm := h.missedNext (Nat.min_le_right (s.dlc.missed + 1) 3)
    simp_all [Dlc.Sound]
  unfold quiesceFailed
  cases ans with
  | none => exact hd
  | some x =>
    dsimp only [andThen_fst, emit]
    rw [routeAnswer_dlc]
    exact hd

theorem dlcSound_quiesceClose (ans : Option Answer) {s : State} (h : s.dlc.Sound) (hs : s.dlc.state = .active) :
    (quiesceClose gateArrival ans s).1.dlc.Sound := by
  unfold quiesceClose
  split
  · refine dlcSound_statTests _ _ h fun t ht hst => ?_
    split
    · exact Dlc.sound_stepEnded ht (by simp [hst, hs]) (.inr (.inr rfl)) (.inl (by simp [hst, hs])) (Nat.zero_le _)
        ht.counts.2.2
    · exact dlcSound_quiesceFailed _ ht
  · exact dlcSound_quiesceFailed _ h

theorem dlcSound_pollClose (ans : Option Answer) {s : State} (h : s.dlc.Sound) :
    (pollClose gateArrival ans s).1.dlc.Sound := by
  unfold pollClose
  split
  · dsimp only [andThen_fst, emit]
    split
    · exact dlcSound_statTests _ _ (h.missedNext (Nat.zero_le _)) fun _ ht _ => ht
    · rw [routeAnswer_dlc]; exact h.missedNext (Nat.zero_le _)
  · have hm := h.missedNext (Nat.min_le_right (s.dlc.missed + 1) 3)
    dsimp only
    repeat' split
    · exact hm
    · exact hm
    · exact dlcSound_dockFault _ _ hm.counts

theorem dlcSound_closeSlot (ans : Option Answer) (o : Outcome) {s : State} (h : s.dlc.Sound) :
    (closeSlot gateArrival ans o s).1.dlc.Sound := by
  have hc := h.slotClosed
  unfold closeSlot
  split
  · exact h
  · dsimp only
    split
    case h_1 hs => exact dlcSound_identClose ans o hc hs
    case h_2 hs => exact dlcSound_runClose ans hc (.inl hs)
    case h_3 hs => exact dlcSound_runClose ans hc (.inr hs)
    case h_4 hs =>
      split
      · exact dlcSound_quiesceClose ans hc hs
      · exact dlcSound_pollClose ans hc
    case h_5 hs => exact dlcSound_pollClose ans hc
    all_goals exact hc

/-! ### Power states -/

theorem dlcSound_enterStandby (b : Bool) {s : State} (h : s.dlc.Sound) : (enterStandby b s).1.dlc.Sound := by
  have hd : (enterStandby b s).1.dlc = s.dlc.stop := by
    unfold enterStandby
    dsimp only [andThen_fst, emitWith]
    rw [(sbuPowerChange_only _ (T := [.sbu, .pcc]) rfl).dlc rfl]
    rfl
  exact hd ▸ Dlc.sound_stop h

theorem dlcSound_standbyDue {s : State} (h : s.dlc.Sound) : (standbyDue s).1.dlc.Sound := by
  unfold standbyDue
  split
  · exact h
  · exact dlcSound_enterStandby _ h

theorem dlcSound_standbyRecheck {s : State} (h : s.dlc.Sound) : (standbyRecheck s).1.dlc.Sound := by
  unfold standbyRecheck
  split
  · split
    · split
      · split
        · exact dlcSound_standbyDue h
        · exact h
      · exact h
    · exact h
  · exact h

theorem dlcSound_deferredRecheck {s : State} (h : s.dlc.Sound) : (deferredRecheck s).1.dlc.Sound := by
  unfold deferredRecheck
  split
  · exact dlcSound_enterStandby _ h
  · exact h

theorem dlcSound_hostChanged (old new : HostState) {s : State} (h : s.dlc.Sound) :
    (hostChanged old new s).1.dlc.Sound := by
  unfold hostChanged
  split
  · split
    · split
      · exact h
      · exact (startDoze_only s (T := [.oru, .sbu, .pcc, .psc]) rfl).dlc rfl ▸ h
    · exact h
  · split
    · exact dlcSound_standbyRecheck h
    · exact (enterRunFromDoze_only s (T := [.oru, .sbu, .pcc, .psc]) rfl).dlc rfl ▸ h
  · split <;> exact h
  · exact h

theorem dlcSound_dlcRestart {s : State} (h : s.dlc.Sound) : (dlcRestart s).dlc.Sound := by
  unfold dlcRestart
  split
  · split
    · exact h
    · exact dlcSound_openNextSlot h
  · exact h

theorem dlcSound_enterRunFromSettle (w : WakeSense) {s : State} (h : s.dlc.Sound) :
    (enterRunFromSettle w s).1.dlc.Sound := by
  unfold enterRunFromSettle
  dsimp only [andThen_fst, emitWith, quiet_fst]
  rw [(pccRestart_only _ _ _ (T := [.sbu, .pcc]) rfl).dlc rfl, (sbuRestart_only _ _ _ (T := [.sbu, .pcc]) rfl).dlc rfl]
  refine dlcSound_dlcRestart ?_
  rw [(pclRestart_only _ (T := [.pcl]) rfl).dlc rfl, (orientRestart_only _ (T := [.oru]) rfl).dlc rfl,
    (hauRestart_only _ (T := [.hau]) rfl).dlc rfl]
  exact h

theorem dlcSound_revokeGrant {s : State} (h : s.dlc.Sound) : (revokeGrant s).1.dlc.Sound := by
  have hd : Dlc.Sound
      { s.dlc with basePower := false, overdraw := if s.sbu.grant = 0 then s.dlc.overdraw else 0 } := by
    have ho : (if s.sbu.grant = 0 then s.dlc.overdraw else 0) ≤ 3 := by
      split
      · exact h.counts.2.2
      · exact Nat.zero_le _
    simp_all [Dlc.Sound]
  unfold revokeGrant
  dsimp only [andThen_fst]
  rw [(recompute_only _ _ (T := [.sbu, .pcc]) rfl).dlc rfl]
  exact hd

/-! ### Commands, handovers and core effects -/

theorem dlcSound_runCommand (platform : Bool) (seq : Nat) (time : Stamp) (p : List Byte) {s : State}
    (h : s.dlc.Sound) : (runCommand platform seq time p s).act.1.dlc.Sound := by
  by_cases hc : (commandBlocks (codeOf p)).contains .dlc = false
  · exact ((runCommand_blocks platform seq time p s).dlc hc).symm ▸ h
  unfold runCommand
  dsimp only
  split
  case h_10 =>
    unfold dockAutoResult
    dsimp only [plainResult]
    split
    · exact dlcSound_dockAuto _ _ h
    · exact h
  case h_24 => unfold partResetResult; split <;> exact h
  all_goals
    rename_i hn
    exact absurd (by unfold codeOf; rw [hn]; rfl) hc

theorem dlcSound_handle (g : Signal) {s : State} (h : s.dlc.Sound) : (handle g s).1.dlc.Sound := by
  by_cases hb : g.blocks.contains .dlc = false
  · exact ((handle_blocks g s).dlc hb).symm ▸ h
  cases g
  case serve =>
    exact serveQueue_keeps (fun s => s.dlc.Sound) (fun _ _ _ _ _ _ _ h => h) (fun _ h => h)
      (fun pl sq tm p _ h => dlcSound_runCommand pl sq tm p h) s h
  case pscRecheck => exact dlcSound_standbyRecheck h
  case pscHost old new => exact dlcSound_hostChanged old new h
  case pscDeferred => exact dlcSound_deferredRecheck h
  case grantApplied c => exact dlcSound_grantApplied c h
  case dlcPowerReq q => exact dlcSound_powerRequest q h
  case servePower => exact dlcSound_servePower h
  case dlcPresence b => exact dlcSound_dlcPresence b h
  case dlcRevoked => exact dlcSound_dockRevoked h
  case dlcRelease o => exact dlcSound_dockRelease o h
  case dlcBegin st => exact dlcSound_beginStep st h
  case openDue => exact dlcSound_openDue h
  case dlcRecover => exact dlcSound_beginRecovery h
  all_goals exact (hb rfl).elim

theorem dlcSound_endReset (rail temp : Int) {s : State} (h : s.dlc.Sound) : (endReset rail temp s).1.dlc.Sound := by
  have hd : ∀ s : State, s.dlc.Sound → (dockAtReset s).1.dlc.Sound := by
    intro s h
    unfold dockAtReset
    split
    · exact dlcSound_presenceAsserted h
    · exact h
  unfold endReset
  dsimp only [andThen_fst]
  rw [(penAtReset_only _ (T := [.sbu, .pcc]) rfl).dlc rfl]
  refine hd _ ?_
  rw [(postureChoose_only _ (T := [.pcl]) rfl).dlc rfl, (firstReadings_only _ _ _ (T := [.sbu, .pcc]) rfl).dlc rfl]
  exact h

theorem Dlc.sound_atReset : Dlc.atReset.Sound := by
  simp [Dlc.Sound, Dlc.atReset]

theorem dlcSound_core (c : Instr) {s : State} (h : s.dlc.Sound) : (c.core s).1.dlc.Sound := by
  by_cases hb : c.blocks.contains .dlc = false
  · exact ((core_blocks c s).dlc hb).symm ▸ h
  have hnew : ∀ rail temp (s' : State), s'.dlc = Dlc.atReset → (endReset rail temp s').1.dlc.Sound :=
    fun rail temp s' hs => dlcSound_endReset rail temp (hs ▸ Dlc.sound_atReset)
  cases c
  case settleTimerDockExpiry =>
    dsimp only [Instr.core]
    split
    · rename_i hr
      obtain ⟨hsettle, -⟩ := id h
      exact dlcSound_dockSettled h (hsettle hr)
    · exact h
  case pollPeriodExpiry =>
    dsimp only [Instr.core]
    split
    · exact h
    · exact dlcSound_openNextSlot h
  case identAttemptOpen =>
    dsimp only [Instr.core]
    split
    · rename_i hs; exact h.attempt hs.1
    · exact h
  case dockAnswer bytes => exact dlcSound_closeSlot _ _ h
  case answerStoppedShort => exact dlcSound_closeSlot _ _ h
  case answerWindowExpiry => exact dlcSound_closeSlot _ _ h
  case readyTimerExpiry => exact dlcSound_dockFault _ _ h.counts
  case powerRequestServe => exact dlcSound_servePower h
  case shedTimerExpiry => exact dlcSound_revokeGrant h
  case standbyTimerExpiry =>
    dsimp only [Instr.core]
    split
    · exact dlcSound_standbyDue h
    · exact h
  case deferredStandbyEntry => exact dlcSound_deferredRecheck h
  case settleTimerExpiry w =>
    dsimp only [Instr.core]
    split
    · exact dlcSound_enterRunFromSettle w h
    · exact h
  case powerOnReset r => exact hnew _ _ _ rfl
  case brownoutReset r => exact hnew _ _ _ rfl
  case pinReset r => exact hnew _ _ _ rfl
  case fullReset rail temp =>
    dsimp only [Instr.core, fullReset]
    split
    · exact hnew _ _ _ rfl
    · exact h
  case softReset rail temp =>
    dsimp only [Instr.core, softReset]
    split
    · exact hnew _ _ _ rfl
    · exact h
  all_goals exact (hb rfl).elim

/-- Settles O10: the passing of time, each core effect and each handover leave a record that its dock state allows. -/
theorem dockRecordStaysSound : Obligations.DockRecordStaysSound := fun _ _ hs h =>
  step_keeps (fun s => s.dlc.Sound) (fun _ _ h => h) (fun d _ h => Dlc.sound_pass d h) (fun c _ h => dlcSound_core c h)
    (fun g _ h => dlcSound_handle g h) hs h

end Sys2Proof.Machine
end

section
/-! The ULP's bounds (11 11.1, 11.3, 11.5): each operation keeps them. -/

namespace Sys2Proof.Machine

open Sys2Proof

theorem Ulp.Sound.lostNext {u : Ulp} (h : u.Sound) {n : Nat} (hn : n ≤ 255) : Ulp.Sound { u with lost := n } := by
  obtain ⟨hq, ho, -, hp, hd, hs⟩ := h
  exact ⟨hq, ho, hn, hp, hd, hs⟩

theorem Ulp.Sound.queueNext {u : Ulp} (h : u.Sound) {q : List RxFrame} (hn : q.length ≤ 4) :
    Ulp.Sound { u with queue := q } := by
  obtain ⟨-, ho, hl, hp, hd, hs⟩ := h
  exact ⟨hn, ho, hl, hp, hd, hs⟩

theorem Ulp.Sound.overrunsNext {u : Ulp} (h : u.Sound) {o : List Reply} (hn : o.length ≤ 4) :
    Ulp.Sound { u with overruns := o } := by
  obtain ⟨hq, -, hl, hp, hd, hs⟩ := h
  exact ⟨hq, hn, hl, hp, hd, hs⟩

/-! ### Reports and the arbiter -/

theorem ulpSound_offerOverflow {s : State} (h : s.ulp.Sound) : (offerOverflow s).1.ulp.Sound := by
  unfold offerOverflow
  dsimp only
  split
  · exact h.lostNext (Nat.zero_le _)
  · exact h

theorem ulpSound_offerReport (k : ReportKind) (f : List Byte) {s : State} (h : s.ulp.Sound) :
    (offerReport k f s).1.ulp.Sound := by
  unfold offerReport
  dsimp only
  split
  · exact h
  · exact h.lostNext (Nat.min_le_right _ _)

theorem ulpSound_composeReport (k : ReportKind) (f : List Byte) {s : State} (h : s.ulp.Sound) :
    (composeReport k f s).1.ulp.Sound := by
  unfold composeReport
  split
  · exact ulpSound_offerReport k f (ulpSound_offerOverflow h)
  · exact h

theorem ulpSound_arbiterChoice {s : State} (h : s.ulp.Sound) : (arbiterChoice s).1.ulp.Sound := by
  unfold arbiterChoice chooseHeld chooseArea
  dsimp only
  repeat' split
  all_goals exact h

theorem ulpSound_placeReply (r : Reply) {s : State} (h : s.ulp.Sound) : (placeReply r s).1.ulp.Sound := by
  unfold placeReply
  split <;> exact h

theorem ulpSound_receiveFrame (ct : Byte) (p : List Byte) {s : State} (h : s.ulp.Sound) :
    (receiveFrame ct p s).1.ulp.Sound := by
  unfold receiveFrame
  dsimp only
  split
  · rename_i hq
    exact h.queueNext (by simp only [List.length_append, List.length_singleton]; omega)
  · split
    · exact h
    · split
      · exact h
      · split
        · rename_i ho
          exact h.overrunsNext (by simp only [List.length_append, List.length_singleton]; omega)
        · exact h

theorem ulpSound_receiveBytes (flush : Bool) (bs : List Byte) {s : State} (h : s.ulp.Sound) :
    (receiveBytes flush bs s).1.ulp.Sound := by
  unfold receiveBytes
  split <;> exact h

theorem ulpSound_transmitEnd {s : State} (h : s.ulp.Sound) : (transmitEnd s).1.ulp.Sound := by
  unfold transmitEnd
  repeat' split
  all_goals exact h

/-! ### Commands -/

theorem ulpSound_accessSet (platform : Bool) (ch g w : Nat) {s : State} (h : s.ulp.Sound) :
    (accessSetResult platform ch g w s).act.1.ulp.Sound := by
  obtain ⟨hq, ho, hl, hp, hd, hs⟩ := id h
  unfold accessSetResult
  dsimp only
  split
  · exact h
  · split
    · exact h
    · rename_i hr
      split
      · rename_i hch
        have hg : g ≠ 9 := fun hg => hr (.inr (.inr (.inr ⟨hch, hg⟩)))
        refine ⟨hq, ho, hl, ?_, hd, ?_⟩
        · exact List.length_set.trans hp
        · exact (List.getElem?_set_ne hg).trans hs
      · exact ⟨hq, ho, hl, hp, List.length_set.trans hd, hs⟩

theorem ulpSound_runCommand (platform : Bool) (seq : Nat) (time : Stamp) (p : List Byte) {s : State}
    (h : s.ulp.Sound) : (runCommand platform seq time p s).act.1.ulp.Sound := by
  by_cases hc : (commandBlocks (codeOf p)).contains .ulp = false
  · exact ((runCommand_blocks platform seq time p s).ulp hc).symm ▸ h
  unfold runCommand
  dsimp only
  split
  case h_8 => exact h
  case h_22 => exact ulpSound_accessSet _ _ _ _ h
  case h_23 => exact h
  case h_24 => unfold partResetResult; split <;> exact h
  all_goals
    rename_i hn
    exact absurd (by unfold codeOf; rw [hn]; rfl) hc

/-! ### Power states -/

theorem ulpSound_enterStandby (b : Bool) {s : State} (h : s.ulp.Sound) : (enterStandby b s).1.ulp.Sound := by
  have hu : (enterStandby b s).1.ulp = { s.ulp with rx := [] } := by
    unfold enterStandby
    dsimp only [andThen_fst, emitWith]
    rw [(sbuPowerChange_only _ (T := [.sbu, .pcc]) rfl).ulp rfl]
    rfl
  exact hu ▸ h

theorem ulpSound_standbyDue {s : State} (h : s.ulp.Sound) : (standbyDue s).1.ulp.Sound := by
  unfold standbyDue
  split
  · exact h
  · exact ulpSound_enterStandby _ h

theorem ulpSound_standbyRecheck {s : State} (h : s.ulp.Sound) : (standbyRecheck s).1.ulp.Sound := by
  unfold standbyRecheck
  split
  · split
    · split
      · split
        · exact ulpSound_standbyDue h
        · exact h
      · exact h
    · exact h
  · exact h

theorem ulpSound_deferredRecheck {s : State} (h : s.ulp.Sound) : (deferredRecheck s).1.ulp.Sound := by
  unfold deferredRecheck
  split
  · exact ulpSound_enterStandby _ h
  · exact h

theorem ulpSound_hostChanged (old new : HostState) {s : State} (h : s.ulp.Sound) :
    (hostChanged old new s).1.ulp.Sound := by
  unfold hostChanged
  split
  · split
    · split
      · exact h
      · exact (startDoze_only s (T := [.oru, .sbu, .pcc, .psc]) rfl).ulp rfl ▸ h
    · exact h
  · split
    · exact ulpSound_standbyRecheck h
    · exact (enterRunFromDoze_only s (T := [.oru, .sbu, .pcc, .psc]) rfl).ulp rfl ▸ h
  · split <;> exact h
  · exact h

theorem enterRunFromSettle_ulp (w : WakeSense) (s : State) :
    (enterRunFromSettle w s).1.ulp = { s.ulp with rx := [] } := by
  unfold enterRunFromSettle
  dsimp only [andThen_fst, emitWith, quiet_fst]
  rw [(pccRestart_only _ _ _ (T := [.sbu, .pcc]) rfl).ulp rfl, (sbuRestart_only _ _ _ (T := [.sbu, .pcc]) rfl).ulp rfl,
    (dlcRestart_only _ (T := [.dlc, .fbf]) rfl).ulp rfl, (pclRestart_only _ (T := [.pcl]) rfl).ulp rfl,
    (orientRestart_only _ (T := [.oru]) rfl).ulp rfl, (hauRestart_only _ (T := [.hau]) rfl).ulp rfl]
  rfl

/-! ### Handovers and core effects -/

theorem ulpSound_handle (g : Signal) {s : State} (h : s.ulp.Sound) : (handle g s).1.ulp.Sound := by
  by_cases hb : g.blocks.contains .ulp = false
  · exact ((handle_blocks g s).ulp hb).symm ▸ h
  cases g
  case report k f => exact ulpSound_composeReport k f h
  case reportRemoved => exact ulpSound_offerOverflow h
  case arbiter => exact ulpSound_arbiterChoice h
  case received ct p => exact ulpSound_receiveFrame ct p h
  case serve =>
    refine serveQueue_keeps (fun s => s.ulp.Sound) (fun s q rs _ _ hq hr h => ?_) (fun _ h => h)
      (fun pl sq tm p _ h => ulpSound_runCommand pl sq tm p h) s h
    obtain ⟨hql, hol, -⟩ := id h
    exact (h.queueNext (hq.trans hql)).overrunsNext (hr.trans hol)
  case reply r => exact ulpSound_placeReply r h
  case holdBegin => exact h
  case pscRecheck => exact ulpSound_standbyRecheck h
  case pscHost old new => exact ulpSound_hostChanged old new h
  case pscDeferred => exact ulpSound_deferredRecheck h
  all_goals exact (hb rfl).elim

theorem endReset_ulp (rail temp : Int) (s : State) : (endReset rail temp s).1.ulp = s.ulp :=
  (endReset_only rail temp s (T := [.hau, .pcl, .dlc, .fbf, .sbu, .pcc]) rfl).ulp rfl

/-- The ULP of a power-on, brownout, pin or full reset. -/
theorem Ulp.sound_atReset (c : ResetCause) (pre : Option UpFrame) (m : BitVec 21) :
    (Ulp.atReset c false pre m 0 defaultPlatform defaultDriver false).Sound :=
  ⟨Nat.zero_le _, Nat.zero_le _, Nat.zero_le _, rfl, rfl, rfl⟩

theorem ulpSound_core (c : Instr) {s : State} (h : s.ulp.Sound) : (c.core s).1.ulp.Sound := by
  by_cases hb : c.blocks.contains .ulp = false
  · exact ((core_blocks c s).ulp hb).symm ▸ h
  have hnew : ∀ rail temp (s' : State), s'.ulp.Sound → (endReset rail temp s').1.ulp.Sound :=
    fun rail temp s' hs => (endReset_ulp rail temp s').symm ▸ hs
  cases c
  case standbyTimerExpiry =>
    dsimp only [Instr.core]
    split
    · exact ulpSound_standbyDue h
    · exact h
  case deferredStandbyEntry => exact ulpSound_deferredRecheck h
  case settleTimerExpiry w =>
    dsimp only [Instr.core]
    split
    · exact (enterRunFromSettle_ulp w s).symm ▸ h
    · exact h
  case commandFrameReceived bs => exact ulpSound_receiveBytes _ _ h
  case uplinkFrameDiscard bs e => exact ulpSound_receiveBytes _ _ h
  case interbyteTimeout => exact ulpSound_receiveBytes _ _ h
  case frameTransmitEnd => exact ulpSound_transmitEnd h
  case overflowReport => exact ulpSound_offerOverflow h
  case powerOnReset r => exact hnew _ _ _ (Ulp.sound_atReset _ _ _)
  case brownoutReset r => exact hnew _ _ _ (Ulp.sound_atReset _ _ _)
  case pinReset r => exact hnew _ _ _ (Ulp.sound_atReset _ _ _)
  case fullReset rail temp =>
    dsimp only [Instr.core, fullReset]
    split
    · exact hnew _ _ _ (Ulp.sound_atReset _ _ _)
    · exact h
  case softReset rail temp =>
    dsimp only [Instr.core, softReset]
    split
    · obtain ⟨-, -, hl, hp, hd, hs⟩ := h
      exact hnew _ _ _ ⟨Nat.zero_le _, Nat.zero_le _, hl, hp, hd, hs⟩
    · exact h
  all_goals exact (hb rfl).elim

/-- Settles O11: the passing of time, each core effect and each handover keep the ULP's bounds. -/
theorem uplinkStaysSound : Obligations.UplinkStaysSound := fun _ _ hs h =>
  step_keeps (fun s => s.ulp.Sound) (fun _ _ h => h) (fun _ _ h => h) (fun c _ h => ulpSound_core c h)
    (fun g _ h => ulpSound_handle g h) hs h

end Sys2Proof.Machine
end

section
/-! The parameters (11 11.4): a store keeps them in their ranges, and every operation keeps the grant within the
budget. -/

namespace Sys2Proof.Machine

open Sys2Proof

/-! ### The parameters by number -/

/-- The parameters are within their ranges, and the two pairs keep their distance. -/
def Params.InRange (p : Params) : Prop :=
  (∀ n, 1 ≤ n → n ≤ 46 → (paramRange n).1 ≤ p.get n ∧ p.get n ≤ (paramRange n).2) ∧
    p.tKnee + 5 ≤ p.tCut ∧ p.shedLevel + 100 ≤ p.warnLevel

/-- The grant is within the budget. -/
def State.GrantFits (s : State) : Prop := s.sbu.grant ≤ s.par.bTotal

theorem State.paramsSound_iff (s : State) : s.ParamsSound ↔ s.par.InRange ∧ s.GrantFits :=
  ⟨fun ⟨h1, h2, h3, h4⟩ => ⟨⟨h1, h2, h3⟩, h4⟩, fun ⟨⟨h1, h2, h3⟩, h4⟩ => ⟨h1, h2, h3, h4⟩⟩

/-- A parameter's store moves its own value only. -/
theorem Params.get_set (p : Params) (v : Nat) {n : Nat} (hn : 1 ≤ n ∧ n ≤ 46) {m : Nat} (hm : 1 ≤ m ∧ m ≤ 46) :
    (p.set n v).get m = if m = n then v else p.get m := by
  obtain ⟨hn1, hn2⟩ := hn
  obtain ⟨hm1, hm2⟩ := hm
  interval_cases n <;> interval_cases m <;> rfl

theorem paramRange_le (n : Nat) : (paramRange n).1 ≤ (paramRange n).2 := by
  unfold paramRange
  split <;> decide

/-- The clamp against the range alone. -/
theorem rangeClamp_mem (n : Nat) (v : Int) :
    (paramRange n).1 ≤ (max ((paramRange n).1 : Int) (min ((paramRange n).2 : Int) v)).toNat ∧
      (max ((paramRange n).1 : Int) (min ((paramRange n).2 : Int) v)).toNat ≤ (paramRange n).2 := by
  have := paramRange_le n
  omega

/-- A stored value is within its range: the clamp against another parameter or the grant does not leave it. -/
theorem clampParam_mem {s : State} (hp : s.par.InRange) (hg : s.GrantFits) (n : Nat) (v : Int) :
    (paramRange n).1 ≤ clampParam s n v ∧ clampParam s n v ≤ (paramRange n).2 := by
  obtain ⟨hr, hpair, hlevels⟩ := hp
  have hb := hr 32 (by decide) (by decide)
  have hk := hr 33 (by decide) (by decide)
  have hc := hr 34 (by decide) (by decide)
  have hw := hr 36 (by decide) (by decide)
  have hs := hr 37 (by decide) (by decide)
  simp only [paramRange, Params.get] at hb hk hc hw hs
  unfold State.GrantFits at hg
  have hv := rangeClamp_mem n v
  unfold clampParam clampDependent
  generalize (max ((paramRange n).1 : Int) (min ((paramRange n).2 : Int) v)).toNat = x at hv ⊢
  split <;> simp only [paramRange] at hv ⊢ <;> omega

theorem Params.get_tKnee (p : Params) : p.get 33 = p.tKnee := rfl
theorem Params.get_tCut (p : Params) : p.get 34 = p.tCut := rfl
theorem Params.get_warnLevel (p : Params) : p.get 36 = p.warnLevel := rfl
theorem Params.get_shedLevel (p : Params) : p.get 37 = p.shedLevel := rfl

theorem paramsInRange_set {s : State} (hp : s.par.InRange) (hg : s.GrantFits) {n : Nat} (hn : 1 ≤ n ∧ n ≤ 46)
    (v : Int) : (s.par.set n (clampParam s n v)).InRange := by
  have hmem := clampParam_mem hp hg n v
  have hset : ∀ {m}, 1 ≤ m ∧ m ≤ 46 → _ := fun hm => Params.get_set s.par (clampParam s n v) hn hm
  obtain ⟨hr, hpair, hlevels⟩ := hp
  have hc := hr 34 (by decide) (by decide)
  have hw := hr 36 (by decide) (by decide)
  simp only [paramRange, Params.get] at hc hw
  refine ⟨fun m h1 h2 => ?_, ?_, ?_⟩
  · rw [hset ⟨h1, h2⟩]
    split
    · rename_i hm; exact hm ▸ hmem
    · exact hr m h1 h2
  · rw [← Params.get_tKnee, ← Params.get_tCut, hset (by decide), hset (by decide)]
    split_ifs with h1 h2 h2
    · omega
    · subst h1
      simp only [clampParam, clampDependent, Params.get_tCut]
      omega
    · subst h2
      simp only [clampParam, clampDependent, Params.get_tKnee]
      omega
    · exact hpair
  · rw [← Params.get_warnLevel, ← Params.get_shedLevel, hset (by decide), hset (by decide)]
    split_ifs with h1 h2 h2
    · omega
    · subst h1
      simp only [clampParam, clampDependent, Params.get_warnLevel]
      omega
    · subst h2
      simp only [clampParam, clampDependent, Params.get_shedLevel]
      omega
    · exact hlevels

/-! ### The grant -/

theorem grantFits_of_only {T : List Block} {s t : State} (h : s.GrantFits) (ho : Only T s t)
    (hT : T.any [Block.sbu, .par].contains = false) : t.GrantFits := by
  have hsbu := ho.sbu (not_contains_of_disjoint hT rfl)
  have hpar := ho.par (not_contains_of_disjoint hT rfl)
  simpa only [State.GrantFits, hsbu, hpar] using h

theorem grantFits_applyRequest {s : State} (h : s.GrantFits) : (applyRequest s).1.GrantFits := by
  unfold applyRequest
  dsimp only
  split_ifs
  · exact h
  · exact (Nat.min_le_right _ _ : min s.sbu.requested s.par.bTotal ≤ s.par.bTotal)
  · exact h
  · exact (Nat.min_le_right _ _ : min s.sbu.requested s.par.bTotal ≤ s.par.bTotal)

theorem grantFits_recompute (told : Bool) {s : State} (h : s.GrantFits) : (recompute told s).1.GrantFits := h

theorem grantFits_moveRail (v : Nat) {s : State} (h : s.GrantFits) : (moveRail v s).1.GrantFits := by
  unfold moveRail
  dsimp only
  split
  · refine grantFits_recompute true ?_
    split
    · exact grantFits_applyRequest
        (s := { s with sbu := { s.sbu with rail := v, railState := s.sbu.railState.next s.par v, shed := _ } }) h
    · exact h
  · exact h

theorem grantFits_takeRail (mv : Int) {s : State} (h : s.GrantFits) : (takeRail mv s).1.GrantFits :=
  grantFits_moveRail _ (s := { s with sbu := { s.sbu with railTimer := railInterval s } }) h

theorem grantFits_takeTemperature (t : Int) {s : State} (h : s.GrantFits) : (takeTemperature t s).1.GrantFits := by
  unfold takeTemperature
  dsimp only [andThen_fst]
  split <;> exact h

theorem grantFits_takeMeasurement (mv ma : Int) {s : State} (h : s.GrantFits) :
    (takeMeasurement mv ma s).1.GrantFits := by
  unfold takeMeasurement
  dsimp only
  split
  · exact h
  · split <;> exact h

theorem grantFits_penInserted {s : State} (h : s.GrantFits) : (penInserted s).1.GrantFits := by
  unfold penInserted
  split
  · dsimp only [andThen_fst]
    split <;> exact h
  · exact h

theorem grantFits_penRemoved {s : State} (h : s.GrantFits) : (penRemoved s).1.GrantFits := by
  unfold penRemoved
  split <;> exact h

theorem grantFits_chargeControl (v : Nat) {s : State} (h : s.GrantFits) :
    (chargeControlResult v s).act.1.GrantFits := by
  unfold chargeControlResult
  split
  · unfold plainResult chargeStart; dsimp only; split <;> exact h
  · unfold plainResult chargeStop; dsimp only; split <;> exact h
  · exact h

theorem grantFits_storeProfile (p : Profile) {s : State} (h : s.GrantFits) : (storeProfile p s).1.GrantFits := by
  unfold storeProfile
  dsimp only
  split <;> exact h

theorem grantFits_enterDoze {s : State} (h : s.GrantFits) : (enterDoze s).1.GrantFits := h

theorem grantFits_startDoze {s : State} (h : s.GrantFits) : (startDoze s).1.GrantFits := by
  unfold startDoze
  split <;> exact h

theorem grantFits_dozeCheck {s : State} (h : s.GrantFits) : (dozeCheck s).1.GrantFits := by
  unfold dozeCheck
  split
  · exact grantFits_startDoze h
  · exact h

theorem grantFits_enterStandby (d : Bool) {s : State} (h : s.GrantFits) : (enterStandby d s).1.GrantFits := h

theorem grantFits_standbyDue {s : State} (h : s.GrantFits) : (standbyDue s).1.GrantFits := by
  unfold standbyDue
  split
  · exact h
  · exact grantFits_enterStandby _ h

theorem grantFits_standbyRecheck {s : State} (h : s.GrantFits) : (standbyRecheck s).1.GrantFits := by
  unfold standbyRecheck
  split_ifs
  · exact grantFits_standbyDue h
  all_goals exact h

theorem grantFits_deferredRecheck {s : State} (h : s.GrantFits) : (deferredRecheck s).1.GrantFits := by
  unfold deferredRecheck
  split
  · exact grantFits_enterStandby _ h
  · exact h

theorem grantFits_enterRunFromDoze {s : State} (h : s.GrantFits) : (enterRunFromDoze s).1.GrantFits := by
  refine grantFits_recompute true (s := (orientResume _).1) ?_
  exact grantFits_of_only (T := [.oru])
    (s := { s with psc := { s.psc with power := .run, standby := none, deferred := false } }) h
    (orientResume_only _ rfl) rfl

theorem grantFits_hostChanged (old new : HostState) {s : State} (h : s.GrantFits) :
    (hostChanged old new s).1.GrantFits := by
  unfold hostChanged
  split
  · split_ifs
    · exact h
    · exact grantFits_startDoze h
    · exact h
  · split
    · exact grantFits_standbyRecheck h
    · exact grantFits_enterRunFromDoze h
  · split <;> exact h
  · exact h

theorem grantFits_sbuRestart (rail temp : Int) {s : State} (h : s.GrantFits) : (sbuRestart rail temp s).1.GrantFits :=
  grantFits_takeTemperature temp (grantFits_takeRail rail (grantFits_recompute true h))

theorem grantFits_pccRestart (mv ma : Int) {s : State} (h : s.GrantFits) : (pccRestart mv ma s).1.GrantFits := by
  unfold pccRestart
  split
  · exact grantFits_takeMeasurement _ _ h
  · exact h

theorem grantFits_enterRunFromSettle (w : WakeSense) {s : State} (h : s.GrantFits) :
    (enterRunFromSettle w s).1.GrantFits := by
  have hblocks : State.GrantFits (dlcRestart (pclRestart (orientRestart (hauRestart (runBlocks s)).1).1).1) := by
    refine grantFits_of_only ?_ (dlcRestart_only _ (T := [.dlc, .fbf]) rfl) rfl
    refine grantFits_of_only ?_ (pclRestart_only _ (T := [.pcl]) rfl) rfl
    refine grantFits_of_only ?_ (orientRestart_only _ (T := [.oru]) rfl) rfl
    exact grantFits_of_only (s := runBlocks s) h (hauRestart_only _ (T := [.hau]) rfl) rfl
  unfold enterRunFromSettle
  dsimp only [andThen_fst, emitWith, quiet_fst]
  exact grantFits_pccRestart _ _ (grantFits_sbuRestart _ _ hblocks)

theorem grantFits_penAtReset {s : State} (h : s.GrantFits) : (penAtReset s).1.GrantFits := by
  unfold penAtReset
  split_ifs <;> exact h

theorem grantFits_endReset (rail temp : Int) {s : State} (h : s.GrantFits) : (endReset rail temp s).1.GrantFits := by
  have hread : (firstReadings rail temp (hauAtReset s)).1.GrantFits :=
    grantFits_takeRail rail
      (s := { hauAtReset s with sbu := { (hauAtReset s).sbu with temp := max (-40) (min 125 temp) } }) h
  unfold endReset
  dsimp only [andThen_fst]
  generalize (firstReadings rail temp (hauAtReset s)).1 = u at hread
  refine grantFits_penAtReset ?_
  exact grantFits_of_only (grantFits_of_only hread (postureChoose_only u (T := [.pcl]) rfl) rfl)
    (dockAtReset_only _ (T := [.dlc, .fbf]) rfl) rfl

/-! ### Commands, handovers and core effects -/

theorem paramsSound_of_only {T : List Block} {s t : State} (h : s.ParamsSound) (ho : Only T s t)
    (hT : T.any [Block.sbu, .par].contains = false) : t.ParamsSound := by
  have hsbu := ho.sbu (not_contains_of_disjoint hT rfl)
  have hpar := ho.par (not_contains_of_disjoint hT rfl)
  simpa only [State.ParamsSound, hsbu, hpar] using h

/-- An operation that keeps the parameters and the grant within the budget keeps the parameters sound. -/
theorem State.ParamsSound.next {s t : State} (h : s.ParamsSound) (hpar : t.par = s.par)
    (hgrant : s.GrantFits → t.GrantFits) : t.ParamsSound := by
  obtain ⟨hr, hg⟩ := s.paramsSound_iff.mp h
  exact t.paramsSound_iff.mpr ⟨hpar ▸ hr, hgrant hg⟩

theorem setParam_par (n : Nat) (v : Int) (s : State) : (setParam n v s).1.par = s.par.set n (clampParam s n v) :=
  (paramEffect_only _ _ _ (T := [.sib, .hau, .sbu, .pcc]) rfl).par rfl

theorem paramEffect_grant (n : Nat) (c : Bool) (s : State) : (paramEffect n c s).1.sbu.grant = s.sbu.grant := by
  have hjudge : ∀ i, (if c then rejudgeRaw i s else quiet s).1.sbu.grant = s.sbu.grant := by
    intro i
    split
    · rw [(rejudgeRaw_only i s (T := [.sib]) rfl).sbu rfl]
    · rfl
  have hmode : ∀ i, (if c then modeChanged i s else quiet s).1.sbu.grant = s.sbu.grant := by
    intro i
    split
    · rw [(modeChanged_only i s (T := []) rfl).sbu rfl]
    · rfl
  unfold paramEffect
  split
  case h_1 => exact hjudge _
  case h_2 => exact hjudge _
  case h_3 => exact hjudge _
  case h_4 => exact hjudge _
  case h_5 => exact hmode _
  case h_6 => exact hmode _
  case h_7 => exact hmode _
  case h_8 => exact hmode _
  all_goals rfl

theorem paramsSound_setParam {n : Nat} (hn : 1 ≤ n ∧ n ≤ 46) (v : Int) {s : State} (h : s.ParamsSound) :
    (setParam n v s).1.ParamsSound := by
  obtain ⟨hr, hg⟩ := s.paramsSound_iff.mp h
  refine (State.paramsSound_iff _).mpr ⟨?_, ?_⟩
  · rw [setParam_par]
    exact paramsInRange_set hr hg hn v
  · have hgrant : (setParam n v s).1.sbu.grant = s.sbu.grant := paramEffect_grant _ _ _
    unfold State.GrantFits at hg ⊢
    rw [hgrant, setParam_par]
    by_cases h32 : n = 32
    · subst h32
      exact Nat.le_max_right _ _
    · rw [Params.set_bTotal _ h32]
      exact hg

theorem paramsSound_runCommand (platform : Bool) (seq : Nat) (time : Stamp) (p : List Byte) {s : State}
    (h : s.ParamsSound) : (runCommand platform seq time p s).act.1.ParamsSound := by
  by_cases hc : (commandBlocks (codeOf p)).any [Block.sbu, .par].contains = false
  · exact paramsSound_of_only h (runCommand_blocks platform seq time p s) hc
  unfold runCommand
  dsimp only
  split
  case h_2 =>
    unfold tableWriteResult writeTable
    dsimp only [plainResult]
    split
    case h_5 =>
      unfold writeProfile
      dsimp only
      split_ifs
      · exact h
      · exact h.next ((storeProfile_only _ s (T := [.sbu, .pcc]) rfl).par rfl) (grantFits_storeProfile _)
      · exact h
    · exact paramsSound_of_only h (writePosture_only _ _ s (T := [.pcl]) rfl) rfl
    · exact paramsSound_of_only h (writeGateDir_only _ _ s (T := [.igt]) rfl) rfl
    · exact paramsSound_of_only h (writeGateEntry_only _ _ s (T := [.igt]) rfl) rfl
    · exact paramsSound_of_only h (writeSleepRule_only _ _ s (T := [.spu]) rfl) rfl
    · exact h
  case h_5 =>
    unfold configSetResult
    split
    · rename_i hn; exact paramsSound_setParam hn _ h
    · exact h
  case h_15 =>
    exact h.next ((chargeControlResult_only _ s (T := [.sbu, .pcc]) rfl).par rfl) (grantFits_chargeControl _)
  case h_24 => unfold partResetResult; split <;> exact h
  all_goals
    rename_i hn
    exact absurd (by unfold codeOf; rw [hn]; rfl) hc

theorem paramsSound_handle (g : Signal) {s : State} (h : s.ParamsSound) : (handle g s).1.ParamsSound := by
  by_cases hb : g.blocks.any [Block.sbu, .par].contains = false
  · exact paramsSound_of_only h (handle_blocks g s) hb
  by_cases hp : g.blocks.contains .par = false
  · refine h.next ((handle_blocks g s).par hp) fun hg => ?_
    cases g
    case dockLevel l => exact grantFits_applyRequest (s := { s with sbu := { s.sbu with requested := l } }) hg
    case pccGarage a =>
      cases a with
      | true => exact grantFits_penInserted hg
      | false => exact grantFits_penRemoved hg
    case pccLimit =>
      dsimp only [handle]
      unfold limitAfterWrite
      split <;> exact hg
    case pscRecheck => exact grantFits_standbyRecheck hg
    case pscHost old new => exact grantFits_hostChanged old new hg
    case pscDeferred => exact grantFits_deferredRecheck hg
    case pscDozeCheck => exact grantFits_dozeCheck hg
    case serve => exact Bool.noConfusion hp
    all_goals exact (hb rfl).elim
  · cases g
    case serve =>
      exact serveQueue_keeps (fun s => s.ParamsSound) (fun _ _ _ _ _ _ _ h => h) (fun _ h => h)
        (fun pl sq tm p _ h => paramsSound_runCommand pl sq tm p h) s h
    all_goals exact (hp rfl).elim

/-- The parameters of a power-on, brownout, pin or full reset are sound. -/
theorem paramsInRange_default : Params.default.InRange := by
  refine ⟨fun n h1 h2 => ?_, by decide, by decide⟩
  interval_cases n <;> decide

theorem paramsSound_core (c : Instr) {s : State} (h : s.ParamsSound) : (c.core s).1.ParamsSound := by
  by_cases hb : c.blocks.any [Block.sbu, .par].contains = false
  · exact paramsSound_of_only h (core_blocks c s) hb
  obtain ⟨hr, hg⟩ := s.paramsSound_iff.mp h
  have hnew : ∀ rail temp (s' : State), s'.par.InRange → s'.sbu = Sbu.atReset → (endReset rail temp s').1.ParamsSound := by
    intro rail temp s' hr' hs
    have hg' : s'.GrantFits := by
      unfold State.GrantFits; rw [hs]; exact Nat.zero_le _
    refine (State.paramsSound_iff _).mpr ⟨?_, grantFits_endReset rail temp hg'⟩
    rw [(endReset_only rail temp s' (T := [.hau, .pcl, .dlc, .fbf, .sbu, .pcc]) rfl).par rfl]
    exact hr'
  by_cases hp : c.blocks.contains .par = false
  · refine h.next ((core_blocks c s).par hp) fun hg => ?_
    cases c
    case pendingGrantApply =>
      dsimp only [Instr.core]
      unfold pendingGrantApply
      split
      · exact grantFits_applyRequest hg
      · exact hg
    case railReading mv => exact grantFits_takeRail mv hg
    case shedTimerExpiry => exact Nat.zero_le _
    case temperatureReading t => exact grantFits_takeTemperature t hg
    case measurementEvent mv ma => exact grantFits_takeMeasurement mv ma hg
    case phaseLimitExpiry => exact hg
    case dozeTimerExpiry =>
      dsimp only [Instr.core]
      split
      · exact grantFits_enterDoze hg
      · exact hg
    case standbyTimerExpiry =>
      dsimp only [Instr.core]
      split
      · exact grantFits_standbyDue hg
      · exact hg
    case deferredStandbyEntry => exact grantFits_deferredRecheck hg
    case settleTimerExpiry w =>
      dsimp only [Instr.core]
      split
      · exact grantFits_enterRunFromSettle w hg
      · exact hg
    case powerOnReset r => exact Bool.noConfusion hp
    case brownoutReset r => exact Bool.noConfusion hp
    case pinReset r => exact Bool.noConfusion hp
    case fullReset rail temp => exact Bool.noConfusion hp
    case softReset rail temp => exact Bool.noConfusion hp
    all_goals exact (hb rfl).elim
  · cases c
    case powerOnReset r => exact hnew _ _ _ paramsInRange_default rfl
    case brownoutReset r => exact hnew _ _ _ paramsInRange_default rfl
    case pinReset r => exact hnew _ _ _ paramsInRange_default rfl
    case fullReset rail temp =>
      dsimp only [Instr.core, fullReset]
      split
      · exact hnew _ _ _ paramsInRange_default rfl
      · exact h
    case softReset rail temp =>
      dsimp only [Instr.core, softReset]
      split
      · exact hnew _ _ _ hr rfl
      · exact h
    all_goals exact (hp rfl).elim

/-- Settles O12: the passing of time, each core effect and each handover keep the parameters in their ranges and the
grant within the budget. -/
theorem parametersStayInRange : Obligations.ParametersStayInRange := fun _ _ hs h =>
  step_keeps (fun s => s.ParamsSound) (fun _ _ h => h) (fun _ _ h => h) (fun c _ h => paramsSound_core c h)
    (fun g _ h => paramsSound_handle g h) hs h

end Sys2Proof.Machine
end

section
/-! SUPPORT. The configuration: no handover changes it while no command of the host waits, and no event does. A gate
entry's hit count and note are the one part of the tables that moves; `E` is what is asked of the entries. -/

namespace Sys2Proof.Machine

open Sys2Proof

theorem State.SameConfig.refl (s : State) : s.SameConfig s :=
  ⟨rfl, rfl, rfl, rfl, rfl, rfl, rfl, rfl, rfl, rfl, rfl, rfl, rfl, rfl⟩

/-- A state with the configuration of another and entries that have a property. -/
def State.Keeps (E : List GateEntry → Prop) (s₀ s : State) : Prop := s₀.SameConfig s ∧ E s.igt.entries

/-- A hit on an entry keeps the property. -/
def HitsKeep (E : List GateEntry → Prop) : Prop :=
  ∀ l i, E l → E (l.set i { l.getD i defaultEntry with hits := min ((l.getD i defaultEntry).hits + 1) 255, note := false })

section
variable {E : List GateEntry → Prop} {s₀ s : State}

/-- Operations on other blocks keep the configuration. -/
theorem State.Keeps.of_only {T : List Block} {t : State} (h : s₀.Keeps E s) (ho : Only T s t)
    (hT : T.any [Block.oru, .pcl, .igt, .fbf, .pcc, .spu, .ulp, .par].contains = false) : s₀.Keeps E t := by
  have horu := ho.oru (not_contains_of_disjoint hT rfl)
  have hpcl := ho.pcl (not_contains_of_disjoint hT rfl)
  have higt := ho.igt (not_contains_of_disjoint hT rfl)
  have hfbf := ho.fbf (not_contains_of_disjoint hT rfl)
  have hpcc := ho.pcc (not_contains_of_disjoint hT rfl)
  have hspu := ho.spu (not_contains_of_disjoint hT rfl)
  have hulp := ho.ulp (not_contains_of_disjoint hT rfl)
  have hpar := ho.par (not_contains_of_disjoint hT rfl)
  simpa only [State.Keeps, State.SameConfig, horu, hpcl, higt, hfbf, hpcc, hspu, hulp, hpar] using h

/-- Operations of the DLC take frames from the Passdown area at most. -/
theorem State.Keeps.of_taken {t : State} (h : s₀.Keeps E s) (ho : Only [.dlc, .fbf] s t)
    (ht : s.fbf.PassdownTaken t.fbf) : s₀.Keeps E t := by
  have hmap : t.fbf.map = s.fbf.map := by
    obtain ⟨l, -, hl⟩ := ht
    rw [hl]
  have horu := ho.oru rfl
  have hpcl := ho.pcl rfl
  have higt := ho.igt rfl
  have hpcc := ho.pcc rfl
  have hspu := ho.spu rfl
  have hulp := ho.ulp rfl
  have hpar := ho.par rfl
  simpa only [State.Keeps, State.SameConfig, horu, hpcl, higt, hmap, hpcc, hspu, hulp, hpar] using h

/-! ### The Uplink and the mirror -/

theorem keeps_offerOverflow (h : s₀.Keeps E s) : s₀.Keeps E (offerOverflow s).1 := by
  unfold offerOverflow
  dsimp only
  split <;> exact h

theorem keeps_composeReport (k : ReportKind) (f : List Byte) (h : s₀.Keeps E s) :
    s₀.Keeps E (composeReport k f s).1 := by
  unfold composeReport
  split
  · have ho := keeps_offerOverflow h
    rw [andThen_fst]
    generalize (offerOverflow s).1 = u at ho
    unfold offerReport
    dsimp only
    split <;> exact ho
  · exact h

theorem keeps_arbiterChoice (h : s₀.Keeps E s) : s₀.Keeps E (arbiterChoice s).1 := by
  unfold arbiterChoice chooseHeld chooseArea
  dsimp only
  repeat' split
  all_goals exact h

theorem keeps_receiveFrame (ct : Byte) (p : List Byte) (h : s₀.Keeps E s) : s₀.Keeps E (receiveFrame ct p s).1 := by
  unfold receiveFrame
  dsimp only
  repeat' split
  all_goals exact h

theorem keeps_placeReply (r : Reply) (h : s₀.Keeps E s) : s₀.Keeps E (placeReply r s).1 := by
  unfold placeReply
  split <;> exact h

theorem keeps_mirrorSample (h : s₀.Keeps E s) : s₀.Keeps E (mirrorSample s).1 := by
  unfold mirrorSample Fbf.putMirror
  dsimp only
  repeat' split
  all_goals exact h

/-- The service of an empty queue moves an overrun reply into the slot at most. -/
theorem keeps_serveQueue (h : s₀.Keeps E s) (hq : s.ulp.queue = []) : s₀.Keeps E (serveQueue s).1 := by
  rcases serveQueue_cases s with he | ⟨r, rs, -, he⟩ | ⟨f, q, hfq, -⟩
  · rw [he]; exact h
  · rw [he]; exact h
  · rw [hq] at hfq; exact nomatch hfq

/-! ### The sensing blocks -/

theorem Oru.evaluated_lock (p : Params) (run : Bool) (v : Vec) (o : Oru) : (o.evaluated p run v).1.lock = o.lock := by
  unfold Oru.evaluated
  dsimp only
  repeat' split
  all_goals rfl

theorem keeps_orientEvaluate (h : s₀.Keeps E s) : s₀.Keeps E (orientEvaluate s).1 := by
  unfold orientEvaluate
  split
  · exact h
  · dsimp only
    obtain ⟨⟨h1, h2, h3, h4, h5, h6, hlock, h8⟩, hE⟩ := h
    exact ⟨⟨h1, h2, h3, h4, h5, h6, (Oru.evaluated_lock _ _ _ _).trans hlock, h8⟩, hE⟩

theorem keeps_orientCommit (u : Bool) (h : s₀.Keeps E s) : s₀.Keeps E (orientCommit u s).1 := by
  unfold orientCommit
  split <;> exact h

theorem keeps_orientResume (h : s₀.Keeps E s) : s₀.Keeps E (orientResume s).1 := by
  unfold orientResume
  repeat' split
  all_goals exact h

theorem Pcl.settled_table (d : Nat) (c : Nat × Option Nat) (p : Pcl) : (p.settled d c).1.table = p.table := by
  unfold Pcl.settled
  dsimp only
  repeat' split
  all_goals rfl

theorem keeps_postureChoose (h : s₀.Keeps E s) : s₀.Keeps E (postureChoose s).1 := by
  obtain ⟨⟨h1, htable, h3⟩, hE⟩ := h
  exact ⟨⟨h1, (Pcl.settled_table _ _ _).trans htable, h3⟩, hE⟩

theorem keeps_postureEvaluate (h : s₀.Keeps E s) : s₀.Keeps E (postureEvaluate s).1 := by
  unfold postureEvaluate
  split
  · exact keeps_postureChoose h
  · exact h

theorem keeps_postureCommit (h : s₀.Keeps E s) : s₀.Keeps E (postureCommit s).1 := by
  unfold postureCommit
  split <;> exact h

theorem keeps_startPostureDwell (h : s₀.Keeps E s) : s₀.Keeps E (startPostureDwell s).1 := by
  unfold startPostureDwell
  split <;> exact h

theorem keeps_endRestartHold (h : s₀.Keeps E s) : s₀.Keeps E (endRestartHold s).1 := by
  unfold endRestartHold
  dsimp only
  split
  · exact keeps_startPostureDwell (s := { s with pcl := { s.pcl with restart := none } }) h
  · exact h

theorem keeps_pclDockNotice (h : s₀.Keeps E s) : s₀.Keeps E (pclDockNotice s).1 := by
  unfold pclDockNotice
  split <;> exact h

theorem keeps_pclRestart (h : s₀.Keeps E s) : s₀.Keeps E (pclRestart s).1 := by
  unfold pclRestart
  extract_lets p u a
  have hu : s₀.Keeps E u := by
    dsimp only [u]
    split <;> exact h
  have ha : s₀.Keeps E a.1 := keeps_postureChoose hu
  split
  · exact keeps_startPostureDwell ha
  · exact ha

/-! ### The Input Gate -/

theorem keeps_queuePending (l : List Pending) (s : State) (h : s₀.Keeps E s) : s₀.Keeps E (queuePending l s) := by
  induction l generalizing s with
  | nil => exact h
  | cons p ps ih =>
    unfold queuePending
    dsimp only
    split
    · split
      · exact ih _ h
      · exact ih _ h
    · exact h

theorem keeps_enterInput (b : HoldBody) (h : s₀.Keeps E s) : s₀.Keeps E (enterInput b s) := by
  cases b <;> exact h

theorem keeps_noteSpill (r : SpillReason) (l : List (HoldBody × Nat)) (h : s₀.Keeps E s) :
    s₀.Keeps E (noteSpill r l s).1 := by
  unfold noteSpill
  repeat' split
  all_goals exact h

theorem keeps_appendHold (b : HoldBody) (d : Bool) (h : s₀.Keeps E s) : s₀.Keeps E (appendHold b d s).1 :=
  keeps_noteSpill _ _ (s := s.setHold _) h

theorem keeps_judge (hE : HitsKeep E) (b : HoldBody) (h : s₀.Keeps E s) : s₀.Keeps E (judge b s).2.1 := by
  unfold judge
  dsimp only
  split
  · split
    · exact ⟨h.1, hE _ _ h.2⟩
    · exact h
  · split <;> exact h

theorem keeps_toInput (b : HoldBody) (h : s₀.Keeps E s) : s₀.Keeps E (toInput b s).1 := by
  unfold toInput
  split
  · split
    · exact keeps_enterInput b h
    all_goals exact h
  · exact keeps_appendHold b true h

theorem keeps_routeJudged (a : GateAction) (b : HoldBody) (h : s₀.Keeps E s) : s₀.Keeps E (routeJudged a b s).1 := by
  cases a with
  | pass => exact keeps_toInput b h
  | wake => exact keeps_toInput b h
  | drop => exact h
  | hold =>
    unfold routeJudged
    dsimp only
    split
    · exact h
    · exact keeps_appendHold b false h

theorem keeps_judgeArrival (hE : HitsKeep E) (b : HoldBody) (h : s₀.Keeps E s) :
    s₀.Keeps E (judgeArrival b s).1 := by
  have hj := keeps_judge hE b h
  unfold judgeArrival
  dsimp only
  split
  · exact hj
  all_goals exact keeps_routeJudged _ b hj

theorem keeps_releaseArrival (c : Nat) (h : s₀.Keeps E s) : s₀.Keeps E (releaseArrival c s).1 := by
  unfold releaseArrival
  split
  · exact keeps_appendHold _ _ h
  · split
    · split
      · exact h
      · split
        · exact keeps_appendHold _ _ h
        · split <;> exact h
    · exact h

theorem keeps_pressArrival (hE : HitsKeep E) (c : Nat) (h : s₀.Keeps E s) : s₀.Keeps E (pressArrival c s).1 := by
  unfold pressArrival
  split
  · exact h
  · split
    · exact h
    · exact keeps_judgeArrival hE _ h

theorem keeps_gateArrival (hE : HitsKeep E) (ans : Answer) (h : s₀.Keeps E s) : s₀.Keeps E (gateArrival ans s).1 := by
  cases ans with
  | key code up =>
    cases up with
    | false => exact keeps_pressArrival hE code h
    | true => exact keeps_releaseArrival code h
  | point bs => exact keeps_judgeArrival hE _ h
  | ident i => exact h
  | tilt x y z => exact h
  | stat f m => exact h
  | nil => exact h

theorem keeps_routeAnswer (hE : HitsKeep E) (ans : Answer) (h : s₀.Keeps E s) :
    s₀.Keeps E (routeAnswer gateArrival ans s).1 := by
  cases ans with
  | key code up => unfold routeAnswer; dsimp only; split <;> [exact keeps_gateArrival hE _ h; exact h]
  | point bs => unfold routeAnswer; dsimp only; split <;> [exact keeps_gateArrival hE _ h; exact h]
  | tilt x y z => exact h.of_only (acceptTilt_only x y z s (T := [.hau]) rfl) rfl
  | ident i => exact h
  | stat f m => exact h
  | nil => exact h

theorem keeps_closeSlot (hE : HitsKeep E) (ans : Option Answer) (o : Outcome) (h : s₀.Keeps E s) :
    s₀.Keeps E (closeSlot gateArrival ans o s).1 :=
  closeSlot_keeps (fun s => s₀.Keeps E s) (fun _ _ ho h => h.of_only ho rfl) (fun _ _ h => h)
    (fun ans _ h => keeps_routeAnswer hE ans h) ans o s h

theorem keeps_admitHead (f : HoldFrame) (rest : List HoldFrame) (h : s₀.Keeps E s) :
    s₀.Keeps E (admitHead f rest s).1 := by
  unfold admitHead
  split
  · exact keeps_enterInput f.body h
  all_goals exact h

theorem keeps_judgeHead (hE : HitsKeep E) (f : HoldFrame) (rest : List HoldFrame) (h : s₀.Keeps E s) :
    s₀.Keeps E (judgeHead f rest s).1 := by
  have hj := keeps_judge hE f.body h
  unfold judgeHead
  dsimp only
  split
  case h_3 => exact keeps_admitHead f rest hj
  all_goals exact hj

theorem keeps_headStep (hE : HitsKeep E) (h : s₀.Keeps E s) : s₀.Keeps E (headStep s).1 := by
  unfold headStep
  split
  · exact h
  · split
    · exact h
    · split
      · exact h
      · split
        · split
          · split <;> exact h
          · exact keeps_admitHead _ _ h
          · exact keeps_admitHead _ _ h
        · split
          · exact h
          · exact keeps_judgeHead hE _ _ h

theorem keeps_headAdmit (h : s₀.Keeps E s) : s₀.Keeps E (headAdmit s).1 := by
  unfold headAdmit
  split
  · exact keeps_admitHead _ _ h
  all_goals exact h

theorem keeps_gateRoute (b : HoldBody) (h : s₀.Keeps E s) : s₀.Keeps E (gateRoute b s).1 := by
  unfold gateRoute
  split
  · exact keeps_routeJudged _ b h
  · exact h

theorem keeps_expireHead (f : HoldFrame) (rest : List HoldFrame) (h : s₀.Keeps E s) :
    s₀.Keeps E (expireHead f rest s).1 := keeps_noteSpill _ _ (s := s.setHold _) h

theorem keeps_holdCheck (b : Bool) (h : s₀.Keeps E s) : s₀.Keeps E (holdCheck b s).1 := by
  unfold holdCheck
  split
  · exact h
  · split
    · split <;> exact h
    · split
      · exact keeps_expireHead _ _ h
      · exact h

theorem keeps_spaceEvent (h : s₀.Keeps E s) : s₀.Keeps E (spaceEvent s).1 := by
  have hq := keeps_queuePending s.igt.pend s h
  unfold spaceEvent
  dsimp only
  repeat' split
  all_goals exact hq

theorem keeps_synthesize (h : s₀.Keeps E s) : s₀.Keeps E (synthesize s) :=
  keeps_queuePending _ _ (by exact h)

theorem keeps_gateCommit (c : Nat) (h : s₀.Keeps E s) : s₀.Keeps E (gateCommit c s).1 := by
  have hs := keeps_synthesize (s := { s with igt := { s.igt with missing := false } }) h
  unfold gateCommit
  dsimp only
  split
  · split
    · exact hs
    · exact h
  · split
    · exact hs
    · exact h

theorem keeps_gateDeparture (h : s₀.Keeps E s) : s₀.Keeps E (gateDeparture s).1 :=
  keeps_queuePending _ _ (by exact h)

/-! ### Supply and charging -/

theorem keeps_recompute (told : Bool) (h : s₀.Keeps E s) : s₀.Keeps E (recompute told s).1 := h

theorem keeps_applyRequest (h : s₀.Keeps E s) : s₀.Keeps E (applyRequest s).1 := by
  unfold applyRequest
  dsimp only
  split_ifs <;> exact h

theorem keeps_moveRail (v : Nat) (h : s₀.Keeps E s) : s₀.Keeps E (moveRail v s).1 := by
  unfold moveRail
  dsimp only
  split
  · refine keeps_recompute true ?_
    split
    · exact keeps_applyRequest
        (s := { s with sbu := { s.sbu with rail := v, railState := s.sbu.railState.next s.par v, shed := _ } }) h
    · exact h
  · exact h

theorem keeps_takeRail (mv : Int) (h : s₀.Keeps E s) : s₀.Keeps E (takeRail mv s).1 :=
  keeps_moveRail _ (s := { s with sbu := { s.sbu with railTimer := railInterval s } }) h

theorem keeps_takeTemperature (t : Int) (h : s₀.Keeps E s) : s₀.Keeps E (takeTemperature t s).1 := by
  unfold takeTemperature
  dsimp only [andThen_fst]
  split <;> exact h

theorem keeps_enterPhase (new : Phase) (c : Option ChargeCause) (n : Nat) (h : s₀.Keeps E s) :
    s₀.Keeps E (enterPhase new c n s).1 := by
  obtain ⟨⟨h1, h2, h3, h4, hprofile, h6⟩, hE⟩ := h
  exact ⟨⟨h1, h2, h3, h4, (Pcc.entered_phase new c s.awake s.pcc).2.trans hprofile, h6⟩, hE⟩

theorem keeps_takeMeasurement (mv ma : Int) (h : s₀.Keeps E s) : s₀.Keeps E (takeMeasurement mv ma s).1 := by
  unfold takeMeasurement enterFault
  dsimp only
  split
  · exact keeps_enterPhase _ _ _ (s := { s with pcc := { s.pcc with vCell := _, iMeas := _, measTimer := _ } }) h
  · split
    · exact keeps_enterPhase _ _ _ (s := { s with pcc := { s.pcc with vCell := _, iMeas := _, measTimer := _, term := _ } }) h
    · exact h

theorem keeps_penInserted (h : s₀.Keeps E s) : s₀.Keeps E (penInserted s).1 := by
  unfold penInserted
  split
  · dsimp only [andThen_fst]
    split
    · exact h
    · exact keeps_enterPhase _ _ _ h
  · exact h

theorem keeps_penRemoved (h : s₀.Keeps E s) : s₀.Keeps E (penRemoved s).1 := by
  unfold penRemoved
  split <;> exact h

theorem keeps_limitAfterWrite (h : s₀.Keeps E s) : s₀.Keeps E (limitAfterWrite s).1 := by
  unfold limitAfterWrite
  split
  · exact keeps_enterPhase _ _ _ h
  · exact h

theorem keeps_chargeControl (v : Nat) (h : s₀.Keeps E s) : s₀.Keeps E (chargeControlResult v s).act.1 := by
  unfold chargeControlResult plainResult chargeStart chargeStop
  dsimp only
  split
  · split
    · exact h
    · exact keeps_enterPhase _ _ _ h
    · exact keeps_enterPhase _ _ _ h
    all_goals exact h
  · split <;> exact h
  · exact h

/-- The effect of a stored parameter is on the switch inputs, the mirror counter and the setpoint. -/
theorem setParam_profile (n : Nat) (v : Int) (s : State) : (setParam n v s).1.pcc.profile = s.pcc.profile := by
  unfold setParam
  dsimp only
  generalize hu : ({ s with par := s.par.set n (clampParam s n v) } : State) = u
  have hpcc : u.pcc.profile = s.pcc.profile := by rw [← hu]
  rw [← hpcc]
  unfold paramEffect
  split
  case h_9 => rfl
  case h_10 => rfl
  case h_11 => rfl
  case h_12 => rfl
  case h_13 => rfl
  case h_14 => rfl
  case h_15 => rfl
  all_goals
    split
    · simp (disch := decide) only [(rejudgeRaw_only _ u (T := [.sib]) rfl).pcc rfl, (modeChanged_only _ u (T := []) rfl).pcc rfl]
    · rfl

/-! ### Sleep policy -/

theorem keeps_beginEpisode (g : Option Nat) (h : s₀.Keeps E s) : s₀.Keeps E (beginEpisode g s).1 := by
  unfold beginEpisode
  dsimp only
  split
  · exact h
  · split <;> exact h

theorem keeps_withdraw (c : WithdrawCause) (g : Option Nat) (h : s₀.Keeps E s) : s₀.Keeps E (withdraw c g s).1 := h

theorem keeps_spuEvaluate (t : SpuTrigger) (h : s₀.Keeps E s) : s₀.Keeps E (spuEvaluate t s).1 := by
  unfold spuEvaluate
  dsimp only
  split
  · refine keeps_beginEpisode _ ?_
    split
    · exact keeps_withdraw _ _ h
    · exact h
  · split
    · refine keeps_beginEpisode _ ?_
      split
      · exact keeps_withdraw _ _ h
      · exact h
    · exact h

theorem keeps_wakeRequest (src : WakeSource) (h : s₀.Keeps E s) : s₀.Keeps E (wakeRequest src s).1 := by
  unfold wakeRequest
  repeat' split
  all_goals exact h

theorem keeps_spuAction (h : s₀.Keeps E s) : s₀.Keeps E (spuAction s).1 := by
  unfold spuAction adviseSleep
  split
  · exact h
  · split
    · exact h
    · dsimp only
      split
      · split <;> exact h
      · exact keeps_wakeRequest _ (s := { s with spu := { s.spu with fired := true, dwell := none } }) h
      · exact h

theorem keeps_wakeFailed (h : s₀.Keeps E s) : s₀.Keeps E (wakeFailed s).1 := by
  unfold wakeFailed Spu.startCompliance Spu.leaveWaking
  split
  · dsimp only
    generalize s.spu.before.getD .off = b
    cases b <;> exact h
  · exact h

theorem keeps_complianceDue (h : s₀.Keeps E s) : s₀.Keeps E (complianceDue s).1 := by
  unfold complianceDue
  repeat' split
  all_goals exact h

theorem keeps_cutAssert (h : s₀.Keeps E s) : s₀.Keeps E (cutAssert s).1 := by
  unfold cutAssert
  split <;> exact h

theorem keeps_servePendingWake (h : s₀.Keeps E s) : s₀.Keeps E (servePendingWake s).1 := by
  unfold servePendingWake
  split
  · split
    · exact keeps_wakeRequest _ (s := { s with spu := { s.spu with pendingWake := none } }) h
    · exact h
  · exact h

theorem keeps_endCut (h : s₀.Keeps E s) : s₀.Keeps E (endCut s).1 :=
  keeps_servePendingWake (s := { s with spu := { s.spu with cutStage := .none, pwrCut := false, cutTimer := none } }) h

theorem keeps_hostStateCommand (v : Nat) (h : s₀.Keeps E s) : s₀.Keeps E (hostStateCommand v s).2.1 := by
  unfold hostStateCommand moveHost Spu.moved Spu.startCompliance Spu.leaveWaking
  dsimp only
  repeat' split
  all_goals exact h

/-! ### Power states -/

theorem keeps_enterStandby (d : Bool) (h : s₀.Keeps E s) : s₀.Keeps E (enterStandby d s).1 :=
  keeps_recompute true (s := standbyBlocks s) (by
    unfold standbyBlocks Oru.stop Pcl.stop Pcc.stop
    exact h)

theorem keeps_standbyDue (h : s₀.Keeps E s) : s₀.Keeps E (standbyDue s).1 := by
  unfold standbyDue
  split
  · exact h
  · exact keeps_enterStandby _ h

theorem keeps_standbyRecheck (h : s₀.Keeps E s) : s₀.Keeps E (standbyRecheck s).1 := by
  unfold standbyRecheck
  split_ifs
  · exact keeps_standbyDue h
  all_goals exact h

theorem keeps_deferredRecheck (h : s₀.Keeps E s) : s₀.Keeps E (deferredRecheck s).1 := by
  unfold deferredRecheck
  split
  · exact keeps_enterStandby _ h
  · exact h

theorem keeps_enterDoze (h : s₀.Keeps E s) : s₀.Keeps E (enterDoze s).1 :=
  keeps_recompute true (s := { s with psc := { s.psc with power := .doze, doze := none }, oru := s.oru.stop }) h

theorem keeps_startDoze (h : s₀.Keeps E s) : s₀.Keeps E (startDoze s).1 := by
  unfold startDoze
  split
  · exact keeps_enterDoze h
  · exact h

theorem keeps_dozeCheck (h : s₀.Keeps E s) : s₀.Keeps E (dozeCheck s).1 := by
  unfold dozeCheck
  split
  · exact keeps_startDoze h
  · exact h

theorem keeps_enterRunFromDoze (h : s₀.Keeps E s) : s₀.Keeps E (enterRunFromDoze s).1 :=
  keeps_recompute true
    (keeps_orientResume (s := { s with psc := { s.psc with power := .run, standby := none, deferred := false } }) h)

theorem keeps_hostChanged (old new : HostState) (h : s₀.Keeps E s) : s₀.Keeps E (hostChanged old new s).1 := by
  unfold hostChanged
  split
  · split_ifs
    · exact h
    · exact keeps_startDoze h
    · exact h
  · split
    · exact keeps_standbyRecheck h
    · exact keeps_enterRunFromDoze h
  · split <;> exact h
  · exact h

theorem keeps_orientRestart (h : s₀.Keeps E s) : s₀.Keeps E (orientRestart s).1 := h

theorem keeps_sbuRestart (rail temp : Int) (h : s₀.Keeps E s) : s₀.Keeps E (sbuRestart rail temp s).1 :=
  keeps_takeTemperature temp (keeps_takeRail rail (keeps_recompute true h))

theorem keeps_pccRestart (mv ma : Int) (h : s₀.Keeps E s) : s₀.Keeps E (pccRestart mv ma s).1 := by
  unfold pccRestart
  split
  · exact keeps_takeMeasurement _ _ h
  · exact h

theorem keeps_enterRunFromSettle (w : WakeSense) (h : s₀.Keeps E s) : s₀.Keeps E (enterRunFromSettle w s).1 := by
  have hrun : s₀.Keeps E (runBlocks s) := h
  have hhau : s₀.Keeps E (hauRestart (runBlocks s)).1 := hrun.of_only (hauRestart_only _ (T := [.hau]) rfl) rfl
  have horu : s₀.Keeps E (orientRestart (hauRestart (runBlocks s)).1).1 := keeps_orientRestart hhau
  have hdlc := (keeps_pclRestart horu).of_taken (dlcRestart_only _ (T := [.dlc, .fbf]) rfl) (dlcRestart_taken _)
  unfold enterRunFromSettle
  dsimp only [andThen_fst, emitWith, quiet_fst]
  exact keeps_pccRestart _ _ (keeps_sbuRestart _ _ hdlc)

/-! ### Handovers and events -/

/-- No handover changes the configuration, while no command of the host waits. -/
theorem keeps_handle (hE : HitsKeep E) (g : Signal) (hq : g = .serve → s.ulp.queue = []) (h : s₀.Keeps E s) :
    s₀.Keeps E (handle g s).1 := by
  by_cases hb : g.blocks.any [Block.oru, .pcl, .igt, .fbf, .pcc, .spu, .ulp, .par].contains = false
  · exact h.of_only (handle_blocks g s) hb
  cases g
  case report k f => exact keeps_composeReport k f h
  case reportRemoved => exact keeps_offerOverflow h
  case arbiter => exact keeps_arbiterChoice h
  case spaceEvent => exact keeps_spaceEvent h
  case igtCommit c => exact keeps_gateCommit c h
  case igtDeparture => exact keeps_gateDeparture h
  case headStep => exact keeps_headStep hE h
  case gateRoute b => exact keeps_gateRoute b h
  case headAdmit => exact keeps_headAdmit h
  case holdCheck b => exact keeps_holdCheck b h
  case received ct p => exact keeps_receiveFrame ct p h
  case serve => exact keeps_serveQueue h (hq rfl)
  case reply r => exact keeps_placeReply r h
  case holdBegin => exact h
  case mirror => exact keeps_mirrorSample h
  case oruEval => exact keeps_orientEvaluate h
  case oruCommit u => exact keeps_orientCommit u h
  case pclEval => exact keeps_postureEvaluate h
  case pclCommit => exact keeps_postureCommit h
  case pclDock => exact keeps_pclDockNotice h
  case spuEval t => exact keeps_spuEvaluate t h
  case wakeRequest src => exact keeps_wakeRequest src h
  case spuAction => exact keeps_spuAction h
  case cutAssert => exact keeps_cutAssert h
  case dockLevel l => exact keeps_applyRequest (s := { s with sbu := { s.sbu with requested := l } }) h
  case pccGarage a =>
    cases a with
    | true => exact keeps_penInserted h
    | false => exact keeps_penRemoved h
  case pccLimit => exact keeps_limitAfterWrite h
  case pscRecheck => exact keeps_standbyRecheck h
  case pscHost old new => exact keeps_hostChanged old new h
  case pscDeferred => exact keeps_deferredRecheck h
  case dlcPresence b =>
    exact h.of_taken (dlcPresence_only b s (T := [.dlc, .fbf]) rfl) (dlcPresence_taken b s)
  case dlcRevoked => exact h.of_taken (dockRevoked_only s (T := [.dlc, .fbf]) rfl) (dockRevoked_taken s)
  case dlcRelease o => exact h.of_taken (dockRelease_only o s (T := [.dlc, .fbf]) rfl) (dockRelease_taken o s)
  case dlcBegin st => exact h.of_taken (beginStep_only st s (T := [.dlc, .fbf]) rfl) (beginStep_taken st s)
  case openDue => exact h.of_taken (openDue_only s (T := [.dlc, .fbf]) rfl) (openDue_taken s)
  case dlcRecover => exact h.of_taken (beginRecovery_only s (T := [.dlc, .fbf]) rfl) (beginRecovery_taken s)
  case pscDozeCheck => exact keeps_dozeCheck h
  all_goals exact (hb rfl).elim

/-- Resets, which set the configuration anew. -/
def isReset : Instr → Bool
  | .powerOnReset _ | .brownoutReset _ | .pinReset _ | .fullReset _ _ | .softReset _ _ => true
  | _ => false

/-- No core effect but a reset's changes the configuration. -/
theorem keeps_core (hE : HitsKeep E) (c : Instr) (hc : isReset c = false) (h : s₀.Keeps E s) :
    s₀.Keeps E (c.core s).1 := by
  by_cases hb : c.blocks.any [Block.oru, .pcl, .igt, .fbf, .pcc, .spu, .ulp, .par].contains = false
  · exact h.of_only (core_blocks c s) hb
  cases c
  case orientDwellExpiry => exact keeps_orientCommit false h
  case postureDwellExpiry => exact keeps_postureCommit h
  case restartHoldExpiry => exact keeps_endRestartHold h
  case settleTimerDockExpiry =>
    dsimp only [Instr.core]
    split
    · exact h.of_taken (dockSettled_only s (T := [.dlc, .fbf]) rfl) (dockMove_taken _ s rfl)
    · exact h
  case pollPeriodExpiry =>
    dsimp only [Instr.core]
    split
    · exact h
    · exact h.of_taken (openNextSlot_only s (T := [.dlc, .fbf]) rfl) (openNextSlot_taken s)
  case readyTimerExpiry => exact h.of_taken (dockFault_only _ _ s (T := [.dlc, .fbf]) rfl) (dockFault_taken _ _ s rfl)
  case dockAnswer bytes => exact keeps_closeSlot hE _ _ h
  case answerStoppedShort => exact keeps_closeSlot hE _ _ h
  case answerWindowExpiry => exact keeps_closeSlot hE _ _ h
  case holdExpiry =>
    dsimp only [Instr.core]
    split
    · exact h
    · exact keeps_expireHead _ _ h
  case spaceEvent => exact keeps_spaceEvent h
  case idleTimerIncrement =>
    dsimp only [Instr.core]
    split <;> exact h
  case pendingGrantApply =>
    dsimp only [Instr.core]
    unfold pendingGrantApply
    split
    · exact keeps_applyRequest h
    · exact h
  case railReading mv => exact keeps_takeRail mv h
  case shedTimerExpiry =>
    exact keeps_recompute true
      (s :=
        { s with
          sbu := { s.sbu with requested := 0, grant := 0, pending := false, capped := false, shed := none }
          dlc := { s.dlc with basePower := false, overdraw := if s.sbu.grant = 0 then s.dlc.overdraw else 0 } }) h
  case temperatureReading t => exact keeps_takeTemperature t h
  case measurementEvent mv ma => exact keeps_takeMeasurement mv ma h
  case phaseLimitExpiry => exact keeps_enterPhase _ _ _ h
  case sleepDwellExpiry => exact keeps_spuAction h
  case wakeTimerExpiry => exact keeps_wakeFailed h
  case complianceExpiry => exact keeps_complianceDue h
  case cutWaitExpiry => exact keeps_cutAssert h
  case cutPulseExpiry => exact keeps_endCut h
  case pendingWakeServe => exact keeps_servePendingWake h
  case unlockWindowTimeout => exact h
  case dozeTimerExpiry =>
    dsimp only [Instr.core]
    split
    · exact keeps_enterDoze h
    · exact h
  case standbyTimerExpiry =>
    dsimp only [Instr.core]
    split
    · exact keeps_standbyDue h
    · exact h
  case deferredStandbyEntry => exact keeps_deferredRecheck h
  case settleTimerExpiry w =>
    dsimp only [Instr.core]
    split
    · exact keeps_enterRunFromSettle w h
    · exact h
  case commandFrameReceived bs => dsimp only [Instr.core]; unfold receiveBytes; split <;> exact h
  case uplinkFrameDiscard bs e => dsimp only [Instr.core]; unfold receiveBytes; split <;> exact h
  case interbyteTimeout => dsimp only [Instr.core]; unfold receiveBytes; split <;> exact h
  case frameTransmitEnd =>
    dsimp only [Instr.core]
    unfold transmitEnd
    split
    · exact h
    · split <;> exact h
  case overflowReport => exact keeps_offerOverflow h
  case powerOnReset r => exact Bool.noConfusion hc
  case brownoutReset r => exact Bool.noConfusion hc
  case pinReset r => exact Bool.noConfusion hc
  case fullReset rail temp => exact Bool.noConfusion hc
  case softReset rail temp => exact Bool.noConfusion hc
  all_goals exact (hb rfl).elim

end

end Sys2Proof.Machine
end

section
/-! The five tables (03, 05, 08, 09): a write stores what it accepts, and a hit count saturates. -/

namespace Sys2Proof.Machine

open Sys2Proof

/-- What is asked of the gate entries: their number, and what a write accepts. -/
def EntriesSound (l : List GateEntry) : Prop := l.length = 128 ∧ ∀ g ∈ l, g.Sound

theorem GateEntry.sound_default : defaultEntry.Sound := by decide

theorem GateEntry.sound_getD {l : List GateEntry} (h : ∀ g ∈ l, g.Sound) (i : Nat) : (l.getD i defaultEntry).Sound := by
  rw [List.getD_eq_getElem?_getD]
  cases hi : l[i]? with
  | none => exact GateEntry.sound_default
  | some g => exact h g (List.mem_of_getElem? hi)

theorem EntriesSound.set {l : List GateEntry} (h : EntriesSound l) (i : Nat) {g : GateEntry} (hg : g.Sound) :
    EntriesSound (l.set i g) := by
  refine ⟨List.length_set.trans h.1, fun x hx => ?_⟩
  rcases List.mem_or_eq_of_mem_set hx with hx | rfl
  · exact h.2 x hx
  · exact hg

theorem hitsKeep_entriesSound : HitsKeep EntriesSound := by
  intro l i h
  obtain ⟨-, hlow, hhigh, hkey⟩ := GateEntry.sound_getD h.2 i
  exact h.set i ⟨Nat.min_le_right _ _, hlow, hhigh, hkey⟩

theorem State.tablesSound_iff (s : State) :
    s.TablesSound ↔
      (s.pcl.table.length = 16 ∧ ∀ r ∈ s.pcl.table, r.acceptable = true ∧ r.code ≤ 15) ∧
        (s.igt.dir.length = 16 ∧ ∀ d ∈ s.igt.dir, d.Sound) ∧ EntriesSound s.igt.entries ∧
        (s.spu.rules.length = 16 ∧ ∀ r ∈ s.spu.rules, r.Sound) ∧ s.pcc.profile.valid = true := by
  unfold EntriesSound
  constructor
  · rintro ⟨h1, h2, h3, h4, h5, h6, h7, h8, h9⟩
    exact ⟨⟨h1, h5⟩, ⟨h2, h6⟩, ⟨h3, h7⟩, ⟨h4, h8⟩, h9⟩
  · rintro ⟨⟨h1, h5⟩, ⟨h2, h6⟩, ⟨h3, h7⟩, ⟨h4, h8⟩, h9⟩
    exact ⟨h1, h2, h3, h4, h5, h6, h7, h8, h9⟩

/-- A state with the same configuration and sound entries has sound tables. -/
theorem State.TablesSound.of_keeps {s t : State} (h : s.TablesSound) (hk : s.Keeps EntriesSound t) : t.TablesSound := by
  obtain ⟨⟨-, htable, hdir, hrules, hprofile, -⟩, hentries⟩ := hk
  obtain ⟨hp, hd, -, hr, hc⟩ := s.tablesSound_iff.mp h
  refine t.tablesSound_iff.mpr ⟨?_, ?_, hentries, ?_, ?_⟩
  · rwa [htable]
  · rwa [hdir]
  · rwa [hrules]
  · rwa [hprofile]

theorem State.TablesSound.keeps {s : State} (h : s.TablesSound) : s.Keeps EntriesSound s :=
  ⟨.refl s, (s.tablesSound_iff.mp h).2.2.1⟩

/-! ### What the writes accept -/

theorem entryByte_lt (e : List Byte) (i : Nat) : (entryByte e i).toNat < 256 := (entryByte e i).isLt

theorem PostureRow.ofBytes_code_le (e : List Byte) : (PostureRow.ofBytes e).code ≤ 15 := by
  have := entryByte_lt e 6
  change (entryByte e 6).toNat / 16 ≤ 15
  omega

theorem gateDirOf_sound {e : List Byte} {d : GateDir} (h : gateDirOf e = some d) : d.Sound := by
  unfold gateDirOf at h
  dsimp only at h
  split at h
  · split at h
    · rename_i hd; cases h; exact hd
    · exact nomatch h
  · exact nomatch h

theorem gateEntryOf_sound {e : List Byte} {g : GateEntry} (h : gateEntryOf e = some g) : g.Sound := by
  have h1 := entryByte_lt e 1
  have h2 := entryByte_lt e 2
  unfold gateEntryOf at h
  dsimp only at h
  split at h
  · exact nomatch h
  · split at h
    · split at h
      · rename_i hk
        obtain ⟨hl, -, -, hh, hle⟩ := hk
        cases h
        exact ⟨Nat.zero_le _, by dsimp only; omega, by dsimp only; omega, fun _ => ⟨hl, hle, hh⟩⟩
      · exact nomatch h
    · cases h
      exact ⟨Nat.zero_le _, by dsimp only; omega, by dsimp only; omega, fun hc => nomatch hc⟩
    · exact nomatch h

theorem ruleTempOf_range {a b : Byte} {t : Option Int} (h : ruleTempOf a b = some t) :
    ∀ x ∈ t, -40 ≤ x ∧ x ≤ 125 := by
  unfold ruleTempOf at h
  split at h
  · cases h; exact fun x hx => nomatch hx
  · split at h
    · rename_i hr
      cases h
      intro x hx
      cases hx
      exact hr
    · exact nomatch h
  · exact nomatch h

theorem entryWord_le (e : List Byte) (i : Nat) : entryWord e i ≤ 65535 := by
  have h1 := entryByte_lt e i
  have h2 := entryByte_lt e (i + 1)
  unfold entryWord le2
  omega

theorem sleepRuleOf_sound {e : List Byte} {r : SleepRule} (h : sleepRuleOf e = some r) : r.Sound := by
  unfold sleepRuleOf at h
  dsimp only at h
  split at h
  · rename_i ht _
    split at h
    · rename_i hr
      obtain ⟨hdwell, hsets⟩ := hr
      cases h
      refine ⟨entryWord_le e 6, hdwell, ruleTempOf_range ht, fun he => ?_⟩
      rcases hsets with hs | hs
      · dsimp only at he hs; rw [he] at hs; exact nomatch hs
      · exact hs
    · exact nomatch h
  · exact nomatch h

/-! ### Commands -/

theorem tablesSound_writePosture (i : Nat) (e : List Byte) {s : State} (h : s.TablesSound) :
    (writePosture i e s).2.1.TablesSound := by
  unfold writePosture
  dsimp only
  split
  · rename_i ha
    obtain ⟨⟨hlen, hrows⟩, hrest⟩ := s.tablesSound_iff.mp h
    refine (State.tablesSound_iff _).mpr ⟨⟨List.length_set.trans hlen, fun r hr => ?_⟩, hrest⟩
    rcases List.mem_or_eq_of_mem_set hr with hr | rfl
    · exact hrows r hr
    · exact ⟨ha.2, PostureRow.ofBytes_code_le e⟩
  · exact h

theorem tablesSound_writeGateDir (i : Nat) (e : List Byte) {s : State} (h : s.TablesSound) :
    (writeGateDir i e s).2.1.TablesSound := by
  unfold writeGateDir
  split
  · rename_i hd
    split
    · obtain ⟨hp, ⟨hlen, hdirs⟩, hrest⟩ := s.tablesSound_iff.mp h
      refine (State.tablesSound_iff _).mpr ⟨hp, ⟨List.length_set.trans hlen, fun x hx => ?_⟩, hrest⟩
      rcases List.mem_or_eq_of_mem_set hx with hx | rfl
      · exact hdirs x hx
      · exact gateDirOf_sound hd
    · exact h
  · exact h

theorem State.TablesSound.entries {s : State} (h : s.TablesSound) {l : List GateEntry} (hl : EntriesSound l) :
    State.TablesSound { s with igt := { s.igt with entries := l } } := by
  obtain ⟨hp, hd, -, hrest⟩ := s.tablesSound_iff.mp h
  exact (State.tablesSound_iff _).mpr ⟨hp, hd, hl, hrest⟩

theorem tablesSound_writeGateEntry (i : Nat) (e : List Byte) {s : State} (h : s.TablesSound) :
    (writeGateEntry i e s).2.1.TablesSound := by
  unfold writeGateEntry
  split
  · rename_i hg
    split
    · exact h.entries ((s.tablesSound_iff.mp h).2.2.1.set i (gateEntryOf_sound hg))
    · exact h
  · exact h

theorem entriesSound_clearHits (first count : Nat) {l : List GateEntry} (h : EntriesSound l) :
    EntriesSound (clearHits first count l) := by
  refine ⟨List.length_mapIdx.trans h.1, fun g hg => ?_⟩
  obtain ⟨i, hi, rfl⟩ := List.mem_mapIdx.mp hg
  have hs := h.2 _ (List.getElem_mem hi)
  split
  · exact ⟨Nat.zero_le _, hs.2⟩
  · exact hs

theorem tablesSound_hitsClear (first count : Nat) {s : State} (h : s.TablesSound) :
    (hitsClear first count s).2.1.TablesSound := by
  unfold hitsClear
  split
  · exact h.entries (entriesSound_clearHits _ _ (s.tablesSound_iff.mp h).2.2.1)
  · exact h

theorem tablesSound_writeSleepRule (i : Nat) (e : List Byte) {s : State} (h : s.TablesSound) :
    (writeSleepRule i e s).2.1.TablesSound := by
  unfold writeSleepRule
  split
  · rename_i hr
    split
    · obtain ⟨hp, hd, he, ⟨hlen, hrules⟩, hc⟩ := s.tablesSound_iff.mp h
      refine (State.tablesSound_iff _).mpr ⟨hp, hd, he, ⟨List.length_set.trans hlen, fun x hx => ?_⟩, hc⟩
      rcases List.mem_or_eq_of_mem_set hx with hx | rfl
      · exact hrules x hx
      · exact sleepRuleOf_sound hr
    · exact h
  · exact h

theorem storeProfile_profile (p : Profile) (s : State) : (storeProfile p s).1.pcc.profile = p := by
  unfold storeProfile
  dsimp only
  split <;> rfl

theorem tablesSound_writeProfile (platform : Bool) (i : Nat) (e : List Byte) {s : State} (h : s.TablesSound) :
    (writeProfile platform i e s).2.1.TablesSound := by
  unfold writeProfile
  dsimp only
  split
  · exact h
  · split
    · rename_i hv
      have ho := storeProfile_only (Profile.ofBytes e) s (T := [.sbu, .pcc]) rfl
      obtain ⟨hp, hd, he, hr, -⟩ := s.tablesSound_iff.mp h
      refine (State.tablesSound_iff _).mpr ⟨?_, ?_, ?_, ?_, ?_⟩
      · rwa [ho.pcl rfl]
      · rwa [ho.igt rfl]
      · rwa [ho.igt rfl]
      · rwa [ho.spu rfl]
      · rw [storeProfile_profile]; exact hv.2
    · exact h

/-- Commands that keep the configuration, and FORCE_MODE, keep the tables. -/
theorem tablesSound_runCommand (platform : Bool) (seq : Nat) (time : Stamp) (p : List Byte) {s : State}
    (h : s.TablesSound) : (runCommand platform seq time p s).act.1.TablesSound := by
  by_cases hc : (commandBlocks (codeOf p)).any [Block.pcl, .igt, .pcc, .spu].contains = false
  · have ho := runCommand_blocks platform seq time p s
    simpa only [State.TablesSound, ho.pcl (not_contains_of_disjoint hc rfl), ho.igt (not_contains_of_disjoint hc rfl),
      ho.pcc (not_contains_of_disjoint hc rfl), ho.spu (not_contains_of_disjoint hc rfl)] using h
  unfold runCommand
  dsimp only
  split
  case h_2 =>
    unfold tableWriteResult writeTable
    dsimp only [plainResult]
    split
    · exact tablesSound_writePosture _ _ h
    · exact tablesSound_writeGateDir _ _ h
    · exact tablesSound_writeGateEntry _ _ h
    · exact tablesSound_writeSleepRule _ _ h
    · exact tablesSound_writeProfile _ _ _ h
    · exact h
  case h_4 => exact tablesSound_hitsClear _ _ h
  case h_5 =>
    unfold configSetResult
    split
    · have ho := setParam_only (p.getD 1 0).toNat (configValue p) s (T := [.sib, .hau, .sbu, .pcc, .par]) rfl
      have hpcc : (setParam (p.getD 1 0).toNat (configValue p) s).1.pcc.profile = s.pcc.profile := setParam_profile _ _ _
      simpa only [State.TablesSound, ho.pcl rfl, ho.igt rfl, ho.spu rfl, hpcc] using h
    · exact h
  case h_12 => exact h
  case h_13 =>
    unfold gateFlush flushHold
    dsimp only [plainResult]
    split <;> exact h
  case h_15 => exact h.of_keeps (keeps_chargeControl _ h.keeps)
  case h_16 => exact h.of_keeps (keeps_hostStateCommand _ h.keeps)
  case h_17 => unfold policyUnlock; split <;> exact h
  case h_18 =>
    unfold forceModeCommand
    split
    · exact h
    · split <;> exact h
    · exact h
  case h_20 =>
    unfold areaClearCommand clearArea clearHold flushHold
    dsimp only [plainResult]
    repeat' split
    all_goals exact h
  case h_24 => unfold partResetResult; split <;> exact h
  all_goals
    rename_i hn
    exact absurd (by unfold codeOf; rw [hn]; rfl) hc

theorem tablesSound_handle (g : Signal) {s : State} (h : s.TablesSound) : (handle g s).1.TablesSound := by
  by_cases hg : g = .serve
  · subst hg
    exact serveQueue_keeps (fun s => s.TablesSound) (fun _ _ _ _ _ _ _ h => h) (fun _ h => h)
      (fun pl sq tm p _ h => tablesSound_runCommand pl sq tm p h) s h
  · exact h.of_keeps (keeps_handle hitsKeep_entriesSound g (fun he => absurd he hg) h.keeps)

/-- The tables after a power-on, brownout, pin or full reset. -/
theorem tablesSound_default {s : State} (hp : s.pcl.table = defaultPostures)
    (hg : s.igt = Igt.atReset (List.replicate 16 defaultDir) (List.replicate 128 defaultEntry))
    (hs : s.spu.rules = List.replicate 16 defaultRule) (hc : s.pcc.profile = Profile.default) : s.TablesSound := by
  refine s.tablesSound_iff.mpr ⟨?_, ?_, ?_, ?_, ?_⟩
  · rw [hp]; decide
  · rw [hg]
    exact ⟨List.length_replicate, List.forall_mem_replicate.mpr (.inr (by decide))⟩
  · rw [hg]
    exact ⟨List.length_replicate, List.forall_mem_replicate.mpr (.inr (by decide))⟩
  · rw [hs]
    exact ⟨List.length_replicate, List.forall_mem_replicate.mpr (.inr (by decide))⟩
  · rw [hc]; decide

theorem keeps_dockAtReset {E : List GateEntry → Prop} {s₀ s : State} (h : s₀.Keeps E s) :
    s₀.Keeps E (dockAtReset s).1 := by
  unfold dockAtReset
  split
  · exact h.of_taken (presenceAsserted_only s (T := [.dlc, .fbf]) rfl) (dlcPresence_taken true s)
  · exact h

theorem keeps_penAtReset {E : List GateEntry → Prop} {s₀ s : State} (h : s₀.Keeps E s) :
    s₀.Keeps E (penAtReset s).1 := by
  unfold penAtReset
  split
  · split
    · exact h
    · exact keeps_enterPhase _ _ _ h
  · exact h

/-- The end of a reset keeps the configuration that the reset has left. -/
theorem keeps_endReset {E : List GateEntry → Prop} (rail temp : Int) {s₀ s : State} (h : s₀.Keeps E s) :
    s₀.Keeps E (endReset rail temp s).1 :=
  keeps_penAtReset (keeps_dockAtReset (keeps_postureChoose (keeps_takeRail rail
    (s := { hauAtReset s with sbu := { (hauAtReset s).sbu with temp := max (-40) (min 125 temp) } }) h)))

theorem tablesSound_core (c : Instr) {s : State} (h : s.TablesSound) : (c.core s).1.TablesSound := by
  by_cases hc : isReset c = false
  · exact h.of_keeps (keeps_core hitsKeep_entriesSound c hc h.keeps)
  have hnew : ∀ rail temp (s' : State), s'.TablesSound → (endReset rail temp s').1.TablesSound :=
    fun rail temp s' hs => hs.of_keeps (keeps_endReset rail temp hs.keeps)
  cases c
  case powerOnReset r => exact hnew _ _ _ (tablesSound_default rfl rfl rfl rfl)
  case brownoutReset r => exact hnew _ _ _ (tablesSound_default rfl rfl rfl rfl)
  case pinReset r => exact hnew _ _ _ (tablesSound_default rfl rfl rfl rfl)
  case fullReset rail temp =>
    dsimp only [Instr.core, fullReset]
    split
    · exact hnew _ _ _ (tablesSound_default rfl rfl rfl rfl)
    · exact h
  case softReset rail temp =>
    dsimp only [Instr.core, softReset]
    split
    · exact hnew _ _ (softResetBlocks s) h
    · exact h
  all_goals exact (hc rfl).elim

/-- Settles O13: the passing of time, each core effect and each handover keep the tables sound. -/
theorem tablesStaySound : Obligations.TablesStaySound := fun _ _ hs h =>
  step_keeps (fun s => s.TablesSound) (fun _ _ h => h) (fun _ _ h => h) (fun c _ h => tablesSound_core c h)
    (fun g _ h => tablesSound_handle g h) hs h

end Sys2Proof.Machine
end

section
/-! PROOFS. What a step is, and that every command ends. -/

namespace Sys2Proof.Machine

open Sys2Proof

/-- Settles O1. -/
theorem stepRunsFrontCommandOrIdles : Obligations.StepRunsFrontCommandOrIdles := by
  refine ⟨fun c rest s => rfl, fun s hs => ⟨?_, rfl, rfl, rfl, rfl, rfl⟩⟩
  unfold step
  rw [hs]

/-- No core effect of a command touches the queue of commands. -/
theorem core_pending (c : Instr) (s : State) : (c.core s).1.pending = s.pending :=
  (core_blocks c s).pending (by cases c <;> rfl)

theorem settle_pending (a : Act) : (settle a).pending = a.1.pending :=
  (settle_only a (T := [.sib, .hau, .oru, .pcl, .dlc, .igt, .fbf, .sbu, .pcc, .spu, .psc, .ulp, .par]) (by decide)).pending rfl

/-- Settles O2. -/
theorem everyCommandEnds : Obligations.EveryCommandEnds := by
  intro c s
  rcases exec_cases c s with h | ⟨u, hu, h⟩
  · exact ⟨s, h, rfl⟩
  · refine ⟨_, h.trans (finish_eq _), ?_⟩
    rw [settle_pending, core_pending]
    rcases hu with rfl | ⟨d, rfl⟩ <;> rfl

end Sys2Proof.Machine
end

section
/-! PROOFS. The codings of the table entries and of the Dock Link frames, read back. -/

namespace Sys2Proof.Machine

open Sys2Proof

/-! ### Numbers and their bytes -/

theorem byte_toNat {n : Nat} (h : n ≤ 255) : (byte n).toNat = n := by
  simp only [byte, BitVec.toNat_ofNat]
  omega

theorem byte_toNat_mod (n : Nat) : (byte n).toNat = n % 256 := by
  simp only [byte, BitVec.toNat_ofNat, Nat.reducePow]

/-- A number below 65536 is read back from its two bytes. -/
theorem le2_bytes {n : Nat} (h : n ≤ 65535) : le2 (byte n) (byte (n / 256)) = n := by
  unfold le2
  rw [byte_toNat_mod, byte_toNat (by omega)]
  omega

theorem byte_toNat_self (b : Byte) : byte b.toNat = b := by
  rw [byte, BitVec.ofNat_toNat, BitVec.setWidth_eq]

theorem flag_getLsbD_zero (b : Bool) : (if b then (1 : Byte) else 0).getLsbD 0 = b := by
  cases b <;> rfl

/-- Two flags are read back from their byte. -/
theorem flags_getLsbD (a b : Bool) :
    (byte ((if a then 1 else 0) + if b then 2 else 0)).getLsbD 0 = a ∧
      (byte ((if a then 1 else 0) + if b then 2 else 0)).getLsbD 1 = b := by
  revert a b
  decide

/-- A set of up to eight members is read back from its byte. -/
theorem setWidth_byte_toNat {w : Nat} (x : BitVec w) (h : w ≤ 8) : (byte x.toNat).setWidth w = x := by
  apply BitVec.eq_of_toNat_eq
  have hx : x.toNat < 256 := x.isLt.trans_le (Nat.pow_le_pow_right (by decide) h)
  rw [BitVec.toNat_setWidth, byte_toNat (by omega), Nat.mod_eq_of_lt x.isLt]

/-! ### Table entries -/

theorem PostureRow.ofBytes_bytes {r : PostureRow} (ha : r.acceptable = true) (hc : r.code ≤ 15) :
    PostureRow.ofBytes r.bytes = r := by
  obtain ⟨valid, low, high, orients, bases, code⟩ := r
  simp only [PostureRow.acceptable, Bool.and_eq_true, decide_eq_true_eq] at ha
  have hb : bases.toNat < 8 := bases.isLt
  have hsum : (byte (bases.toNat + 16 * code)).toNat = bases.toNat + 16 * code := byte_toNat (by dsimp only at hc; omega)
  have hbases : (byte (bases.toNat + 16 * code)).setWidth 3 = bases := by
    apply BitVec.eq_of_toNat_eq
    rw [BitVec.toNat_setWidth, hsum]
    omega
  have hcode : (byte (bases.toNat + 16 * code)).toNat / 16 = code := by omega
  have hlow : le2 (byte low) (byte (low / 256)) = low := le2_bytes (by omega)
  have hhigh : le2 (byte high) (byte (high / 256)) = high := le2_bytes (by omega)
  have hvalid := flag_getLsbD_zero valid
  have horients := setWidth_byte_toNat orients (by decide)
  exact congr (congr (congr (congr (congr (congrArg PostureRow.mk hvalid) hlow) hhigh) horients) hbases) hcode

@[simp] theorem gateActionOf_code (a : GateAction) : gateActionOf (byte a.code).toNat = some a := by cases a <;> rfl

theorem gateDirOf_bytes {d : GateDir} (hf : d.first ≤ 127) (hc : d.count ≤ 32) (hs : d.first + d.count ≤ 128) :
    gateDirOf d.bytes = some d := by
  obtain ⟨present, release, action, first, count⟩ := d
  have h2 : (entryByte (GateDir.bytes ⟨present, release, action, first, count⟩) 2).toNat = first := byte_toNat (by dsimp only at hf; omega)
  have h3 : (entryByte (GateDir.bytes ⟨present, release, action, first, count⟩) 3).toNat = count := byte_toNat (by dsimp only at hc; omega)
  have h1 : gateActionOf (entryByte (GateDir.bytes ⟨present, release, action, first, count⟩) 1).toNat = some action :=
    gateActionOf_code action
  have h0 : (entryByte (GateDir.bytes ⟨present, release, action, first, count⟩) 0).getLsbD 0 = present ∧
      (entryByte (GateDir.bytes ⟨present, release, action, first, count⟩) 0).getLsbD 1 = release :=
    flags_getLsbD present release
  unfold gateDirOf
  simp only [h1, h2, h3, h0.1, h0.2]
  exact if_pos ⟨hf, hc, hs⟩

/-- An entry of either class is read back with a hit count of 0. -/
theorem gateEntryOf_bytes {g : GateEntry} (hl : g.low ≤ 255) (hh : g.high ≤ 255)
    (hk : g.cls = .key → 1 ≤ g.low ∧ g.low ≤ g.high ∧ g.high ≤ 254) :
    gateEntryOf g.bytes = some { g with hits := 0 } := by
  obtain ⟨cls, low, high, action, note, hits⟩ := g
  have h1 : (entryByte (GateEntry.bytes ⟨cls, low, high, action, note, hits⟩) 1).toNat = low := byte_toNat hl
  have h2 : (entryByte (GateEntry.bytes ⟨cls, low, high, action, note, hits⟩) 2).toNat = high := byte_toNat hh
  have h3 : gateActionOf (entryByte (GateEntry.bytes ⟨cls, low, high, action, note, hits⟩) 3).toNat = some action :=
    gateActionOf_code action
  have h4 : (entryByte (GateEntry.bytes ⟨cls, low, high, action, note, hits⟩) 4).getLsbD 0 = note := flag_getLsbD_zero note
  unfold gateEntryOf
  simp only [h1, h2, h3, h4]
  cases cls with
  | key =>
    have := hk rfl
    dsimp only at this
    exact if_pos ⟨by omega, by omega, by omega, by omega, by omega⟩
  | point => rfl

@[simp] theorem lidCondOf_code (c : LidCond) : lidCondOf (byte c.code).toNat = some c := by cases c <;> rfl
@[simp] theorem penCondOf_code (c : PenCond) : penCondOf (byte c.code).toNat = some c := by cases c <;> rfl
@[simp] theorem sleepActionOf_code (a : SleepAction) : sleepActionOf (byte a.code).toNat = some a := by cases a <;> rfl

/-- A signed byte is read back. -/
theorem sle1_byte {t : Int} (hl : -128 ≤ t) (hh : t ≤ 127) : sle1 (byte (BitVec.ofInt 8 t).toNat) = t := by
  unfold sle1
  rw [byte_toNat_self, BitVec.toInt_ofInt, Int.bmod_eq_of_le (by omega) (by omega)]

/-- The two bytes of a rule's temperature. -/
def ruleTempBytes : Option Int → List Byte
  | none => [0, 0]
  | some t => 1 :: int1 t

theorem ruleTempOf_bytes {t : Option Int} (h : ∀ x, t = some x → -40 ≤ x ∧ x ≤ 125) :
    ruleTempOf (entryByte (ruleTempBytes t) 0) (entryByte (ruleTempBytes t) 1) = some t := by
  cases t with
  | none => rfl
  | some x =>
    obtain ⟨hl, hh⟩ := h x rfl
    have hx : sle1 (byte (BitVec.ofInt 8 x).toNat) = x := sle1_byte (by omega) (by omega)
    change (if -40 ≤ sle1 (byte (BitVec.ofInt 8 x).toNat) ∧ sle1 (byte (BitVec.ofInt 8 x).toNat) ≤ 125 then
      some (some (sle1 (byte (BitVec.ofInt 8 x).toNat))) else none) = _
    rw [hx, if_pos ⟨hl, hh⟩]

/-- The bytes of a rule, one by one. -/
theorem SleepRule.bytes_eq (r : SleepRule) :
    r.bytes =
      [if r.enabled then 1 else 0, byte r.postures.toNat, byte (r.postures.toNat / 256), byte r.bases.toNat,
        byte r.lid.code, byte r.pen.code, byte r.minIdle, byte (r.minIdle / 256), entryByte (ruleTempBytes r.temp) 0,
        entryByte (ruleTempBytes r.temp) 1, byte r.dwell, byte (r.dwell / 256), byte r.action.code] := by
  obtain ⟨enabled, postures, bases, lid, pen, minIdle, temp, dwell, action⟩ := r
  cases temp <;> rfl

theorem sleepRuleOf_bytes {r : SleepRule} (hi : r.minIdle ≤ 65535) (hd : r.dwell ≤ 60000)
    (ht : ∀ x, r.temp = some x → -40 ≤ x ∧ x ≤ 125) (he : r.enabled = true → r.postures ≠ 0 ∧ r.bases ≠ 0) :
    sleepRuleOf r.bytes = some r := by
  have htemp := ruleTempOf_bytes ht
  have hpost : BitVec.ofNat 16 (le2 (byte r.postures.toNat) (byte (r.postures.toNat / 256))) = r.postures := by
    rw [le2_bytes (by have := r.postures.isLt; omega)]
    rw [BitVec.ofNat_toNat, BitVec.setWidth_eq]
  have hidle : le2 (byte r.minIdle) (byte (r.minIdle / 256)) = r.minIdle := le2_bytes hi
  have hdwell : le2 (byte r.dwell) (byte (r.dwell / 256)) = r.dwell := le2_bytes (by omega)
  have hen := flag_getLsbD_zero r.enabled
  have hbases := setWidth_byte_toNat r.bases (by decide)
  rw [r.bytes_eq]
  simp only [sleepRuleOf, entryByte, entryWord, List.getD_cons_succ, List.getD_cons_zero] at htemp ⊢
  simp only [lidCondOf_code, penCondOf_code, sleepActionOf_code, htemp, hpost, hidle, hdwell, hen, hbases]
  refine if_pos ⟨hd, ?_⟩
  cases h : r.enabled with
  | false => exact .inl rfl
  | true => exact .inr (he h)

theorem Profile.ofBytes_bytes {p : Profile} (h : p.valid = true) : Profile.ofBytes p.bytes = p := by
  simp only [Profile.valid, Bool.and_eq_true, decide_eq_true_eq] at h
  obtain ⟨v1, v2, v3, v4, i1, i2, i3, l1, l2, l3⟩ := p
  dsimp only at h
  simp only [Profile.ofBytes, Profile.bytes, entryWord, entryByte, num2, num1, List.cons_append, List.nil_append,
    List.getD_cons_succ, List.getD_cons_zero, Profile.mk.injEq]
  refine ⟨le2_bytes ?_, le2_bytes ?_, le2_bytes ?_, le2_bytes ?_, le2_bytes ?_, le2_bytes ?_, le2_bytes ?_,
    byte_toNat ?_, byte_toNat ?_, byte_toNat ?_⟩ <;> omega

/-- Settles O16: each entry is read back field by field. -/
theorem tableEntriesRoundTrip : Obligations.TableEntriesRoundTrip := by
  refine ⟨fun r ha hc => PostureRow.ofBytes_bytes ha hc, fun d hf hc hs => gateDirOf_bytes hf hc hs, ?key, ?point,
    fun r hi hd ht he => sleepRuleOf_bytes hi hd ht he, fun p h => Profile.ofBytes_bytes h⟩
  case key =>
    intro g _ h1 h2 h3
    exact gateEntryOf_bytes (by omega) (by omega) fun _ => ⟨h1, h2, h3⟩
  case point =>
    intro g hp hl hh
    exact gateEntryOf_bytes hl hh fun hk => by rw [hp] at hk; cases hk

end Sys2Proof.Machine
end

section
/-! PROOFS. The frames of the base, read back. -/

namespace Sys2Proof.Machine

open Sys2Proof

/-- What the payload of a frame ends with, its CHECK and nothing else. -/
theorem parseAnswer_check (h check : Byte) {p : List Byte} (hp : p.length ≤ 16) :
    parseAnswer (h :: byte p.length :: (p ++ [check])) =
      if crc8 (h :: byte p.length :: p) = check then parsePayload h p else none := by
  have hl : (byte p.length).toNat = p.length := byte_toNat (by omega)
  unfold parseAnswer
  simp only [hl, List.take_left]
  rw [if_pos ⟨by simp, hp⟩]
  simp [List.getD_eq_getElem?_getD]

theorem parseAnswer_bytes (h : Byte) {p : List Byte} (hp : p.length ≤ 16) :
    parseAnswer (DockFrame.bytes ⟨h, p⟩) = parsePayload h p :=
  (parseAnswer_check h _ hp).trans (if_pos rfl)

/-- A signed number of 16 bits is read back from its two bytes. -/
theorem sle2_bytes {x : Int} (h : fits16 x = true) :
    sle2 (byte (BitVec.ofInt 16 x).toNat) (byte ((BitVec.ofInt 16 x).toNat / 256)) = x := by
  simp only [fits16, Bool.and_eq_true, decide_eq_true_eq] at h
  unfold sle2
  rw [le2_bytes (by have := (BitVec.ofInt 16 x).isLt; omega), BitVec.ofNat_toNat, BitVec.setWidth_eq,
    BitVec.toInt_ofInt, Int.bmod_eq_of_le (by omega) (by omega)]

/-- The flags byte of an IDENT: tilt present, mounting, touchpad. -/
theorem identFlags (t : Option Mount) (p : Bool) :
    let f := byte ((if t.isSome then 1 else 0) + (if t = some .rotated then 2 else 0) + (if p then 4 else 0))
    (if f.getLsbD 0 then some (if f.getLsbD 1 then Mount.rotated else .normal) else none) = t ∧ f.getLsbD 2 = p := by
  rcases t with _ | _ | _ <;> cases p <;> decide

theorem parseIdent_bytes {i : Ident} (hr : 1 ≤ i.rev) (hr' : i.rev ≤ 15) (ha : i.active ≤ 1000) (hq : i.quiesced ≤ 100)
    (hl : i.layout ≤ 255) : parseIdent i.bytes = some i := by
  obtain ⟨cls, rev, active, quiesced, tilt, layout, touchpad⟩ := i
  dsimp only at hr hr' ha hq hl
  obtain ⟨htilt, htouch⟩ := identFlags tilt touchpad
  have hrev : (byte rev).toNat = rev := byte_toNat (by omega)
  have hact : le2 (byte active) (byte (active / 256)) = active := le2_bytes (by omega)
  have hqui : (byte quiesced).toNat = quiesced := byte_toNat (by omega)
  have hlay : (byte layout).toNat = layout := byte_toNat hl
  have hrange : 1 ≤ rev ∧ rev ≤ 15 ∧ active ≤ 1000 ∧ quiesced ≤ 100 := ⟨hr, hr', ha, hq⟩
  simp only [Ident.bytes, num1, num2, List.cons_append, List.nil_append, parseIdent]
  simp only [hrev, hact, hqui, hlay, htilt, htouch, hrange, and_self, if_true]
  cases cls <;> rfl

/-- Settles O17: a frame with its own CHECK is its payload's reading, and each payload is read back. -/
theorem dockFramesAreReadBack : Obligations.DockFramesAreReadBack := by
  refine ⟨?key, ?tilt, ?stat, ?point, ?nil, ?ident, ?check⟩
  case key =>
    intro code up h1 h2
    rw [parseAnswer_bytes _ (by simp)]
    have hc : (byte code).toNat = code := byte_toNat (by omega)
    cases up <;> simp [parsePayload, hc, h1, h2]
  case tilt =>
    intro x y z hx hy hz
    rw [parseAnswer_bytes _ (by simp [int2, num2])]
    simp [-BitVec.toNat_ofInt, parsePayload, int2, num2, sle2_bytes hx, sle2_bytes hy, sle2_bytes hz]
  case stat =>
    intro flags ma h
    rw [parseAnswer_bytes _ (by simp [num2])]
    simp [parsePayload, num2, le2_bytes h]
  case point =>
    intro bs h1 h2
    rw [parseAnswer_bytes _ h2]
    simp [parsePayload, h1, h2]
  case nil => rw [parseAnswer_bytes _ (by simp)]; rfl
  case ident =>
    intro i h1 h2 h3 h4 h5
    rw [parseAnswer_bytes _ (by simp [Ident.bytes, num1, num2])]
    simp [parsePayload, parseIdent_bytes h1 h2 h3 h4 h5]
  case check =>
    intro h check p hp hne
    rw [parseAnswer_check h check hp]
    exact if_neg fun e => hne e.symm

end Sys2Proof.Machine
end

section
/-! PROOFS. The pages of STATUS_READ, the ranges of the angle routine and the filter, the search for the governing rule. -/

namespace Sys2Proof.Machine

open Sys2Proof

/-! ### The pages of STATUS_READ -/

/-- The pages hold what is on the page in progress, then the stream. -/
theorem paginate_flatten (l : List (List Byte)) : ∀ cur, (paginate cur l).flatten = cur ++ l.flatten := by
  induction l with
  | nil => intro cur; simp [paginate]
  | cons a rest ih =>
    intro cur
    unfold paginate
    split
    · rw [ih, List.flatten_cons, List.append_assoc]
    · rw [List.flatten_cons, ih, List.flatten_cons]

theorem paginate_length_le {l : List (List Byte)} (h : ∀ a ∈ l, a.length ≤ 55) :
    ∀ cur : List Byte, cur.length ≤ 55 → ∀ p ∈ paginate cur l, p.length ≤ 55 := by
  induction l with
  | nil =>
    intro cur hc p hp
    rw [List.mem_singleton.mp hp]
    exact hc
  | cons a rest ih =>
    obtain ⟨ha, hrest⟩ := List.forall_mem_cons.mp h
    intro cur hc
    unfold paginate
    split
    · rename_i hfit
      exact ih hrest _ (by rw [List.length_append]; exact hfit)
    · exact List.forall_mem_cons.mpr ⟨hc, ih hrest a ha⟩

@[simp] theorem length_num1 (n : Nat) : (num1 n).length = 1 := rfl
@[simp] theorem length_num2 (n : Nat) : (num2 n).length = 2 := rfl
@[simp] theorem length_num4 (n : Nat) : (num4 n).length = 4 := rfl
@[simp] theorem length_int1 (i : Int) : (int1 i).length = 1 := rfl
@[simp] theorem length_int2 (i : Int) : (int2 i).length = 2 := rfl
@[simp] theorem length_flagField (b : Bool) : (flagField b).length = 1 := rfl
@[simp] theorem length_switchStateField (b : Bool) : (switchStateField b).length = 1 := rfl
@[simp] theorem length_timerField (t : Timer) : (timerField t).length = 5 := by cases t <;> rfl
@[simp] theorem length_vecField (v : Vec) : (vecField v).length = 6 := rfl
@[simp] theorem length_maskField (m : BitVec 21) : (maskField m).length = 3 := rfl
@[simp] theorem length_wakeSourceField (s : WakeSource) : (wakeSourceField s).length = 1 := by cases s <;> rfl

theorem length_optField_le {α : Type} {f : α → List Byte} {n : Nat} (h : ∀ a, (f a).length ≤ n) (o : Option α) :
    (optField f o).length ≤ n + 1 := by
  cases o with
  | none => exact Nat.le_add_left 1 n
  | some a => exact Nat.succ_le_succ (h a)

theorem length_optField_short {α : Type} {f : α → List Byte} (h : ∀ a, (f a).length ≤ 54) (o : Option α) :
    (optField f o).length ≤ 55 := length_optField_le h o

@[simp] theorem optField_num1_short {α : Type} (f : α → Nat) (o : Option α) :
    (optField (fun a => num1 (f a)) o).length ≤ 55 := length_optField_short (fun _ => by simp) o

@[simp] theorem optField_num2_short (o : Option Nat) : (optField num2 o).length ≤ 55 :=
  length_optField_short (fun _ => by simp) o

@[simp] theorem optField_num4_short {α : Type} (f : α → Nat) (o : Option α) :
    (optField (fun a => num4 (f a)) o).length ≤ 55 := length_optField_short (fun _ => by simp) o

@[simp] theorem optField_num1_plain_short (o : Option Nat) : (optField num1 o).length ≤ 55 := optField_num1_short id o

@[simp] theorem optField_num4_plain_short (o : Option Nat) : (optField num4 o).length ≤ 55 := optField_num4_short id o

@[simp] theorem optField_vecField_short (o : Option Vec) : (optField vecField o).length ≤ 55 :=
  length_optField_short (fun _ => by simp) o

@[simp] theorem optField_wakeSourceField_short (o : Option WakeSource) : (optField wakeSourceField o).length ≤ 55 :=
  length_optField_short (fun _ => by simp) o

theorem length_baseRecordFields_le (g : Nat) (b : BaseRecord) : (baseRecordFields g b).length ≤ 54 := by
  cases b with
  | cover => simp [baseRecordFields]
  | keyboard i =>
    have := length_optField_le (n := 1) (f := fun m => num1 (Mount.code m)) (fun _ => le_rfl) i.tilt
    simp only [baseRecordFields, List.length_append, List.length_cons, length_num1, length_num2, length_flagField]
    omega

@[simp] theorem optField_baseRecordFields_short (g : Nat) (o : Option BaseRecord) :
    (optField (baseRecordFields g) o).length ≤ 55 := length_optField_short (length_baseRecordFields_le g) o

theorem length_keyField_le (g : Igt) (c : Nat) : (keyField g c).length ≤ 54 := by
  have h1 := length_optField_le (n := 1) (f := fun p => num1 (PendOrigin.code (Pending.origin p))) (fun _ => le_rfl)
    (g.pend.find? fun p => p.code == c)
  have h2 := fun o => length_optField_le (n := 1) (f := num1) (fun _ => le_rfl) o
  simp only [keyField, List.length_append, length_num1, length_flagField]
  have := h2 (if (g.pend.find? fun p => p.code == c).isSome then some (g.pend.findIdx fun p => p.code == c) else none)
  omega

/-- The elements of a list are short where each is, with the count before the first. -/
theorem listStream_short {α : Type} {f : α → List Byte} (h : ∀ a, (f a).length ≤ 54) (l : List α) :
    ∀ x ∈ listStream f l, x.length ≤ 55 := by
  cases l with
  | nil => simp [listStream]
  | cons a rest =>
    refine List.forall_mem_cons.mpr ⟨Nat.succ_le_succ (h a), fun x hx => ?_⟩
    obtain ⟨b, -, rfl⟩ := List.mem_map.mp hx
    exact Nat.le_succ_of_le (h b)

theorem listStream_num1_short {α : Type} (f : α → Nat) (l : List α) :
    ∀ x ∈ listStream (fun a => num1 (f a)) l, x.length ≤ 55 := listStream_short (fun _ => by simp) l

/-- No element of a block's stream is longer than a page. -/
theorem blockStream_short (s : State) (block : Nat) : ∀ x ∈ blockStream s block, x.length ≤ 55 := by
  unfold blockStream
  split
  · simp [sibStream]
  · simp [hauStream]
  · simp [oruStream]
  · simp [pclStream]
  · simpa [dlcStream, or_imp, forall_and] using listStream_num1_short Outcome.code s.dlc.outcomes
  · simpa [igtStream, or_imp, forall_and] using listStream_short (length_keyField_le s.igt) s.igt.keys
  · simp [fbfStream, areaUse, or_imp, forall_and]
  · simp [sbuStream]
  · simp [pccStream]
  · simp [spuStream]
  · simpa [pscStream, or_imp, forall_and] using listStream_num1_short PowerSource.code s.psc.latched
  · simp [ulpStream, or_imp, forall_and]

/-- Settles O18. -/
theorem statusPagesHoldTheStream : Obligations.StatusPagesHoldTheStream := by
  intro s block
  exact ⟨paginate_flatten _ [], paginate_length_le (blockStream_short s block) [] (Nat.zero_le _)⟩

/-! ### The governing rule -/

/-- A rule holds when each of its seven conditions does (09 R160). -/
theorem ruleHolds_iff (s : State) (r : SleepRule) :
    ruleHolds s r = true ↔
      r.enabled = true ∧ r.postures.getLsbD s.pcl.code = true ∧ r.bases.getLsbD s.pcl.cond.code = true ∧
        r.lid.holds s.sib.lid.asserted = true ∧ r.pen.holds s.pcc.inGarage = true ∧
        (r.minIdle = 0 ∨ r.minIdle ≤ s.igt.idle) ∧ ∀ t, r.temp = some t → t ≤ s.sbu.temp := by
  unfold ruleHolds
  cases r.temp <;> simp [and_assoc]

theorem LidCond.holds_iff (c : LidCond) (a : Bool) :
    c.holds a = true ↔ c = .any ∨ c = .closed ∧ a = true ∨ c = .opened ∧ a = false := by
  cases c <;> simp [LidCond.holds]

theorem PenCond.holds_iff (c : PenCond) (p : Pcc) :
    c.holds p.inGarage = true ↔ c = .any ∨ c = .inGarage ∧ p.phase ≠ .none ∨ c = .out ∧ p.phase = .none := by
  cases c <;> simp [PenCond.holds, Pcc.inGarage]

/-- Settles O24: the conditions one by one, and the search is for the first index. -/
theorem governingRuleIsFirstThatHolds : Obligations.GoverningRuleIsFirstThatHolds := by
  intro s
  refine ⟨fun r => ?_, fun i r hr hh hfirst => ?_, fun hnone => ?_⟩
  · rw [ruleHolds_iff, LidCond.holds_iff, PenCond.holds_iff]
  · obtain ⟨hi, rfl⟩ := List.getElem?_eq_some_iff.mp hr
    refine List.findIdx?_eq_some_iff_getElem.mpr ⟨hi, hh, fun j hj => ?_⟩
    have := hfirst j _ hj (List.getElem?_eq_getElem (hj.trans hi))
    simp [this]
  · exact List.findIdx?_eq_none_iff.mpr fun r hr => by simpa using hnone r hr

end Sys2Proof.Machine
end

section
/-! PROOFS. The ranges and symmetries of the angle routine (01 R13), and those of a filter step (01 R9). -/

namespace Sys2Proof.Machine

open Sys2Proof

/-! ### The base angle -/

theorem atanTable_le (i : Nat) : atanTable.getD i 0 ≤ 720 := by
  have key : ∀ i < 17, atanTable.getD i 0 ≤ 720 := by decide
  rcases Nat.lt_or_ge i 17 with h | h
  · exact key i h
  · rw [List.getD_eq_default _ _ h]
    exact Nat.zero_le _

/-- An interpolated value lies between two constants of the table. -/
theorem atanInterp_le (r : Nat) : atanInterp r ≤ 720 := by
  have hlow := atanTable_le (r / 16)
  have hhigh := atanTable_le (r / 16 + 1)
  unfold atanInterp
  dsimp only
  split
  · exact hlow
  · have hstep : (atanTable.getD (r / 16 + 1) 0 - atanTable.getD (r / 16) 0) * (r % 16) / 16 ≤
        atanTable.getD (r / 16 + 1) 0 - atanTable.getD (r / 16) 0 :=
      Nat.div_le_of_le_mul (by
        rw [Nat.mul_comm]
        exact Nat.mul_le_mul_right _ (Nat.mod_lt r (by decide)).le)
    omega

theorem baseAngle_le (a b : Nat) : baseAngle a b ≤ 1440 := by
  unfold baseAngle
  split
  · exact (atanInterp_le _).trans (by decide)
  · exact Nat.sub_le _ _

/-- The base angles of a vector and of its mirror image at the diagonal add up to a quarter turn. -/
theorem baseAngle_add_swap {a b : Nat} (ha : 0 < a) (hb : 0 < b) : baseAngle a b + baseAngle b a = 1440 := by
  unfold baseAngle
  rcases Nat.lt_trichotomy a b with h | rfl | h
  · have := atanInterp_le (a * 256 / b)
    rw [if_neg (by omega), if_pos h.le]
    omega
  · rw [if_pos le_rfl, Nat.mul_div_cancel_left 256 ha]
    decide
  · have := atanInterp_le (b * 256 / a)
    rw [if_pos h.le, if_neg (by omega)]
    omega

theorem psi_lt (u v : Int) : psi u v < 5760 := by
  have := baseAngle_le u.natAbs v.natAbs
  unfold psi
  dsimp only
  split_ifs <;> omega

/-! ### One step of the filter -/

/-- A truncated quotient by a power of two lies between 0 and its dividend. -/
theorem tdiv_pow_between (d : Int) (k : Nat) : min 0 d ≤ d.tdiv (2 ^ k) ∧ d.tdiv (2 ^ k) ≤ max 0 d := by
  have hk : (0 : Int) ≤ 2 ^ k := by positivity
  rcases le_total 0 d with h | h
  · have h1 : 0 ≤ d.tdiv (2 ^ k) := Int.tdiv_nonneg h hk
    have h2 : d.tdiv (2 ^ k) ≤ d := Int.tdiv_le_self _ h
    omega
  · have h1 : 0 ≤ (-d).tdiv (2 ^ k) := Int.tdiv_nonneg (by omega) hk
    have h2 : (-d).tdiv (2 ^ k) ≤ -d := Int.tdiv_le_self _ (by omega)
    rw [Int.neg_tdiv] at h1 h2
    omega

/-- The filter never passes the sample. -/
theorem smoothAxis_between (k : Nat) (s v : Int) : min s v ≤ smoothAxis k s v ∧ smoothAxis k s v ≤ max s v := by
  have := tdiv_pow_between (v - s) k
  unfold smoothAxis
  omega

theorem smoothAxis_of_close {k : Nat} {s v : Int} (h : (v - s).natAbs < 2 ^ k) : smoothAxis k s v = s := by
  have h0 : (v - s).tdiv (2 ^ k) = 0 := by
    rw [← Int.natAbs_eq_zero, Int.natAbs_tdiv, Int.natAbs_pow]
    exact Nat.div_eq_of_lt h
  rw [smoothAxis, h0, add_zero]

theorem smoothAxis_zero (s v : Int) : smoothAxis 0 s v = v := by
  simp [smoothAxis]

/-- Settles O20: the symmetries hold because the base angles of the two mirror images add up to a quarter turn. -/
theorem angleAndFilterRanges : Obligations.AngleAndFilterRanges := by
  refine ⟨fun u v => ⟨psi_lt u v, baseAngle_le _ _, fun hu hv => ?_⟩, fun k s v h1 h2 h3 h4 => ?_⟩
  · have hsum := baseAngle_add_swap (a := u.natAbs) (b := v.natAbs) (by omega) (by omega)
    unfold psi
    simp only [Int.natAbs_neg, hu.le, hv.le, not_le.mpr (neg_neg_of_pos hu), not_le.mpr (neg_neg_of_pos hv), if_true, if_false]
    exact ⟨by omega, by omega, trivial, trivial⟩
  · obtain ⟨hl, hh⟩ := smoothAxis_between k s v
    exact ⟨by omega, by omega, smoothAxis_of_close, smoothAxis_zero s v, hl, hh⟩

end Sys2Proof.Machine
end

section
/-! SUPPORT. What each handover may hand on, by kinds. -/

namespace Sys2Proof.Machine

open Sys2Proof

/-- The kind of a handover: the handover without its operands, but for the FORCE_CUT report. -/
def Signal.kind : Signal → Signal
  | .report k _ => if k = .forceCut then .report .forceCut [] else .report .start []
  | .received _ _ => .received 0 []
  | .reply _ => .reply ⟨0, [], none⟩
  | .oruCommit _ => .oruCommit false
  | .igtCommit _ => .igtCommit 0
  | .spuEval _ => .spuEval .other
  | .wakeRequest _ => .wakeRequest .key
  | .dockLevel _ => .dockLevel 0
  | .hauDock _ => .hauDock false
  | .grantApplied _ => .grantApplied false
  | .dlcPresence _ => .dlcPresence false
  | .dlcRelease _ => .dlcRelease none
  | .dlcPowerReq _ => .dlcPowerReq .quiesce
  | .dlcBegin _ => .dlcBegin .identify
  | .pccGarage _ => .pccGarage false
  | .gateRoute _ => .gateRoute (.press 0)
  | .holdCheck _ => .holdCheck false
  | .pscHost _ _ => .pscHost .running .running
  | .pscWake _ => .pscWake .host
  | g => g

namespace Kind
abbrev report : Signal := .report .start []
abbrev forceCut : Signal := .report .forceCut []
abbrev received : Signal := .received 0 []
abbrev reply : Signal := .reply ⟨0, [], none⟩
abbrev oruCommit : Signal := .oruCommit false
abbrev igtCommit : Signal := .igtCommit 0
abbrev spuEval : Signal := .spuEval .other
abbrev wakeRequest : Signal := .wakeRequest .key
abbrev dockLevel : Signal := .dockLevel 0
abbrev hauDock : Signal := .hauDock false
abbrev grantApplied : Signal := .grantApplied false
abbrev dlcPresence : Signal := .dlcPresence false
abbrev dlcRelease : Signal := .dlcRelease none
abbrev dlcPowerReq : Signal := .dlcPowerReq .quiesce
abbrev dlcBegin : Signal := .dlcBegin .identify
abbrev pccGarage : Signal := .pccGarage false
abbrev gateRoute : Signal := .gateRoute (.press 0)
abbrev holdCheck : Signal := .holdCheck false
abbrev pscHost : Signal := .pscHost .running .running
abbrev pscWake : Signal := .pscWake .host
end Kind

/-- A change of host state hands on these. -/
abbrev hostKinds : List Signal := [.holdBegin, .holdEnd, Kind.pscHost, Kind.spuEval]

/-- A change of the dock state and the end of a step hand on these. -/
abbrev dockKinds : List Signal :=
  [Kind.dockLevel, Kind.hauDock, .pclDock, .igtDeparture, .pscRecheck, Kind.report, .walkNext, .pscDeferred, .servePower]

/-- A STANDBY entry hands on these. -/
abbrev standbyKinds : List Signal := [Kind.report, Kind.dlcRelease, .pscLevels]

/-- The commands of the host hand on these. -/
abbrev commandKinds : List Signal :=
  [Kind.report, .reportRemoved, .spaceEvent, .arbiter, .serve, Kind.reply, .holdBegin, .holdEnd, .hauHall, Kind.oruCommit,
    .pclEval, Kind.spuEval, Kind.dlcPresence, Kind.dlcRelease, Kind.dlcBegin, .walkNext, Kind.pccGarage, .pccLimit,
    .headStep, Kind.holdCheck, Kind.pscHost, .pscDeferred, Kind.pscWake]

/-- The kinds that a handover may hand on. -/
def Signal.follows : Signal → List Signal
  | .report _ _ => [.arbiter, .cutAssert]
  | .reportRemoved | .reply _ | .mirror | .igtDeparture => [.arbiter]
  | .spaceEvent => [.arbiter, .headStep]
  | .arbiter => [.reportRemoved, .spaceEvent, .serve]
  | .received _ _ => [.serve, .arbiter]
  | .serve => commandKinds
  | .holdBegin => [.serve]
  | .holdEnd => [.arbiter, .serve]
  | .hauHall | .hauDock _ => [.pclEval, Kind.report]
  | .oruEval => [Kind.oruCommit]
  | .oruCommit _ => [Kind.report, .pclEval]
  | .hinge => [.pclEval, Kind.report, .mirror]
  | .pclEval => [.pclCommit]
  | .pclCommit => [Kind.report, Kind.igtCommit, Kind.spuEval]
  | .igtCommit _ => [.arbiter, .headStep, Kind.holdCheck]
  | .spuEval _ => [Kind.report, .spuAction] ++ hostKinds
  | .wakeRequest _ | .spuAction => Kind.report :: hostKinds
  | .cutAssert | .grantApplied _ | .openDue | .pscWake _ => []
  | .dockLevel _ => [Kind.report, Kind.grantApplied]
  | .pclDock => [.pclEval, Kind.spuEval]
  | .pscRecheck | .pscDeferred => standbyKinds
  | .dlcPresence _ | .dlcRevoked | .dlcRelease _ | .dlcBegin _ | .dlcRecover => dockKinds
  | .dlcPowerReq _ | .servePower => [.walkNext]
  | .walkNext => [Kind.dlcBegin]
  | .pccGarage _ => [Kind.report, .pscDeferred, Kind.spuEval]
  | .pccLimit => [Kind.report, .pscDeferred]
  | .headStep => [Kind.holdCheck, .arbiter, .headStep, Kind.report, Kind.wakeRequest, .headAdmit]
  | .gateRoute _ => [.arbiter, Kind.report, Kind.holdCheck]
  | .headAdmit => [.arbiter, .headStep, Kind.report, Kind.holdCheck]
  | .holdCheck _ => [.headStep, Kind.report, Kind.holdCheck]
  | .pscHost _ _ => [Kind.dlcPowerReq, .pscRecheck, Kind.oruCommit, .pscDozeCheck] ++ standbyKinds
  | .pscLevels => [Kind.pscWake]
  | .pscDozeCheck => [Kind.report, Kind.dlcPowerReq, .pscRecheck]

/-- An effect hands on kinds of a list only. -/
def Act.Hands (L : List Signal) (a : Act) : Prop := ∀ g ∈ a.2, g.kind ∈ L

section
variable {L M : List Signal} {s : State}

theorem hands_quiet (s : State) : Act.Hands L (quiet s) := fun _ h => nomatch h

theorem Act.Hands.mono {a : Act} (h : a.Hands L) (hL : ∀ k ∈ L, k ∈ M) : a.Hands M := fun g hg => hL _ (h g hg)

theorem Act.Hands.andThen {a : Act} {f : State → Act} (ha : a.Hands L) (hf : (f a.1).Hands L) :
    Act.Hands L (a.andThen f) := by
  intro g hg
  rcases List.mem_append.mp hg with h | h
  · exact ha g h
  · exact hf g h

theorem hands_mk {l : List Signal} (h : ∀ g ∈ l, g.kind ∈ L) : Act.Hands L (s, l) := h

/-! ### The Uplink -/

theorem hands_offerOverflow (s : State) : Act.Hands [.arbiter] (offerOverflow s) := by
  unfold offerOverflow
  dsimp only
  split
  · simp [Act.Hands, Act.andThen, storeReport, quiet, Signal.kind]
  · exact hands_quiet _

theorem hands_offerReport (k : ReportKind) (f : List Byte) (s : State) :
    Act.Hands (if k = .forceCut then [.arbiter, .cutAssert] else [.arbiter]) (offerReport k f s) := by
  by_cases hk : k = .forceCut
  · rw [if_pos hk]
    unfold offerReport storeReport
    simp only [hk, if_true, if_false]
    split <;> simp [Act.Hands, Signal.kind]
  · rw [if_neg hk]
    unfold offerReport storeReport
    simp only [hk, if_true, if_false]
    split <;> simp [Act.Hands, Signal.kind]

theorem hands_composeReport (k : ReportKind) (f : List Byte) (s : State) :
    Act.Hands (if k = .forceCut then [.arbiter, .cutAssert] else [.arbiter]) (composeReport k f s) := by
  have hL : ∀ g ∈ [Signal.arbiter], g ∈ (if k = .forceCut then [Signal.arbiter, .cutAssert] else [.arbiter]) := by
    by_cases hk : k = .forceCut <;> simp [hk]
  unfold composeReport
  by_cases he : reportEnabled s.ulp.mask k = true
  · rw [if_pos he]
    exact ((hands_offerOverflow s).mono hL).andThen (hands_offerReport k f _)
  · rw [if_neg he]
    exact hands_quiet _

theorem hands_arbiterChoice (s : State) : Act.Hands [.reportRemoved, .spaceEvent, .serve] (arbiterChoice s) := by
  unfold arbiterChoice chooseHeld chooseArea sendReport sendInput
  dsimp only
  repeat' split
  all_goals simp [Act.Hands, quiet, Signal.kind]

theorem hands_receiveFrame (ct : Byte) (p : List Byte) (s : State) :
    Act.Hands [.serve, .arbiter] (receiveFrame ct p s) := by
  unfold receiveFrame
  dsimp only
  repeat' split
  all_goals simp [Act.Hands, quiet, Signal.kind]

theorem hands_placeReply (r : Reply) (s : State) : Act.Hands [.arbiter] (placeReply r s) := by
  unfold placeReply
  split <;> simp [Act.Hands, quiet, Signal.kind]

/-! ### The sensing blocks -/

theorem hands_hingeUpdate (new : Hinge) (s : State) : Act.Hands [.pclEval, Kind.report] (hingeUpdate new s) := by
  unfold hingeUpdate
  dsimp only
  split <;> simp [Act.Hands, Signal.kind, angleReport]

theorem hands_hingeAtSample (s : State) : Act.Hands [.pclEval, Kind.report, .mirror] (hingeAtSample s) := by
  have hu : ∀ new, Act.Hands [.pclEval, Kind.report, .mirror] ((hingeUpdate new s).andThen fun s => (s, [.mirror])) :=
    fun new => ((hands_hingeUpdate new s).mono (by simp)).andThen (by simp [Act.Hands, Signal.kind])
  unfold hingeAtSample
  split
  · exact hu _
  · split
    · simp [Act.Hands, Signal.kind]
    · exact hu _

theorem hands_hallChange (s : State) : Act.Hands [.pclEval, Kind.report] (hallChange s) := by
  unfold hallChange
  repeat' split
  all_goals first | exact hands_hingeUpdate _ _ | exact hands_quiet _

theorem hands_hauDockNotice (b : Bool) (s : State) : Act.Hands [.pclEval, Kind.report] (hauDockNotice b s) := by
  unfold hauDockNotice baseLost
  dsimp only
  repeat' split
  all_goals first | exact hands_quiet _ | exact hands_hingeUpdate _ _

theorem hands_mirrorSample (s : State) : Act.Hands [.arbiter] (mirrorSample s) := by
  unfold mirrorSample
  repeat' split
  all_goals simp [Act.Hands, quiet, Signal.kind]

theorem hands_orientEvaluate (s : State) : Act.Hands [Kind.oruCommit] (orientEvaluate s) := by
  unfold orientEvaluate
  split
  · exact hands_quiet _
  · dsimp only
    simp only [Act.Hands]
    split <;> simp [Signal.kind]

theorem hands_orientCommit (u : Bool) (s : State) : Act.Hands [Kind.report, .pclEval] (orientCommit u s) := by
  unfold orientCommit
  split
  · exact hands_quiet _
  · simp only [Act.Hands]
    split <;> simp [Signal.kind, orientReport]

theorem hands_orientResume (s : State) : Act.Hands [Kind.oruCommit] (orientResume s) := by
  unfold orientResume
  repeat' split
  all_goals simp [Act.Hands, quiet, Signal.kind]

theorem hands_postureChoose (s : State) : Act.Hands [.pclCommit] (postureChoose s) := by
  unfold postureChoose
  simp only [Act.Hands]
  split <;> simp [Signal.kind]

theorem hands_postureEvaluate (s : State) : Act.Hands [.pclCommit] (postureEvaluate s) := by
  unfold postureEvaluate
  split
  · exact hands_postureChoose s
  · exact hands_quiet _

theorem hands_postureCommit (s : State) :
    Act.Hands [Kind.report, Kind.igtCommit, Kind.spuEval] (postureCommit s) := by
  unfold postureCommit
  split
  · exact hands_quiet _
  · simp [Act.Hands, Signal.kind, postureReport]

theorem hands_pclDockNotice (s : State) : Act.Hands [.pclEval, Kind.spuEval] (pclDockNotice s) := by
  unfold pclDockNotice
  split
  · exact hands_quiet _
  · simp [Act.Hands, Signal.kind]

/-! ### The Input Gate -/

theorem hands_noteSpill (r : SpillReason) (l : List (HoldBody × Nat)) (s : State) :
    Act.Hands [Kind.report] (noteSpill r l s) := by
  unfold noteSpill
  repeat' split
  all_goals simp [Act.Hands, quiet, Signal.kind, holdSpillReport]

theorem hands_appendHold (b : HoldBody) (d : Bool) (s : State) :
    Act.Hands [Kind.report, Kind.holdCheck] (appendHold b d s) :=
  ((hands_noteSpill _ _ _).mono (by simp)).andThen (by simp [Act.Hands, emit, Signal.kind])

theorem hands_judge (b : HoldBody) (s : State) : Act.Hands [Kind.report] (judge b s).2 := by
  unfold judge noteMatch
  dsimp only
  split
  · split
    · simp only [Act.Hands]
      split <;> simp [Signal.kind, gateNoteReport]
    · exact hands_quiet _
  · split
    · exact hands_quiet _
    · simp [Act.Hands, Signal.kind, gateMissingReport]

theorem hands_toInput (b : HoldBody) (s : State) : Act.Hands [.arbiter, Kind.report, Kind.holdCheck] (toInput b s) := by
  unfold toInput
  split
  · split <;> simp [Act.Hands, quiet, Signal.kind, rolloverReport]
  · exact (hands_appendHold b true s).mono (by simp)

theorem hands_routeJudged (a : GateAction) (b : HoldBody) (s : State) :
    Act.Hands [.arbiter, Kind.report, Kind.holdCheck] (routeJudged a b s) := by
  cases a with
  | pass => exact hands_toInput b s
  | wake => exact hands_toInput b s
  | drop => exact hands_quiet _
  | hold =>
    unfold routeJudged
    dsimp only
    split
    · exact hands_quiet _
    · exact (hands_appendHold b false s).mono (by simp)

theorem hands_gateRoute (b : HoldBody) (s : State) :
    Act.Hands [.arbiter, Kind.report, Kind.holdCheck] (gateRoute b s) := by
  unfold gateRoute
  split
  · exact hands_routeJudged _ b s
  · exact hands_quiet _

theorem hands_admitHead (f : HoldFrame) (rest : List HoldFrame) (s : State) :
    Act.Hands [.arbiter, .headStep, Kind.report, Kind.holdCheck] (admitHead f rest s) := by
  unfold admitHead
  split
  · simp [Act.Hands, Signal.kind]
  · simp only [Act.Hands]
    split <;> simp [Signal.kind, rolloverReport]
  · simp [Act.Hands, Signal.kind, stopHead]

theorem hands_judgeHead (f : HoldFrame) (rest : List HoldFrame) (s : State) :
    Act.Hands [Kind.holdCheck, .arbiter, .headStep, Kind.report, Kind.wakeRequest, .headAdmit] (judgeHead f rest s) := by
  have hj : Act.Hands [Kind.holdCheck, .arbiter, .headStep, Kind.report, Kind.wakeRequest, .headAdmit] (judge f.body s).2 :=
    (hands_judge f.body s).mono (by simp)
  unfold judgeHead
  dsimp only
  split
  · exact hj.andThen (by simp [Act.Hands, stopHead, Signal.kind])
  · exact hj.andThen (by simp [Act.Hands, Signal.kind])
  · exact hj.andThen ((hands_admitHead f rest _).mono (by simp))
  · exact hj.andThen (by simp [Act.Hands, emit, Signal.kind])

theorem hands_headStep (s : State) :
    Act.Hands [Kind.holdCheck, .arbiter, .headStep, Kind.report, Kind.wakeRequest, .headAdmit] (headStep s) := by
  have hstop : ∀ s, Act.Hands [Kind.holdCheck, .arbiter, .headStep, Kind.report, Kind.wakeRequest, .headAdmit] (stopHead s) := by
    simp [Act.Hands, stopHead, Signal.kind]
  unfold headStep
  split
  · exact hands_quiet _
  · split
    · exact hstop s
    · split
      · simp [Act.Hands, pauseHead, Signal.kind]
      · split
        · split
          · split <;> simp [Act.Hands, Signal.kind]
          · exact (hands_admitHead _ _ _).mono (by simp)
          · exact (hands_admitHead _ _ _).mono (by simp)
        · split
          · exact hstop s
          · exact hands_judgeHead _ _ _

theorem hands_headAdmit (s : State) : Act.Hands [.arbiter, .headStep, Kind.report, Kind.holdCheck] (headAdmit s) := by
  unfold headAdmit
  split
  · exact hands_admitHead _ _ _
  all_goals exact hands_quiet _

theorem hands_expireHead (f : HoldFrame) (rest : List HoldFrame) (s : State) :
    Act.Hands [Kind.report, Kind.holdCheck] (expireHead f rest s) :=
  ((hands_noteSpill _ _ _).mono (by simp)).andThen (by simp [Act.Hands, emit, Signal.kind])

theorem hands_holdCheck (b : Bool) (s : State) : Act.Hands [.headStep, Kind.report, Kind.holdCheck] (holdCheck b s) := by
  unfold holdCheck
  split
  · exact hands_quiet _
  · split
    · split
      · simp [Act.Hands, startHead, Signal.kind]
      · exact hands_quiet _
    · split
      · exact (hands_expireHead _ _ _).mono (by simp)
      · exact hands_quiet _

theorem hands_spaceEvent (s : State) : Act.Hands [.arbiter, .headStep] (spaceEvent s) := by
  unfold spaceEvent
  dsimp only
  repeat' split
  all_goals simp [Act.Hands, Act.andThen, startHead, Signal.kind]

theorem hands_gateCommit (c : Nat) (s : State) : Act.Hands [.arbiter, .headStep, Kind.holdCheck] (gateCommit c s) := by
  unfold gateCommit
  dsimp only
  split
  · refine Act.Hands.andThen ?_ (by simp [Act.Hands, startHead, Signal.kind])
    split <;> simp [Act.Hands, quiet, Signal.kind]
  · refine Act.Hands.andThen ?_ ?_
    · split <;> simp [Act.Hands, quiet, Signal.kind]
    · simp only [Act.Hands, emit]
      split <;> simp [Signal.kind]

/-! ### Supply and charging -/

theorem hands_applyPen (told : Bool) (v : Nat) (s : State) : Act.Hands [Kind.report] (applyPen told v s) := by
  unfold applyPen
  simp only [Act.Hands]
  split <;> simp [Signal.kind, chargeReport]

theorem Act.Hands.budgetEvent {f : State → Act} (h : Act.Hands L (f s)) (hr : Kind.report ∈ L) :
    Act.Hands L (budgetEvent f s) := by
  intro g hg
  rcases List.mem_append.mp hg with hg | hg
  · exact h g hg
  · split at hg
    · rw [List.mem_singleton.mp hg]; exact hr
    · exact nomatch hg

theorem hands_applyRequest (s : State) : Act.Hands [Kind.report, Kind.grantApplied] (applyRequest s) := by
  have hrecompute : ∀ s, Act.Hands [Kind.report, Kind.grantApplied] (recompute true s) :=
    fun s => (hands_applyPen _ _ _).mono (by simp)
  unfold applyRequest
  dsimp only
  split_ifs
  · simp [Act.Hands, Signal.kind]
  · exact (hrecompute _).andThen (by simp [Act.Hands, Signal.kind])
  · exact hands_quiet _
  · exact ((hands_applyPen _ _ _).mono (by simp)).andThen (by simp [Act.Hands, Signal.kind])

theorem hands_dockRequest (l : Nat) (s : State) : Act.Hands [Kind.report, Kind.grantApplied] (dockRequest l s) :=
  (hands_applyRequest _).budgetEvent (by simp)

theorem hands_sbuPowerChange (s : State) : Act.Hands [Kind.report] (sbuPowerChange s) :=
  (hands_applyPen _ _ _).budgetEvent (by simp)

theorem hands_handCurrent (told : Bool) (i : Nat) (s : State) : Act.Hands [Kind.report] (handCurrent told i s) :=
  Act.Hands.budgetEvent (f := fun s => recompute told { s with sbu := { s.sbu with iPhase := i } })
    (hands_applyPen _ _ _) (by simp)

theorem hands_enterPhase (new : Phase) (c : Option ChargeCause) (n : Nat) (s : State) :
    Act.Hands [Kind.report, .pscDeferred] (enterPhase new c n s) :=
  ((hands_handCurrent _ _ _).mono (by simp)).andThen (by simp [Act.Hands, Signal.kind, chargeReport])

theorem hands_penInserted (s : State) : Act.Hands [Kind.report, .pscDeferred, Kind.spuEval] (penInserted s) := by
  unfold penInserted
  split
  · refine Act.Hands.andThen ?_ (by simp [Act.Hands, Signal.kind])
    split
    · simp [Act.Hands, Signal.kind, chargeReport]
    · exact (hands_enterPhase _ _ _ _).mono (by simp)
  · exact hands_quiet _

theorem hands_penRemoved (s : State) : Act.Hands [Kind.report, .pscDeferred, Kind.spuEval] (penRemoved s) := by
  unfold penRemoved
  split
  · exact hands_quiet _
  · exact ((hands_handCurrent _ _ _).mono (by simp)).andThen (by simp [Act.Hands, Signal.kind, chargeReport])

theorem hands_limitAfterWrite (s : State) : Act.Hands [Kind.report, .pscDeferred] (limitAfterWrite s) := by
  unfold limitAfterWrite
  split
  · exact hands_enterPhase _ _ _ _
  · exact hands_quiet _

/-! ### Sleep policy -/

theorem hostSignals_kinds (old new : HostState) : ∀ g ∈ hostSignals old new, g.kind ∈ hostKinds := by
  unfold hostSignals
  split_ifs <;> simp [Signal.kind]

theorem hands_withdraw (c : WithdrawCause) (g : Option Nat) (s : State) :
    Act.Hands (Kind.report :: hostKinds) (withdraw c g s) := by
  intro x hx
  rcases List.mem_cons.mp hx with rfl | hx
  · simp [Signal.kind, adviceWithdrawnReport]
  · exact List.mem_cons_of_mem _ (hostSignals_kinds _ _ x hx)

theorem hands_beginEpisode (g : Option Nat) (s : State) : Act.Hands [.spuAction] (beginEpisode g s) := by
  unfold beginEpisode
  dsimp only
  split
  · exact hands_quiet _
  · split
    · simp [Act.Hands, Signal.kind]
    · exact hands_quiet _

theorem hands_spuEvaluate (t : SpuTrigger) (s : State) :
    Act.Hands ([Kind.report, .spuAction] ++ hostKinds) (spuEvaluate t s) := by
  have hw : ∀ c g s, Act.Hands ([Kind.report, .spuAction] ++ hostKinds) (withdraw c g s) :=
    fun c g s => (hands_withdraw c g s).mono (by simp)
  have he : ∀ g s, Act.Hands ([Kind.report, .spuAction] ++ hostKinds) (beginEpisode g s) :=
    fun g s => (hands_beginEpisode g s).mono (by simp)
  unfold spuEvaluate
  dsimp only
  split
  · refine Act.Hands.andThen ?_ (he _ _)
    split
    · exact hw _ _ _
    · exact hands_quiet _
  · split
    · refine Act.Hands.andThen ?_ (he _ _)
      split
      · exact hw _ _ _
      · exact hands_quiet _
    · exact hands_quiet _

theorem hands_wakeRequest (src : WakeSource) (s : State) : Act.Hands (Kind.report :: hostKinds) (wakeRequest src s) := by
  have hstart : ∀ r h t, Signal.kind r = Kind.report →
      Act.Hands (Kind.report :: hostKinds) (t, r :: hostSignals h .waking) := by
    intro r h t hr x hx
    rcases List.mem_cons.mp hx with rfl | hx
    · rw [hr]; exact List.mem_cons_self
    · exact List.mem_cons_of_mem _ (hostSignals_kinds _ _ x hx)
  unfold wakeRequest
  split
  · exact hands_quiet _
  · split
    · exact hstart _ _ _ rfl
    · exact hstart _ _ _ rfl
    · exact hstart _ _ _ rfl
    · exact hands_withdraw _ _ _
    · exact hands_quiet _
    · exact hands_quiet _

theorem hands_spuAction (s : State) : Act.Hands (Kind.report :: hostKinds) (spuAction s) := by
  unfold spuAction
  split
  · exact hands_quiet _
  · split
    · exact hands_quiet _
    · dsimp only
      split
      · unfold adviseSleep
        split
        · intro x hx
          rcases List.mem_cons.mp hx with rfl | hx
          · exact List.mem_cons_self
          · exact List.mem_cons_of_mem _ (hostSignals_kinds _ _ x hx)
        · exact hands_quiet _
      · exact hands_wakeRequest _ _
      · exact hands_quiet _

theorem hands_cutAssert (s : State) : Act.Hands [] (cutAssert s) := by
  unfold cutAssert
  split <;> exact hands_quiet _

/-! ### The Dock Link -/

theorem hands_dockMove (new : Dlc) (s : State) : Act.Hands dockKinds (dockMove new s) := by
  unfold dockMove
  dsimp only
  simp only [Act.Hands]
  split_ifs <;> simp [Signal.kind]

theorem hands_reportDock (e : DockEvent) (st : Option DockStep) (o : Option Origin) (c : Option DockCause) (s : State) :
    Act.Hands dockKinds (reportDock e st o c s) := by
  simp [Act.Hands, reportDock, dockReport, Signal.kind]

theorem hands_stepEnd (s : State) : Act.Hands dockKinds (emit stepEnd s) := by
  simp [Act.Hands, emit, stepEnd, Signal.kind]

theorem hands_dockFault (c : DockCause) (b : Bool) (s : State) : Act.Hands dockKinds (dockFault c b s) :=
  ((hands_dockMove _ _).andThen (hands_reportDock _ _ _ _ _)).andThen (hands_stepEnd _)

theorem hands_abandonReport (c : DockCause) (after d : Dlc) (s : State) :
    Act.Hands dockKinds (s, abandonReport c after d) := by
  unfold abandonReport
  simp only [Act.Hands]
  split <;> simp [Signal.kind, dockReport]

theorem hands_dlcPresence (b : Bool) (s : State) : Act.Hands dockKinds (dlcPresence b s) := by
  unfold dlcPresence
  split
  · unfold presenceAsserted
    split
    · exact (hands_dockMove _ _).andThen (hands_reportDock _ _ _ _ _)
    · exact hands_quiet _
  · unfold presenceDropped
    split
    · exact hands_quiet _
    · exact (((hands_abandonReport _ _ _ _).andThen (hands_dockMove _ _)).andThen
        (hands_reportDock _ _ _ _ _)).andThen (hands_stepEnd _)

theorem hands_dockRelease (o : Option Origin) (s : State) : Act.Hands dockKinds (dockRelease o s) := by
  unfold dockRelease
  split
  · exact (((hands_abandonReport _ _ _ _).andThen (hands_dockMove _ _)).andThen
      (hands_reportDock _ _ _ _ _)).andThen (hands_stepEnd _)
  · exact hands_quiet _

theorem hands_dockRevoked (s : State) : Act.Hands dockKinds (dockRevoked s) := by
  unfold dockRevoked
  split
  · exact hands_dockFault _ _ _
  · exact hands_quiet _

theorem hands_beginStep (st : DockStep) (s : State) : Act.Hands dockKinds (beginStep st s) := by
  unfold beginStep
  split
  · unfold startStep
    cases st with
    | identify => dsimp only; split <;> [exact hands_dockFault _ _ _; exact hands_dockMove _ _]
    | power => dsimp only; split <;> [exact hands_dockFault _ _ _; exact hands_dockMove _ _]
    | wake => dsimp only; split <;> [exact hands_dockFault _ _ _; exact hands_dockMove _ _]
    | quiesce => exact hands_quiet _
    | release => exact hands_quiet _
    | recover => exact hands_quiet _
  · exact hands_quiet _

theorem hands_beginRecovery (s : State) : Act.Hands dockKinds (beginRecovery s) := by
  unfold beginRecovery
  split
  · refine Act.Hands.andThen (Act.Hands.andThen (hands_dockMove _ _) ?_) (hands_reportDock _ _ _ _ _)
    simp only [Act.Hands, emit]
    split <;> simp [Signal.kind, dockReport]
  · exact hands_quiet _

theorem hands_dockAuto (t : WalkTarget) (o : Origin) (s : State) : Act.Hands [.walkNext] (dockAuto t o s).2 := by
  unfold dockAuto
  repeat' split
  all_goals simp [Act.Hands, quiet, startWalk, Signal.kind]

theorem hands_powerRequest (q : PowerReq) (s : State) : Act.Hands [.walkNext] (powerRequest q s) := by
  unfold powerRequest
  split
  · exact hands_quiet _
  · exact hands_dockAuto _ _ _

theorem hands_servePower (s : State) : Act.Hands [.walkNext] (servePower s) := by
  unfold servePower
  split
  · split
    · exact hands_quiet _
    · exact hands_dockAuto _ _ _
  · exact hands_quiet _

theorem hands_walkNext (s : State) : Act.Hands [Kind.dlcBegin] (walkNext s) := by
  unfold walkNext
  repeat' split
  all_goals simp [Act.Hands, quiet, Signal.kind]

theorem hands_openDue (s : State) : Act.Hands L (openDue s) := by
  unfold openDue
  repeat' split
  all_goals exact hands_quiet _

theorem hands_grantApplied (c : Bool) (s : State) : Act.Hands L (grantApplied c s) := by
  unfold grantApplied
  dsimp only
  split <;> exact hands_quiet _

/-! ### Power states -/

theorem hands_enterStandby (d : Bool) (s : State) : Act.Hands standbyKinds (enterStandby d s) := by
  refine Act.Hands.andThen (Act.Hands.andThen ?_ ((hands_sbuPowerChange _).mono (by simp))) ?_
  · simp [Act.Hands, Signal.kind, powerReport]
  · simp only [Act.Hands, emitWith]
    split <;> simp [Signal.kind]

theorem hands_standbyDue (s : State) : Act.Hands standbyKinds (standbyDue s) := by
  unfold standbyDue
  split
  · exact hands_quiet _
  · exact hands_enterStandby _ _

theorem hands_standbyRecheck (s : State) : Act.Hands standbyKinds (standbyRecheck s) := by
  unfold standbyRecheck
  split_ifs
  · exact hands_standbyDue _
  all_goals exact hands_quiet _

theorem hands_deferredRecheck (s : State) : Act.Hands standbyKinds (deferredRecheck s) := by
  unfold deferredRecheck
  split
  · exact hands_enterStandby _ _
  · exact hands_quiet _

theorem followPower_kinds (q : PowerReq) (s : State) : ∀ g ∈ followPower q s, g.kind = Kind.dlcPowerReq := by
  unfold followPower
  split <;> simp [Signal.kind]

theorem hands_enterDoze (s : State) : Act.Hands [Kind.report, Kind.dlcPowerReq, .pscRecheck] (enterDoze s) := by
  refine Act.Hands.andThen (Act.Hands.andThen ?_ ((hands_sbuPowerChange _).mono (by simp))) ?_
  · simp [Act.Hands, Signal.kind, powerReport]
  · intro g hg
    rcases List.mem_append.mp hg with h | h
    · rw [followPower_kinds _ _ g h]; simp
    · rw [List.mem_singleton.mp h]; simp [Signal.kind]

theorem hands_startDoze (s : State) : Act.Hands [Kind.report, Kind.dlcPowerReq, .pscRecheck] (startDoze s) := by
  unfold startDoze
  split
  · exact hands_enterDoze s
  · exact hands_quiet _

theorem hands_dozeCheck (s : State) : Act.Hands [Kind.report, Kind.dlcPowerReq, .pscRecheck] (dozeCheck s) := by
  unfold dozeCheck
  split
  · exact hands_startDoze s
  · exact hands_quiet _

theorem hands_enterRunFromDoze (s : State) :
    Act.Hands [Kind.report, Kind.oruCommit, Kind.dlcPowerReq, .pscDozeCheck] (enterRunFromDoze s) := by
  refine Act.Hands.andThen (Act.Hands.andThen (Act.Hands.andThen ?_ ((hands_orientResume _).mono (by simp)))
    ((hands_sbuPowerChange _).mono (by simp))) ?_
  · simp [Act.Hands, Signal.kind, powerReport]
  · intro g hg
    rcases List.mem_append.mp hg with h | h
    · rw [followPower_kinds _ _ g h]; simp
    · rw [List.mem_singleton.mp h]; simp [Signal.kind]

theorem hands_hostChanged (old new : HostState) (s : State) :
    Act.Hands ([Kind.dlcPowerReq, .pscRecheck, Kind.oruCommit, .pscDozeCheck] ++ standbyKinds) (hostChanged old new s) := by
  unfold hostChanged
  split
  · split_ifs
    · exact hands_quiet _
    · exact (hands_startDoze s).mono (by simp)
    · exact hands_quiet _
  · split
    · exact (hands_standbyRecheck s).mono (by simp)
    · exact (hands_enterRunFromDoze s).mono (by simp)
  · split <;> exact hands_quiet _
  · exact hands_quiet _

theorem hands_wakeEvent (src : PowerSource) (s : State) : Act.Hands L (wakeEvent src s) := by
  unfold wakeEvent enterSettle
  repeat' split
  all_goals exact hands_quiet _

theorem hands_levelConditions (s : State) : Act.Hands [Kind.pscWake] (levelConditions s) := by
  intro g hg
  obtain ⟨i, -, rfl⟩ := List.mem_map.mp hg
  exact List.mem_singleton.mpr rfl

/-! ### Commands -/

/-- A debounced change hands on these. -/
abbrev switchKinds : List Signal :=
  [Kind.report, .hauHall, Kind.dlcPresence, Kind.pccGarage, Kind.spuEval, Kind.pscWake]

theorem deliverSwitch_kinds (i : Input) (a : Bool) : ∀ g ∈ deliverSwitch i a, g.kind ∈ switchKinds := by
  cases i <;> simp [deliverSwitch, Signal.kind]

theorem switchWake_kinds (i : Input) (a : Bool) (s : State) : ∀ g ∈ switchWake i a s, g.kind ∈ switchKinds := by
  unfold switchWake
  split_ifs <;> simp [Signal.kind]

theorem hands_debouncedChange (i : Input) (s : State) : Act.Hands switchKinds (debouncedChange i s) := by
  unfold debouncedChange
  dsimp only
  split
  · exact hands_quiet _
  · intro g hg
    rcases List.mem_append.mp hg with hg | hg
    · rcases List.mem_append.mp hg with hg | hg
      · split at hg
        · rw [List.mem_singleton.mp hg]; simp [Signal.kind, switchReport]
        · exact nomatch hg
      · exact deliverSwitch_kinds i _ g hg
    · exact switchWake_kinds i _ _ g hg

theorem hands_rejudgeRaw (i : Input) (s : State) : Act.Hands switchKinds (rejudgeRaw i s) := by
  unfold rejudgeRaw
  dsimp only
  split
  · exact hands_quiet _
  · split
    · exact hands_debouncedChange i s
    · exact hands_quiet _

theorem hands_modeChanged (i : Input) (s : State) : Act.Hands [Kind.pscWake] (modeChanged i s) := by
  unfold modeChanged
  split <;> simp [Act.Hands, quiet, Signal.kind]

theorem hands_setParam (n : Nat) (v : Int) (s : State) : Act.Hands (Kind.holdCheck :: switchKinds) (setParam n v s) := by
  have hraw : ∀ (c : Bool) i s, Act.Hands (Kind.holdCheck :: switchKinds) (if c then rejudgeRaw i s else quiet s) := by
    intro c i s
    cases c
    · exact hands_quiet _
    · exact (hands_rejudgeRaw i s).mono fun k hk => List.mem_cons_of_mem _ hk
  have hmode : ∀ (c : Bool) i s, Act.Hands (Kind.holdCheck :: switchKinds) (if c then modeChanged i s else quiet s) := by
    intro c i s
    cases c
    · exact hands_quiet _
    · exact (hands_modeChanged i s).mono (by simp)
  have hpen : ∀ s, Act.Hands (Kind.holdCheck :: switchKinds) (budgetEvent (recompute true) s) :=
    fun s => (hands_sbuPowerChange s).mono (by simp)
  unfold setParam paramEffect
  dsimp only
  split
  iterate 4 exact hraw _ _ _
  iterate 4 exact hmode _ _ _
  · exact hands_quiet _
  · simp [Act.Hands, Signal.kind]
  iterate 4 exact hpen _
  · exact hands_quiet _

theorem hands_flushHold (keep : HoldFrame → Bool) (s : State) : Act.Hands [Kind.holdCheck] (flushHold keep s) := by
  simp [Act.Hands, flushHold, Signal.kind]

theorem hands_storeMap (m : AreaMap) (s : State) :
    Act.Hands [Kind.holdCheck, .reportRemoved, .spaceEvent] (storeMap m s) := by
  simp only [Act.Hands, storeMap]
  split_ifs <;> simp [Signal.kind]

theorem hands_areaMapCommand (w : List Nat) (s : State) :
    Act.Hands [Kind.holdCheck, .reportRemoved, .spaceEvent] (areaMapCommand w s).2.2 := by
  unfold areaMapCommand
  dsimp only
  split_ifs
  · exact hands_quiet _
  · exact hands_quiet _
  · exact hands_storeMap _ _
  · exact hands_storeMap _ _

theorem hands_areaClearCommand (c : Nat) (s : State) :
    Act.Hands [Kind.holdCheck, .reportRemoved, .spaceEvent] (areaClearCommand c s).2 := by
  unfold areaClearCommand
  split
  · unfold clearArea
    split
    · simp [Act.Hands, Signal.kind]
    · exact (hands_flushHold _ _).mono (by simp)
    · simp only [Act.Hands]; split <;> simp [Signal.kind]
    · exact hands_quiet _
    · exact hands_quiet _
  · exact hands_quiet _

theorem hands_rotationLock (on : Bool) (s : State) : Act.Hands [Kind.oruCommit] (rotationLock on s) := by
  unfold rotationLock
  dsimp only
  repeat' split
  all_goals simp [Act.Hands, quiet, Signal.kind]

theorem hands_chargeStart (s : State) : Act.Hands [Kind.report, .pscDeferred] (chargeStart s).2 := by
  unfold chargeStart
  split
  · exact hands_quiet _
  · exact hands_enterPhase _ _ _ _
  · exact hands_enterPhase _ _ _ _
  all_goals exact hands_quiet _

theorem hands_chargeStop (s : State) : Act.Hands [Kind.report, .pscDeferred] (chargeStop s).2 := by
  have hstop : ∀ s, Act.Hands [Kind.report, .pscDeferred] ((handCurrent false 0 s).andThen fun s =>
      (s, [.pscDeferred, chargeReport .stopped s.pcc 0])) :=
    fun s => ((hands_handCurrent _ _ _).mono (by simp)).andThen (by simp [Act.Hands, Signal.kind, chargeReport])
  unfold chargeStop
  split
  · exact hands_quiet _
  · exact hands_quiet _
  all_goals exact hstop _

theorem hands_storeProfile (p : Profile) (s : State) : Act.Hands [Kind.report] (storeProfile p s) := by
  unfold storeProfile
  dsimp only
  split
  · exact hands_quiet _
  · exact hands_handCurrent _ _ _

theorem hands_writeTable (pl : Bool) (t i : Nat) (e : List Byte) (s : State) :
    Act.Hands [.pclEval, Kind.spuEval, Kind.report] (writeTable pl t i e s).2 := by
  unfold writeTable
  split
  · unfold writePosture; dsimp only; split <;> simp [Act.Hands, quiet, Signal.kind]
  · unfold writeGateDir; repeat' split
    all_goals exact hands_quiet _
  · unfold writeGateEntry; repeat' split
    all_goals exact hands_quiet _
  · unfold writeSleepRule; repeat' split
    all_goals simp [Act.Hands, quiet, Signal.kind]
  · unfold writeProfile
    dsimp only
    split_ifs
    · exact hands_quiet _
    · exact (hands_storeProfile _ _).mono (by simp)
    · exact hands_quiet _
  · exact hands_quiet _

theorem hands_moveHost (h : HostState) (s : State) : Act.Hands hostKinds (moveHost h s) := by
  unfold moveHost
  split
  · exact hands_quiet _
  · exact hostSignals_kinds _ _

theorem hands_hostStateCommand (v : Nat) (s : State) : Act.Hands hostKinds (hostStateCommand v s).2 := by
  unfold hostStateCommand
  split
  · exact hands_quiet _
  · split
    · exact hands_moveHost _ _
    · exact hands_quiet _

theorem hands_dockStepResult (v : Nat) (s : State) :
    Act.Hands [Kind.dlcRelease, Kind.dlcBegin] (dockStepResult v s).act := by
  unfold dockStepResult plainResult dockStepCommand
  dsimp only
  split
  · split_ifs <;> simp [Act.Hands, quiet, Signal.kind]
  · exact hands_quiet _

theorem hands_dockAutoResult (v : Nat) (s : State) : Act.Hands [.walkNext] (dockAutoResult v s).act := by
  unfold dockAutoResult plainResult
  dsimp only
  split
  · exact hands_dockAuto _ _ _
  · exact hands_quiet _

theorem hands_readResult (f : Option (List Byte)) (s : State) : Act.Hands L (readResult f s).act := by
  unfold readResult
  split <;> exact hands_quiet _

/-- What a command that has passed the tests hands on before its reply. -/
theorem hands_runCommand (pl : Bool) (q : Nat) (t : Stamp) (p : List Byte) (s : State) :
    Act.Hands commandKinds (runCommand pl q t p s).act := by
  unfold runCommand
  dsimp only
  split
  · exact hands_quiet _
  · exact (hands_writeTable _ _ _ _ _).mono (by simp)
  · exact hands_readResult _ _
  · unfold plainResult hitsClear; dsimp only; split <;> exact hands_quiet _
  · unfold configSetResult
    dsimp only
    split
    · exact (hands_setParam _ _ _).mono (by simp)
    · exact hands_quiet _
  · exact hands_readResult _ _
  · exact hands_readResult _ _
  · exact hands_quiet _
  · exact (hands_dockStepResult _ _).mono (by simp)
  · exact (hands_dockAutoResult _ _).mono (by simp)
  · unfold plainResult passdownCommand; dsimp only; repeat' split
    all_goals exact hands_quiet _
  · simp [Act.Hands, plainResult, gateRescan, startHead, Signal.kind]
  · exact (hands_flushHold _ _).mono (by simp)
  · unfold rotationLockResult plainResult
    dsimp only
    split
    · exact (hands_rotationLock _ _).mono (by simp)
    · exact hands_quiet _
  · unfold chargeControlResult plainResult
    dsimp only
    split
    · exact (hands_chargeStart _).mono (by simp)
    · exact (hands_chargeStop _).mono (by simp)
    · exact hands_quiet _
  · exact (hands_hostStateCommand _ _).mono (by simp)
  · unfold plainResult policyUnlock; dsimp only; split <;> exact hands_quiet _
  · unfold plainResult forceModeCommand; dsimp only; repeat' split
    all_goals exact hands_quiet _
  · exact (hands_areaMapCommand _ _).mono (by simp)
  · exact (hands_areaClearCommand _ _).mono (by simp)
  · exact hands_readResult _ _
  · unfold accessSetResult; split_ifs <;> exact hands_quiet _
  · exact hands_quiet _
  · unfold partResetResult; split <;> exact hands_quiet _

theorem runCommand_post (pl : Bool) (q : Nat) (t : Stamp) (p : List Byte) (s : State) :
    (runCommand pl q t p s).post = [] ∨ (runCommand pl q t p s).post = [.pccLimit] := by
  have hread : ∀ f s, (readResult f s).post = [] := by intro f s; unfold readResult; split <;> rfl
  unfold runCommand
  dsimp only
  split
  case h_2 => unfold tableWriteResult; dsimp only; split <;> simp
  case h_3 => exact .inl (hread _ _)
  case h_5 => unfold configSetResult; dsimp only; split <;> exact .inl rfl
  case h_6 => exact .inl (hread _ _)
  case h_7 => exact .inl (hread _ _)
  case h_21 => exact .inl (hread _ _)
  case h_22 => unfold accessSetResult; dsimp only; split_ifs <;> exact .inl rfl
  case h_24 => unfold partResetResult; split <;> exact .inl rfl
  all_goals exact .inl rfl

theorem hands_executeFrame (f : RxFrame) (s : State) : Act.Hands commandKinds (executeFrame f s) := by
  have hact : Act.Hands commandKinds (commandResult f { s with ulp := { s.ulp with executing := true } }).act := by
    unfold commandResult
    split
    · exact hands_quiet _
    · exact hands_runCommand _ _ _ _ _
  have hpost : ∀ g ∈ (commandResult f { s with ulp := { s.ulp with executing := true } }).post,
      g.kind ∈ commandKinds := by
    unfold commandResult
    split
    · exact fun g hg => nomatch hg
    · rcases runCommand_post (channelOf f.ct == 0) f.seq f.time f.payload
        (if commandCode f.payload = 18 then { s with ulp := { s.ulp with executing := true } }
          else State.closeUnlock { s with ulp := { s.ulp with executing := true } }) with h | h <;> rw [h] <;>
        simp [Signal.kind]
  intro g hg
  simp only [executeFrame, List.mem_append, List.mem_singleton] at hg
  rcases hg with ((hg | rfl) | hg) | rfl
  · exact hact g hg
  · simp [Signal.kind]
  · exact hpost g hg
  · simp [Signal.kind]

theorem hands_serveQueue (s : State) : Act.Hands commandKinds (serveQueue s) := by
  unfold serveQueue
  repeat' split
  all_goals first | exact hands_executeFrame _ _ | exact hands_quiet _ | simp [Act.Hands, Signal.kind]

/-- The kinds that a handover hands on. -/
theorem handle_follows (g : Signal) (s : State) : Act.Hands g.follows (handle g s) := by
  cases g
  case report k f =>
    refine (hands_composeReport k f s).mono ?_
    by_cases hk : k = .forceCut <;> simp [hk, Signal.follows]
  case reportRemoved => exact hands_offerOverflow s
  case spaceEvent => exact hands_spaceEvent s
  case arbiter => exact hands_arbiterChoice s
  case received => exact hands_receiveFrame _ _ s
  case serve => exact hands_serveQueue s
  case reply => exact hands_placeReply _ _
  case holdBegin => simp [Act.Hands, handle, beginHold, Signal.follows, Signal.kind]
  case holdEnd => simp [Act.Hands, handle, endHold, Signal.follows, Signal.kind]
  case hauHall => exact hands_hallChange s
  case oruEval => exact hands_orientEvaluate s
  case oruCommit => exact hands_orientCommit _ s
  case hinge => exact hands_hingeAtSample s
  case mirror => exact hands_mirrorSample s
  case pclEval => exact hands_postureEvaluate s
  case pclCommit => exact hands_postureCommit s
  case igtCommit => exact hands_gateCommit _ s
  case spuEval => exact hands_spuEvaluate _ s
  case wakeRequest => exact hands_wakeRequest _ s
  case spuAction => exact hands_spuAction s
  case cutAssert => exact hands_cutAssert s
  case dockLevel => exact hands_dockRequest _ s
  case hauDock => exact hands_hauDockNotice _ s
  case pclDock => exact hands_pclDockNotice s
  case igtDeparture => simp [Act.Hands, handle, gateDeparture, Signal.follows, Signal.kind]
  case pscRecheck => exact hands_standbyRecheck s
  case grantApplied => exact hands_grantApplied _ s
  case dlcPresence => exact hands_dlcPresence _ s
  case dlcRevoked => exact hands_dockRevoked s
  case dlcRelease => exact hands_dockRelease _ s
  case dlcPowerReq => exact hands_powerRequest _ s
  case dlcBegin => exact hands_beginStep _ s
  case walkNext => exact hands_walkNext s
  case servePower => exact hands_servePower s
  case openDue => exact hands_openDue s
  case dlcRecover => exact hands_beginRecovery s
  case pccGarage a =>
    cases a
    · exact (hands_penRemoved s).mono (by simp [Signal.follows])
    · exact hands_penInserted s
  case pccLimit => exact hands_limitAfterWrite s
  case headStep => exact hands_headStep s
  case gateRoute => exact hands_gateRoute _ s
  case headAdmit => exact hands_headAdmit s
  case holdCheck => exact hands_holdCheck _ s
  case pscHost => exact hands_hostChanged _ _ s
  case pscDeferred => exact hands_deferredRecheck s
  case pscWake => exact hands_wakeEvent _ s
  case pscLevels => exact hands_levelConditions s
  case pscDozeCheck => exact hands_dozeCheck s

end

end Sys2Proof.Machine
end

section
/-! SUPPORT. What the events hand on, by kinds; while no command waits, none is received. -/

namespace Sys2Proof.Machine

open Sys2Proof

/-- An arrival at the gate hands on these. -/
abbrev gateKinds : List Signal := [Kind.report, Kind.wakeRequest, Kind.gateRoute, .arbiter, Kind.holdCheck]

/-- The close of a slot hands on these. -/
abbrev slotKinds : List Signal := [Kind.dlcBegin, .openDue, .dlcRecover] ++ gateKinds ++ dockKinds

section
variable {L : List Signal}

/-! ### The gate -/

theorem hands_judgeArrival (b : HoldBody) (s : State) : Act.Hands gateKinds (judgeArrival b s) := by
  have hj : Act.Hands gateKinds (judge b s).2 := (hands_judge b s).mono (by simp)
  unfold judgeArrival
  dsimp only
  split
  · exact hj.andThen (by simp [Act.Hands, emit, Signal.kind])
  all_goals exact hj.andThen ((hands_routeJudged _ b _).mono (by simp))

theorem hands_releaseArrival (c : Nat) (s : State) : Act.Hands gateKinds (releaseArrival c s) := by
  have ha : ∀ b d, Act.Hands gateKinds (appendHold b d s) := fun b d => (hands_appendHold b d s).mono (by simp)
  unfold releaseArrival
  split
  · exact ha _ _
  · split_ifs
    · exact hands_quiet _
    · exact ha _ _
    · simp [Act.Hands, Signal.kind]
    · exact hands_quiet _
    · exact hands_quiet _

theorem hands_gateArrival (a : Answer) (s : State) : Act.Hands gateKinds (gateArrival a s) := by
  cases a with
  | key c up =>
    cases up with
    | true => exact hands_releaseArrival c s
    | false =>
      change Act.Hands gateKinds (pressArrival c s)
      unfold pressArrival
      split_ifs
      · exact hands_quiet _
      · simp [Act.Hands, Signal.kind, rolloverReport]
      · exact hands_judgeArrival _ s
  | point bs => exact hands_judgeArrival _ s
  | ident _ => exact hands_quiet _
  | tilt _ _ _ => exact hands_quiet _
  | stat _ _ => exact hands_quiet _
  | nil => exact hands_quiet _

/-! ### The Dock Link -/

theorem hands_routeAnswer (a : Answer) (s : State) : Act.Hands gateKinds (routeAnswer gateArrival a s) := by
  unfold routeAnswer
  split
  · split
    · exact hands_gateArrival _ s
    · exact hands_quiet _
  · split
    · exact hands_gateArrival _ s
    · exact hands_quiet _
  all_goals exact hands_quiet _

theorem slotKinds_of_dock {a : Act} (h : a.Hands dockKinds) : a.Hands slotKinds :=
  h.mono fun k hk => List.mem_append_right _ hk

theorem hands_dockSettled (s : State) : Act.Hands dockKinds (dockSettled s) :=
  ((hands_dockMove _ _).andThen (hands_reportDock _ _ _ _ _)).andThen (by simp [Act.Hands, emit, Signal.kind])

theorem hands_stepDone (st : DockStep) (d : Dlc) (o : Option Origin) (s : State) :
    Act.Hands dockKinds (stepDone st d o s) :=
  ((hands_dockMove _ _).andThen (hands_reportDock _ _ _ _ _)).andThen (hands_stepEnd _)

theorem hands_recovered (i : Ident) (s : State) : Act.Hands slotKinds (recovered i s) := by
  have hbase : ∀ g b t, Act.Hands slotKinds (t, [baseReport g (.keyboard i), .hauDock b]) := by
    simp [Act.Hands, Signal.kind, baseReport]
  unfold recovered
  extract_lets same t a
  split_ifs
  · exact (hbase _ _ _).andThen (slotKinds_of_dock (hands_dockFault _ _ _))
  · exact (((hbase _ _ _).andThen (slotKinds_of_dock (hands_dockMove _ _))).andThen
      (slotKinds_of_dock (hands_reportDock _ _ _ _ _))).andThen (by simp [Act.Hands, emit, stepEnd, Signal.kind])
  · exact ((hbase _ _ _).andThen (slotKinds_of_dock (hands_reportDock _ _ _ _ _))).andThen
      (by simp [Act.Hands, emit, Signal.kind])

theorem hands_identified (i : Ident) (s : State) : Act.Hands slotKinds (identified i s) :=
  Act.Hands.andThen (by simp [Act.Hands, Signal.kind, baseReport]) (slotKinds_of_dock (hands_stepDone _ _ _ _))

theorem hands_identificationFailed (s : State) : Act.Hands slotKinds (identificationFailed s) := by
  unfold identificationFailed
  split
  · exact Act.Hands.andThen (by simp [Act.Hands, Signal.kind, baseReport]) (slotKinds_of_dock (hands_stepDone _ _ _ _))
  · exact slotKinds_of_dock (hands_dockFault _ _ _)

theorem hands_identClose (a : Option Answer) (o : Outcome) (s : State) : Act.Hands slotKinds (identClose a o s) := by
  unfold identClose
  extract_lets d s₁ o' s₂
  split
  · split
    · exact hands_recovered _ _
    · exact hands_identified _ _
  · split_ifs
    · simp [Act.Hands, Signal.kind]
    · exact slotKinds_of_dock (hands_dockFault _ _ _)
    · exact hands_identificationFailed _

theorem hands_statTests (f : Byte) (ma : Nat) {k : State → Act} (hk : ∀ s, Act.Hands slotKinds (k s)) (s : State) :
    Act.Hands slotKinds (statTests f ma k s) := by
  unfold statTests
  dsimp only
  split_ifs
  · exact slotKinds_of_dock (hands_dockFault _ _ _)
  · exact slotKinds_of_dock (hands_dockFault _ _ _)
  · exact hk _

theorem slotKinds_of_route (a : Answer) (s : State) : Act.Hands slotKinds (routeAnswer gateArrival a s) :=
  (hands_routeAnswer a s).mono fun _ hk => List.mem_append_left _ (List.mem_append_right _ hk)

theorem hands_openDueEmit (s : State) : Act.Hands slotKinds (emit [.openDue] s) := by
  simp [Act.Hands, emit, Signal.kind]

theorem hands_runClose (a : Option Answer) (s : State) : Act.Hands slotKinds (runClose gateArrival a s) := by
  have hready : ∀ s, Act.Hands slotKinds (readyReached s) := by
    intro s
    unfold readyReached
    split
    · exact slotKinds_of_dock (hands_stepDone _ _ _ _)
    · exact hands_quiet _
  unfold runClose
  refine Act.Hands.andThen ?_ (hands_openDueEmit _)
  split
  · refine hands_statTests _ _ (fun s => ?_) s
    split
    · exact hready s
    · exact hands_quiet _
  · exact slotKinds_of_route _ s
  · exact hands_quiet _

theorem hands_quiesceClose (a : Option Answer) (s : State) : Act.Hands slotKinds (quiesceClose gateArrival a s) := by
  have hfail : ∀ s, Act.Hands slotKinds (quiesceFailed gateArrival a s) := by
    intro s
    unfold quiesceFailed
    dsimp only
    refine Act.Hands.andThen ?_ (by simp [Act.Hands, emit, stepEnd, Signal.kind])
    split
    · exact (slotKinds_of_dock (hands_reportDock _ _ _ _ _)).andThen (slotKinds_of_route _ _)
    · exact slotKinds_of_dock (hands_reportDock _ _ _ _ _)
  unfold quiesceClose
  split
  · refine hands_statTests _ _ (fun s => ?_) s
    split
    · exact (slotKinds_of_dock (hands_stepDone _ _ _ _)).andThen (hands_openDueEmit _)
    · exact hfail s
  · exact hfail s

theorem hands_pollClose (a : Option Answer) (s : State) : Act.Hands slotKinds (pollClose gateArrival a s) := by
  unfold pollClose
  dsimp only
  split
  · refine Act.Hands.andThen ?_ (hands_openDueEmit _)
    split
    · exact hands_statTests _ _ (fun s => hands_quiet s) _
    · exact slotKinds_of_route _ _
  · split_ifs
    · simp [Act.Hands, Signal.kind]
    · simp [Act.Hands, Signal.kind]
    · exact slotKinds_of_dock (hands_dockFault _ _ _)

theorem hands_closeSlot (a : Option Answer) (o : Outcome) (s : State) :
    Act.Hands slotKinds (closeSlot gateArrival a o s) := by
  unfold closeSlot
  dsimp only
  split
  · exact hands_quiet _
  · split
    · exact hands_identClose _ _ _
    · exact hands_runClose _ _
    · exact hands_runClose _ _
    · split
      · exact hands_quiesceClose _ _
      · exact hands_pollClose _ _
    · exact hands_pollClose _ _
    all_goals exact hands_quiet _

/-! ### Readings -/

theorem hands_recompute (told : Bool) (s : State) : Act.Hands [Kind.report, Kind.grantApplied] (recompute told s) :=
  (hands_applyPen _ _ _).mono (by simp)

theorem hands_takeRail (mv : Int) (s : State) : Act.Hands [Kind.report, Kind.grantApplied] (takeRail mv s) := by
  refine Act.Hands.budgetEvent ?_ (by simp)
  unfold moveRail
  dsimp only
  split
  · refine Act.Hands.andThen ?_ (hands_recompute _ _)
    split
    · exact hands_applyRequest _
    · exact hands_quiet _
  · exact hands_quiet _

theorem hands_takeTemperature (t : Int) (s : State) : Act.Hands [Kind.report, Kind.spuEval] (takeTemperature t s) := by
  unfold takeTemperature
  dsimp only
  refine Act.Hands.andThen ?_ (by simp [Act.Hands, Signal.kind])
  split
  · exact (hands_sbuPowerChange _).mono (by simp)
  · exact hands_quiet _

theorem hands_revokeGrant (s : State) : Act.Hands [Kind.report, .dlcRevoked] (budgetEvent revokeGrant s) := by
  refine Act.Hands.budgetEvent ?_ (by simp)
  exact ((hands_applyPen _ _ _).mono (by simp)).andThen (by simp [Act.Hands, Signal.kind])

theorem hands_pendingGrantApply (s : State) : Act.Hands [Kind.report, Kind.grantApplied] (pendingGrantApply s) := by
  unfold pendingGrantApply
  split
  · exact (hands_applyRequest s).budgetEvent (by simp)
  · exact hands_quiet _

theorem hands_takeMeasurement (mv ma : Int) (s : State) : Act.Hands [Kind.report, .pscDeferred] (takeMeasurement mv ma s) := by
  unfold takeMeasurement
  dsimp only
  split
  · exact hands_enterPhase _ _ _ _
  · split
    · exact hands_enterPhase _ _ _ _
    · exact hands_quiet _

/-! ### Sleep policy -/

theorem hands_wakeFailed (s : State) : Act.Hands (Kind.report :: hostKinds) (wakeFailed s) := by
  unfold wakeFailed
  split
  · intro x hx
    rcases List.mem_cons.mp hx with rfl | hx
    · exact List.mem_cons_self
    · exact List.mem_cons_of_mem _ (hostSignals_kinds _ _ x hx)
  · exact hands_quiet _

theorem hands_complianceDue (s : State) : Act.Hands (Kind.forceCut :: Kind.report :: hostKinds) (complianceDue s) := by
  unfold complianceDue
  split_ifs
  · intro x hx
    rcases List.mem_cons.mp hx with rfl | hx
    · exact List.mem_cons_self
    · exact List.mem_cons_of_mem _ (List.mem_cons_of_mem _ (hostSignals_kinds _ _ x hx))
  · simp [Act.Hands, overdue, sleepOverdueReport, Signal.kind]
  · exact hands_quiet _

theorem hands_servePendingWake (s : State) : Act.Hands (Kind.report :: hostKinds) (servePendingWake s) := by
  unfold servePendingWake
  split
  · split
    · exact hands_wakeRequest _ _
    · exact hands_quiet _
  · exact hands_quiet _

/-! ### RUN from SETTLE -/

/-- RUN from SETTLE hands on these. -/
abbrev settleKinds : List Signal :=
  [Kind.report, .pclCommit, Kind.grantApplied, Kind.spuEval, .pscDeferred, .walkNext, Kind.dlcPowerReq, .pscDozeCheck]

theorem hands_hauRestart (s : State) : Act.Hands [Kind.report] (hauRestart s) := by
  unfold hauRestart
  dsimp only
  split
  · exact hands_quiet _
  · simp [Act.Hands, Signal.kind, angleReport]

theorem hands_orientRestart (s : State) : Act.Hands [Kind.report] (orientRestart s) := by
  unfold orientRestart
  simp only [Act.Hands]
  split <;> simp [Signal.kind, orientReport]

theorem hands_startPostureDwell (s : State) : Act.Hands [.pclCommit] (startPostureDwell s) := by
  unfold startPostureDwell
  split <;> simp [Act.Hands, quiet, Signal.kind]

theorem hands_pclRestart (s : State) : Act.Hands [.pclCommit] (pclRestart s) := by
  unfold pclRestart
  extract_lets t a
  split
  · exact hands_startPostureDwell _
  · exact hands_postureChoose _

theorem hands_pccRestart (mv ma : Int) (s : State) : Act.Hands [Kind.report, .pscDeferred] (pccRestart mv ma s) := by
  unfold pccRestart
  split
  · exact hands_takeMeasurement _ _ _
  · exact hands_quiet _

theorem hands_sbuRestart (rail temp : Int) (s : State) :
    Act.Hands [Kind.report, Kind.grantApplied, Kind.spuEval] (sbuRestart rail temp s) :=
  (((hands_sbuPowerChange s).mono (by simp)).andThen ((hands_takeRail _ _).mono (by simp))).andThen
    ((hands_takeTemperature _ _).mono (by simp))

theorem hands_enterRunFromSettle (w : WakeSense) (s : State) : Act.Hands settleKinds (enterRunFromSettle w s) := by
  unfold enterRunFromSettle
  refine Act.Hands.andThen (Act.Hands.andThen (Act.Hands.andThen (Act.Hands.andThen (Act.Hands.andThen
    (Act.Hands.andThen (Act.Hands.andThen ?_ ((hands_hauRestart _).mono (by simp))) ((hands_orientRestart _).mono (by simp)))
    ((hands_pclRestart _).mono (by simp))) (hands_quiet _)) ((hands_sbuRestart _ _ _).mono (by simp)))
    ((hands_pccRestart _ _ _).mono (by simp))) ?_
  · simp [Act.Hands, Signal.kind, powerReport]
  · intro g hg
    simp only [emitWith, List.mem_append, List.mem_cons, List.mem_singleton] at hg
    rcases hg with (rfl | hg) | hg
    · simp [Signal.kind]
    · rw [followPower_kinds _ _ g hg]; simp
    · rcases hg with rfl | hg
      · simp [Signal.kind]
      · exact nomatch hg

theorem hands_transmitEnd (s : State) : Act.Hands [.cutAssert, .arbiter] (transmitEnd s) := by
  unfold transmitEnd
  dsimp only
  split
  · simp [Act.Hands, Signal.kind]
  · split
    · exact hands_quiet _
    · simp only [Act.Hands]
      split <;> simp [Signal.kind]

/-! ### Every event -/

/-- Every kind but the reception of a command. -/
abbrev eventKinds : List Signal :=
  [Kind.report, Kind.forceCut, .reportRemoved, .spaceEvent, .arbiter, .serve, Kind.reply, .holdBegin, .holdEnd, .hauHall,
    .oruEval, Kind.oruCommit, .hinge, .mirror, .pclEval, .pclCommit, Kind.igtCommit, Kind.spuEval, Kind.wakeRequest,
    .spuAction, .cutAssert, Kind.dockLevel, Kind.hauDock, .pclDock, .igtDeparture, .pscRecheck, Kind.grantApplied,
    Kind.dlcPresence, .dlcRevoked, Kind.dlcRelease, Kind.dlcPowerReq, Kind.dlcBegin, .walkNext, .servePower, .openDue,
    .dlcRecover, Kind.pccGarage, .pccLimit, .headStep, Kind.gateRoute, .headAdmit, Kind.holdCheck, Kind.pscHost,
    .pscDeferred, Kind.pscWake, .pscLevels, .pscDozeCheck]

/-- An event hands on no reception of a command. -/
theorem hands_core {c : Instr} (hc : isPlainEvent c = true) (s : State) : Act.Hands eventKinds (c.core s) := by
  cases c
  case rawChange i b =>
    dsimp only [Instr.core]
    unfold rawChange
    dsimp only
    split
    · exact hands_quiet _
    · exact (hands_rejudgeRaw _ _).mono (by simp)
  case debounceExpiry i => exact (hands_debouncedChange i s).mono (by simp)
  case lidSampleEvent x y z => simp [Act.Hands, Instr.core, takeLidSample, Signal.kind]
  case orientDwellExpiry => exact (hands_orientCommit _ s).mono (by simp)
  case postureDwellExpiry => exact (hands_postureCommit s).mono (by simp)
  case restartHoldExpiry =>
    dsimp only [Instr.core]
    unfold endRestartHold
    dsimp only
    split
    · exact (hands_startPostureDwell _).mono (by simp)
    · exact hands_quiet _
  case settleTimerDockExpiry =>
    dsimp only [Instr.core]
    split
    · exact (hands_dockSettled s).mono (by simp)
    · exact hands_quiet _
  case pollPeriodExpiry => dsimp only [Instr.core]; split <;> exact hands_quiet _
  case identAttemptOpen => dsimp only [Instr.core]; split <;> exact hands_quiet _
  case dockAnswer bytes => exact (hands_closeSlot _ _ s).mono (by decide)
  case answerStoppedShort => exact (hands_closeSlot _ _ s).mono (by decide)
  case answerWindowExpiry => exact (hands_closeSlot _ _ s).mono (by decide)
  case readyTimerExpiry => exact (hands_dockFault _ _ s).mono (by simp)
  case dockAttention =>
    dsimp only [Instr.core]
    unfold dockAttention
    split <;> simp [Act.Hands, quiet, Signal.kind]
  case walkStepResume => exact (hands_walkNext s).mono (by simp)
  case powerRequestServe => exact (hands_servePower s).mono (by simp)
  case pendingGrantApply => exact (hands_pendingGrantApply s).mono (by simp)
  case holdExpiry =>
    dsimp only [Instr.core]
    split
    · exact hands_quiet _
    · exact (hands_expireHead _ _ s).mono (by simp)
  case spaceEvent => exact (hands_spaceEvent s).mono (by simp)
  case idleTimerIncrement => dsimp only [Instr.core]; split <;> simp [Act.Hands, quiet, Signal.kind]
  case railReading mv => exact (hands_takeRail _ s).mono (by simp)
  case shedTimerExpiry => exact (hands_revokeGrant s).mono (by simp)
  case temperatureReading t => exact (hands_takeTemperature _ s).mono (by simp)
  case measurementEvent mv ma => exact (hands_takeMeasurement _ _ s).mono (by simp)
  case phaseLimitExpiry => exact (hands_enterPhase _ _ _ s).mono (by simp)
  case sleepDwellExpiry => exact (hands_spuAction s).mono (by simp)
  case wakeTimerExpiry => exact (hands_wakeFailed s).mono (by simp)
  case complianceExpiry => exact (hands_complianceDue s).mono (by simp)
  case cutWaitExpiry => exact (hands_cutAssert s).mono (by simp)
  case cutPulseExpiry => exact (hands_servePendingWake _).mono (by simp)
  case pendingWakeServe => exact (hands_servePendingWake s).mono (by simp)
  case unlockWindowTimeout => exact hands_quiet _
  case dozeTimerExpiry =>
    dsimp only [Instr.core]
    split
    · exact (hands_enterDoze s).mono (by simp)
    · exact hands_quiet _
  case standbyTimerExpiry =>
    dsimp only [Instr.core]
    split
    · exact (hands_standbyDue s).mono (by simp)
    · exact hands_quiet _
  case deferredStandbyEntry => exact (hands_deferredRecheck s).mono (by simp)
  case settleTimerExpiry w =>
    dsimp only [Instr.core]
    split
    · exact (hands_enterRunFromSettle w s).mono (by simp)
    · exact hands_quiet _
  case uplinkActivity =>
    dsimp only [Instr.core]
    unfold uplinkActivity
    split <;> simp [Act.Hands, quiet, Signal.kind]
  case frameTransmitEnd => exact (hands_transmitEnd s).mono (by simp)
  case overflowReport => exact (hands_offerOverflow s).mono (by simp)
  all_goals exact Bool.noConfusion hc

/-- No handover hands on the reception of a command. -/
theorem follows_events (g : Signal) : ∀ k ∈ g.follows, k ∈ eventKinds := by
  cases g <;> simp [Signal.follows]

end

/-! ### The queue -/

theorem arbiterChoice_queue (s : State) : (arbiterChoice s).1.ulp.queue = s.ulp.queue := by
  unfold arbiterChoice chooseHeld chooseArea sendReport sendInput
  dsimp only
  repeat' split
  all_goals rfl

theorem offerOverflow_queue (s : State) : (offerOverflow s).1.ulp.queue = s.ulp.queue := by
  unfold offerOverflow
  dsimp only
  split <;> rfl

theorem composeReport_queue (k : ReportKind) (f : List Byte) (s : State) :
    (composeReport k f s).1.ulp.queue = s.ulp.queue := by
  unfold composeReport
  split
  · refine Eq.trans ?_ (offerOverflow_queue s)
    rw [andThen_fst]
    unfold offerReport
    dsimp only
    split <;> rfl
  · rfl

theorem enterStandby_queue (d : Bool) (s : State) : (enterStandby d s).1.ulp.queue = s.ulp.queue := rfl

theorem standbyDue_queue (s : State) : (standbyDue s).1.ulp.queue = s.ulp.queue := by
  unfold standbyDue
  split
  · rfl
  · exact enterStandby_queue _ _

theorem standbyRecheck_queue (s : State) : (standbyRecheck s).1.ulp.queue = s.ulp.queue := by
  unfold standbyRecheck
  split_ifs
  · exact standbyDue_queue s
  all_goals rfl

/-- Nothing but the reception of a command fills the queue. -/
theorem handle_queue {g : Signal} (hg : g.kind ≠ Kind.received) {s : State} (h : s.ulp.queue = []) :
    (handle g s).1.ulp.queue = [] := by
  by_cases hb : g.blocks.contains .ulp = false
  · rw [(handle_blocks g s).ulp hb, h]
  cases g
  case report k f => exact (composeReport_queue k f s).trans h
  case reportRemoved => exact (offerOverflow_queue s).trans h
  case arbiter => exact (arbiterChoice_queue s).trans h
  case received => exact (hg rfl).elim
  case serve =>
    rcases serveQueue_cases s with he | ⟨r, rs, -, he⟩ | ⟨f, q, hfq, -⟩
    · rw [handle, he]; exact h
    · rw [handle, he]; exact h
    · rw [h] at hfq; exact nomatch hfq
  case reply r =>
    dsimp only [handle]
    unfold commandReply placeReply
    split <;> exact h
  case holdBegin => exact h
  case pscRecheck => exact (standbyRecheck_queue s).trans h
  case pscHost old new =>
    refine Eq.trans ?_ h
    dsimp only [handle]
    unfold hostChanged
    split
    · split_ifs
      · rfl
      · exact congrArg Ulp.queue ((startDoze_only s (T := [.oru, .sbu, .pcc, .psc]) rfl).ulp rfl)
      · rfl
    · split
      · exact standbyRecheck_queue s
      · exact congrArg Ulp.queue ((enterRunFromDoze_only s (T := [.oru, .sbu, .pcc, .psc]) rfl).ulp rfl)
    · split <;> rfl
    · rfl
  case pscDeferred =>
    refine Eq.trans ?_ h
    dsimp only [handle]
    unfold deferredRecheck
    split
    · exact enterStandby_queue _ _
    · rfl
  all_goals exact (hb rfl).elim

/-! ### What stands while no command waits -/

/-- While no command waits, a property that every handover keeps with an empty queue stands at the end of a cascade, and
so do the configuration and the empty queue. -/
theorem settle_idle (P : State → Prop)
    (hP : ∀ g s, g.kind ∈ eventKinds → s.ulp.queue = [] → P s → P (handle g s).1) {a : Act} (hl : a.Hands eventKinds)
    (hq : a.1.ulp.queue = []) (ha : P a.1) : P (settle a) ∧ (settle a).ulp.queue = [] := by
  refine settle_keeps (fun g => g.kind ∈ eventKinds) (fun s => P s ∧ s.ulp.queue = []) (fun g s hg hs => ⟨⟨?_, ?_⟩, ?_⟩) a hl
    ⟨ha, hq⟩
  · exact hP g s hg hs.2 hs.1
  · exact handle_queue (fun e => by rw [e] at hg; exact absurd hg (by decide)) hs.2
  · exact fun g' hg' => follows_events g _ (handle_follows g s g' hg')

theorem hitsKeep_true : HitsKeep fun _ => True := fun _ _ _ => trivial

theorem sameConfig_iff_keeps {s t : State} : s.Keeps (fun _ => True) t ↔ s.SameConfig t := and_iff_left trivial

/-- While no command waits, a cascade leaves the configuration, the switch inputs and the time. -/
theorem settle_sameConfig {s : State} {a : Act} (hl : a.Hands eventKinds) (hq : a.1.ulp.queue = [])
    (ha : s.SameConfig a.1) :
    s.SameConfig (settle a) ∧ (settle a).sib = a.1.sib ∧ (settle a).par = a.1.par ∧ (settle a).ms = a.1.ms ∧
      (settle a).ulp.queue = [] := by
  obtain ⟨⟨hc, ho⟩, hq'⟩ := settle_idle
    (fun t => s.Keeps (fun _ => True) t ∧ Only [.hau, .oru, .pcl, .dlc, .igt, .fbf, .sbu, .pcc, .spu, .psc, .ulp] a.1 t)
    (fun g t _ hq ht =>
      ⟨keeps_handle hitsKeep_true g (fun _ => hq) ht.1, ht.2.trans (handle_idle_only g t (fun _ => hq) rfl)⟩)
    hl hq ⟨sameConfig_iff_keeps.mpr ha, Only.refl _ _⟩
  exact ⟨sameConfig_iff_keeps.mp hc, ho.sib rfl, ho.par rfl, ho.ms rfl, hq'⟩

theorem State.SameConfig.elapse {s t : State} (h : s.SameConfig t) (d : Nat) : s.SameConfig (Machine.elapse d t) := h

theorem Sib.pass_pins (d : Nat) (b : Sib) : (b.pass d).pins = b.pins := rfl

theorem setInput_pins (b : Sib) (i : Input) {v : SwitchInput} (h : v.level = (b.input i).level) :
    (b.setInput i v).pins = b.pins := by
  cases i <;> simp only [Sib.setInput, Sib.pins, h] <;> rfl

theorem debouncedChange_pins (i : Input) (s : State) : (debouncedChange i s).1.sib.pins = s.sib.pins := by
  unfold debouncedChange
  dsimp only
  split <;> exact setInput_pins _ _ rfl

/-- No event but a raw change moves a pin. -/
theorem core_pins {c : Instr} (hc : isPlainEvent c = true) (hr : ∀ i b, c ≠ .rawChange i b) (s : State) :
    (c.core s).1.sib.pins = s.sib.pins := by
  by_cases hb : c.blocks.contains .sib = false
  · rw [(core_blocks c s).sib hb]
  cases c
  case rawChange i b => exact absurd rfl (hr i b)
  case debounceExpiry i => exact debouncedChange_pins i s
  all_goals first | exact Bool.noConfusion hc | exact (hb rfl).elim

/-- No event touches the queue. -/
theorem core_queue {c : Instr} (hc : isPlainEvent c = true) (s : State) : (c.core s).1.ulp.queue = s.ulp.queue := by
  by_cases hb : c.blocks.contains .ulp = false
  · rw [(core_blocks c s).ulp hb]
  cases c
  case standbyTimerExpiry =>
    dsimp only [Instr.core]
    split
    · exact standbyDue_queue s
    · rfl
  case deferredStandbyEntry =>
    dsimp only [Instr.core]
    unfold deferredRecheck
    split
    · exact enterStandby_queue _ _
    · rfl
  case settleTimerExpiry w =>
    dsimp only [Instr.core]
    split
    · rw [enterRunFromSettle_ulp]
    · rfl
  case frameTransmitEnd =>
    dsimp only [Instr.core]
    unfold transmitEnd
    repeat' split
    all_goals rfl
  case overflowReport => exact offerOverflow_queue s
  all_goals first | exact Bool.noConfusion hc | exact (hb rfl).elim

theorem isReset_of_plain {c : Instr} (hc : isPlainEvent c = true) : isReset c = false := by
  cases c <;> first | rfl | exact Bool.noConfusion hc

/-- Settles O14: the core effect keeps the configuration, and so does every handover while no command waits. -/
theorem eventsKeepConfiguration : Obligations.EventsKeepConfiguration := by
  intro c s hc hq
  rcases exec_cases c s with he | ⟨u, hu, he⟩
  · exact ⟨s, he, State.SameConfig.refl s, hq, fun _ => rfl⟩
  · have hsu : s.SameConfig u ∧ u.ulp = s.ulp ∧ u.sib.pins = s.sib.pins := by
      rcases hu with rfl | ⟨d, rfl⟩
      · exact ⟨State.SameConfig.refl _, rfl, rfl⟩
      · exact ⟨State.SameConfig.refl _, rfl, rfl⟩
    obtain ⟨hcfg, hulp, hpins⟩ := hsu
    have hcore := keeps_core hitsKeep_true c (isReset_of_plain hc) (sameConfig_iff_keeps.mpr hcfg)
    obtain ⟨h1, h2, -, -, h3⟩ := settle_sameConfig (hands_core hc u) (by rw [core_queue hc, hulp, hq])
      (sameConfig_iff_keeps.mp hcore)
    refine ⟨_, he.trans (finish_eq _), h1, h3, fun hr => ?_⟩
    rw [h2, core_pins hc hr, hpins]

end Sys2Proof.Machine
end

section
/-! SUPPORT. Cascades handover by handover: `Ends k l s Q` says that a cascade of at least `k` handovers ends with `Q`.
The traffic of the upstream line is stepped over as one: it moves only what waits for the line or is on it, and the
pending releases that find room. -/

namespace Sys2Proof.Machine

open Sys2Proof

/-- The handovers `l` on `s`, with a count of at least `k`, end in a state with `Q`. -/
def Ends (k : Nat) (l : List Signal) (s : State) (Q : State → Prop) : Prop := ∀ n, k ≤ n → Q (cascade n l s)

section
variable {k : Nat} {l : List Signal} {s : State} {Q R : State → Prop}

theorem Ends.nil (h : Q s) : Ends k [] s Q := fun n _ => by rw [cascade_nil]; exact h

/-- One handover runs. -/
theorem Ends.cons {g : Signal} (hg : g ≠ .holdBegin) (h : Ends k ((handle g s).2 ++ l) (handle g s).1 Q) :
    Ends (k + 1) (g :: l) s Q := by
  intro n hn
  rw [cascade_pos (by omega), schedule_of_ne hg]
  exact h _ (by omega)

theorem Ends.step {g : Signal} {t : State} {new : List Signal} (he : handle g s = (t, new)) (hg : g ≠ .holdBegin)
    (h : Ends k (new ++ l) t Q) : Ends (k + 1) (g :: l) s Q := by
  refine Ends.cons hg ?_
  rw [he]
  exact h

/-- A handover that does nothing. -/
theorem Ends.skip {g : Signal} (he : handle g s = quiet s) (hg : g ≠ .holdBegin) (h : Ends k l s Q) :
    Ends (k + 1) (g :: l) s Q := Ends.step he hg h

theorem Ends.mono (h : Ends k l s Q) (hQ : ∀ t, Q t → R t) : Ends k l s R := fun n hn => hQ _ (h n hn)

theorem Ends.and (h : Ends k l s Q) (h' : Ends k l s R) : Ends k l s fun t => Q t ∧ R t := fun n hn => ⟨h n hn, h' n hn⟩

theorem Ends.le {j : Nat} (h : Ends j l s Q) (hj : j ≤ k) : Ends k l s Q := fun n hn => h n (hj.trans hn)

/-- What a class of handovers keeps stands when the class has run. -/
theorem Ends.of_keeps (G : Signal → Prop) (P : State → Prop)
    (h : ∀ g s, G g → P s → P (handle g s).1 ∧ ∀ g' ∈ (handle g s).2, G g') (hl : ∀ g ∈ l, G g) (hs : P s)
    (hQ : ∀ t, P t → Q t) : Ends k l s Q := fun n _ => hQ _ (cascade_keeps G P h n l s hl hs)

/-- No command's count comes near the bound. -/
theorem Ends.settle {a : Act} (h : Ends 1000 a.2 a.1 Q) : Q (settle a) := h _ (by decide)

theorem Ends.settle_eq {a : Act} {t : State} (h : Ends 1000 a.2 a.1 (· = t)) : Machine.settle a = t := h.settle

end

/-! ### The traffic of the upstream line -/

/-- `t` is `s` after traffic on the upstream line: what waits for the line or is on it may have moved, and pending
releases may have been queued, which restarts the idle count; a head procedure that was paused over an empty Hold area may
have ended. -/
def Upstream (s t : State) : Prop :=
  t.offLine =
      { s.offLine with
        igt :=
          { s.igt with
            keys := t.igt.keys, pend := t.igt.pend, head := t.igt.head, proc := t.igt.proc, displaced := t.igt.displaced,
            expired := t.igt.expired, idle := t.igt.idle, idleLeft := t.igt.idleLeft } } ∧
    (s.igt.head = .idle →
      t.igt.head = .idle ∧ t.igt.proc = s.igt.proc ∧ t.igt.displaced = s.igt.displaced ∧
        t.igt.expired = s.igt.expired) ∧
    (s.igt.head = .idle → s.igt.pend = [] → t.igt = s.igt) ∧ (t.igt.idle = s.igt.idle ∨ t.igt.idle = 0)

section
variable {s t u : State}

theorem Upstream.of_offLine (h : t.offLine = s.offLine) : Upstream s t := by
  have hi : t.igt = s.igt := (congrArg State.igt h :)
  refine ⟨?_, fun hh => ?_, fun _ _ => hi, .inl (by rw [hi])⟩
  · rw [h, hi]
    rfl
  · rw [hi]
    exact ⟨hh, rfl, rfl, rfl⟩

theorem Upstream.refl (s : State) : Upstream s s := .of_offLine rfl

theorem Upstream.trans (h : Upstream s t) (k : Upstream t u) : Upstream s u := by
  obtain ⟨h1, h2, h3, h4⟩ := h
  obtain ⟨k1, k2, k3, k4⟩ := k
  have hi := congrArg State.igt h1
  change t.igt = _ at hi
  refine ⟨?_, fun hh => ?_, fun hh hp => ?_, ?_⟩
  · rw [k1, h1, hi]
  · obtain ⟨ha, hb, hc, hd⟩ := h2 hh
    obtain ⟨ka, kb, kc, kd⟩ := k2 ha
    exact ⟨ka, kb.trans hb, kc.trans hc, kd.trans hd⟩
  · have ht := h3 hh hp
    rw [k3 (by rw [ht]; exact hh) (by rw [ht]; exact hp), ht]
  · rcases k4 with k4 | k4
    · rw [k4]
      exact h4
    · exact .inr k4

theorem Upstream.sib (h : Upstream s t) : t.sib = s.sib := (congrArg State.sib h.1 :)
theorem Upstream.hau (h : Upstream s t) : t.hau = s.hau := (congrArg State.hau h.1 :)
theorem Upstream.oru (h : Upstream s t) : t.oru = s.oru := (congrArg State.oru h.1 :)
theorem Upstream.pcl (h : Upstream s t) : t.pcl = s.pcl := (congrArg State.pcl h.1 :)
theorem Upstream.dlc (h : Upstream s t) : t.dlc = s.dlc := (congrArg State.dlc h.1 :)
theorem Upstream.sbu (h : Upstream s t) : t.sbu = s.sbu := (congrArg State.sbu h.1 :)
theorem Upstream.pcc (h : Upstream s t) : t.pcc = s.pcc := (congrArg State.pcc h.1 :)
theorem Upstream.spu (h : Upstream s t) : t.spu = s.spu := (congrArg State.spu h.1 :)
theorem Upstream.psc (h : Upstream s t) : t.psc = s.psc := (congrArg State.psc h.1 :)
theorem Upstream.par (h : Upstream s t) : t.par = s.par := (congrArg State.par h.1 :)
theorem Upstream.ms (h : Upstream s t) : t.ms = s.ms := (congrArg State.ms h.1 :)
theorem Upstream.pending (h : Upstream s t) : t.pending = s.pending := (congrArg State.pending h.1 :)
theorem Upstream.map (h : Upstream s t) : t.fbf.map = s.fbf.map := (congrArg (fun x => x.fbf.map) h.1 :)
theorem Upstream.hold (h : Upstream s t) : t.fbf.hold = s.fbf.hold := (congrArg (fun x => x.fbf.hold) h.1 :)
theorem Upstream.passdown (h : Upstream s t) : t.fbf.passdown = s.fbf.passdown := (congrArg (fun x => x.fbf.passdown) h.1 :)
theorem Upstream.queue (h : Upstream s t) : t.ulp.queue = s.ulp.queue := (congrArg (fun x => x.ulp.queue) h.1 :)
theorem Upstream.executing (h : Upstream s t) : t.ulp.executing = s.ulp.executing :=
  (congrArg (fun x => x.ulp.executing) h.1 :)
theorem Upstream.resetDue (h : Upstream s t) : t.ulp.resetDue = s.ulp.resetDue := (congrArg (fun x => x.ulp.resetDue) h.1 :)
theorem Upstream.head (h : Upstream s t) (hh : s.igt.head = .idle) : t.igt.head = .idle := (h.2.1 hh).1
theorem Upstream.proc (h : Upstream s t) (hh : s.igt.head = .idle) : t.igt.proc = s.igt.proc := (h.2.1 hh).2.1

theorem Upstream.idle (h : Upstream s t) : t.igt.idle = s.igt.idle ∨ t.igt.idle = 0 := h.2.2.2

theorem Upstream.awake (h : Upstream s t) : t.awake = s.awake := by rw [State.awake, h.psc]; rfl
theorem Upstream.held (h : Upstream s t) : t.held = s.held := by rw [State.held, h.spu]; rfl

theorem Upstream.igt (h : Upstream s t) (hh : s.igt.head = .idle) (hp : s.igt.pend = []) : t.igt = s.igt := h.2.2.1 hh hp

theorem Upstream.offLine (h : Upstream s t) (hh : s.igt.head = .idle) (hp : s.igt.pend = []) : t.offLine = s.offLine := by
  rw [h.1, h.2.2.1 hh hp]
  rfl

/-- No command waits, and no head procedure is paused over held frames: traffic on the line makes no other block act. -/
def State.Still (s : State) : Prop := s.ulp.queue = [] ∧ (s.igt.head = .idle ∨ s.fbf.hold = [])

theorem State.Calm.still (h : s.Calm) : s.Still := ⟨h.1, .inl h.2.1⟩

theorem Upstream.still (h : Upstream s t) (hs : s.Still) : t.Still :=
  ⟨h.queue.trans hs.1, hs.2.imp h.head fun hh => h.hold.trans hh⟩

theorem Upstream.calm (h : Upstream s t) (hs : s.Calm) : t.Calm := by
  obtain ⟨h1, h2, h3, h4⟩ := hs
  have hi := h.igt h2 h4
  exact ⟨h.queue.trans h1, hi ▸ h2, hi ▸ h3, hi ▸ h4⟩

/-! ### The single steps -/

theorem upstream_putInput (s : State) (f : Stored) : Upstream s (s.putInput f) := .of_offLine rfl

/-- Pending releases that find room enter the Input area. -/
theorem upstream_queuePending (l : List Pending) : ∀ s : State, s.igt.pend = l → Upstream s (queuePending l s) := by
  induction l with
  | nil => intro s _; exact Upstream.refl s
  | cons p ps ih =>
    intro s hp
    unfold queuePending
    split
    · dsimp only
      refine Upstream.trans ?_ (ih _ rfl)
      refine ⟨?_, fun h => ?_, fun _ h => ?_, ?_⟩
      · split <;> rfl
      · split <;> exact ⟨h, rfl, rfl, rfl⟩
      · rw [hp] at h
        exact nomatch h
      · split
        · exact .inr rfl
        · exact .inl rfl
    · exact Upstream.refl s

theorem queuePending_lineFree (l : List Pending) : ∀ s : State, (queuePending l s).ulp = s.ulp := fun s =>
  (queuePending_only l s (T := [.igt, .fbf]) rfl).ulp rfl

theorem spaceEvent_of_idle (hh : s.igt.head = .idle) : spaceEvent s = (queuePending s.igt.pend s, [.arbiter]) := by
  have hh' := (upstream_queuePending _ s rfl).head hh
  unfold spaceEvent
  dsimp only
  rw [hh']
  split <;> rfl

/-- Space with a procedure paused: it starts again once no release is pending. -/
theorem spaceEvent_of_paused (hh : s.igt.head ≠ .idle) :
    spaceEvent s = (queuePending s.igt.pend s, [.arbiter]) ∨
      ∃ p, spaceEvent s =
        ({ queuePending s.igt.pend s with
            igt := { (queuePending s.igt.pend s).igt with proc := some p, head := .idle } }, [.arbiter, .headStep]) := by
  have hq : ∀ (l : List Pending) (s : State), (queuePending l s).igt.head = s.igt.head := by
    intro l
    induction l with
    | nil => intro s; rfl
    | cons p ps ih =>
      intro s
      unfold queuePending
      split
      · dsimp only
        rw [ih]
        split <;> rfl
      · rfl
  unfold spaceEvent
  dsimp only
  rw [hq]
  cases hs : s.igt.head with
  | idle => exact absurd hs hh
  | rescanPaused =>
    dsimp only
    split
    · exact .inr ⟨.rescan, rfl⟩
    · exact .inl rfl
  | drainPaused =>
    dsimp only
    split
    · exact .inr ⟨.drain, rfl⟩
    · exact .inl rfl

/-- A head procedure over an empty Hold area ends at once. -/
theorem Ends.headStep_empty {k : Nat} {l : List Signal} {Q : State → Prop} {p : HeadProc} (hold : s.fbf.hold = [])
    (hp : s.igt.proc = some p)
    (h : Ends k l { s with igt := { s.igt with proc := none, head := .idle, displaced := false, expired := false } } Q) :
    Ends (k + 2) (.headStep :: l) s Q := by
  refine Ends.step (t := { s with igt := { s.igt with proc := none, head := .idle } }) (new := [.holdCheck false]) ?_ (by simp)
    (Ends.step (new := []) ?_ (by simp) h)
  · simp only [handle, headStep, hp, hold, stopHead]
  · simp only [handle, holdCheck, hold, quiet]

theorem offerOverflow_cases (s : State) :
    offerOverflow s = quiet s ∨
      ∃ t, offerOverflow s = (t, [.arbiter]) ∧ t.offLine = s.offLine ∧ t.ulp.lineFree = s.ulp.lineFree := by
  unfold offerOverflow
  dsimp only
  split
  · exact .inr ⟨_, rfl, rfl, rfl⟩
  · exact .inl rfl

/-- A report but FORCE_CUT leaves the other blocks; it asks the arbiter at most twice. -/
theorem composeReport_cases {k : ReportKind} (hk : k ≠ .forceCut) (f : List Byte) (s : State) :
    ∃ t L, composeReport k f s = (t, L) ∧ t.offLine = s.offLine ∧ t.ulp.lineFree = s.ulp.lineFree ∧
      (L = [] ∨ L = [.arbiter] ∨ L = [.arbiter, .arbiter]) := by
  have hoffer : ∀ u : State, ∃ t L, offerReport k f u = (t, L) ∧ t.offLine = u.offLine ∧
      t.ulp.lineFree = u.ulp.lineFree ∧ (L = [] ∨ L = [.arbiter]) := by
    intro u
    unfold offerReport
    simp only [if_neg hk]
    split
    · exact ⟨_, _, rfl, rfl, rfl, .inr rfl⟩
    · exact ⟨_, _, rfl, rfl, rfl, .inl rfl⟩
  unfold composeReport
  split
  · rcases offerOverflow_cases s with he | ⟨u, he, hu, hlu⟩
    · obtain ⟨t, L, ht, h1, h2, h3⟩ := hoffer s
      refine ⟨t, L, ?_, h1, h2, h3.imp_right .inl⟩
      rw [Act.andThen, he, quiet, ht]
      rfl
    · obtain ⟨t, L, ht, h1, h2, h3⟩ := hoffer u
      refine ⟨t, .arbiter :: L, ?_, h1.trans hu, h2.trans hlu, ?_⟩
      · rw [Act.andThen, he, ht]
        rfl
      · rcases h3 with rfl | rfl
        · exact .inr (.inl rfl)
        · exact .inr (.inr rfl)
  · exact ⟨s, [], rfl, rfl, rfl, .inl rfl⟩

/-- The arbiter takes nothing, or takes a frame for the line. -/
theorem arbiterChoice_cases (s : State) :
    ∃ t L, arbiterChoice s = (t, L) ∧ t.offLine = s.offLine ∧
      (L = [] ∨ t.ulp.lineFree = false ∧ (L = [.reportRemoved] ∨ L = [.spaceEvent] ∨ L = [.serve])) := by
  unfold arbiterChoice chooseHeld chooseArea sendReport sendInput
  dsimp only
  repeat' split
  all_goals
    refine ⟨_, _, rfl, rfl, ?_⟩
    simp [Ulp.lineFree, State.send]

/-- A busy line, an ordered reset: the arbiter takes nothing. -/
theorem arbiterChoice_of_busy (h : s.ulp.lineFree = false) : arbiterChoice s = quiet s := by
  rw [arbiterChoice, if_neg (by rw [h]; exact Bool.false_ne_true)]

/-- With no command waiting, the service moves an overrun reply into the slot at most. -/
theorem serveQueue_of_idle (h : s.ulp.queue = []) :
    serveQueue s = quiet s ∨
      ∃ t, serveQueue s = (t, [.arbiter]) ∧ t.offLine = s.offLine ∧ t.ulp.lineFree = s.ulp.lineFree := by
  rcases serveQueue_cases s with he | ⟨r, rs, -, he⟩ | ⟨f, q, hf, -⟩
  · exact .inl he
  · exact .inr ⟨_, he, rfl, rfl⟩
  · rw [h] at hf; exact nomatch hf

/-! ### The traffic as one -/

/-- The handovers of the traffic on the upstream line. -/
def Signal.isUpstream : Signal → Bool
  | .report k _ => k != .forceCut
  | .reportRemoved | .spaceEvent | .arbiter | .serve => true
  | _ => false

variable {k : Nat} {l : List Signal} {Q : State → Prop}

theorem Ends.arbiter_busy (hb : s.ulp.lineFree = false) (h : Ends k l s Q) : Ends (k + 1) (.arbiter :: l) s Q :=
  Ends.skip (arbiterChoice_of_busy hb) (by simp) h

/-- Space has appeared: what the arbiter does comes first, then a paused procedure ends over an empty Hold area. -/
theorem Ends.space {c : Nat} (hs : s.Still)
    (harb : ∀ (j : Nat) (m : List Signal) (t : State), t.Still → t.ulp.lineFree = s.ulp.lineFree →
      (∀ u, Upstream t u → Ends j m u Q) → Ends (j + c) (.arbiter :: m) t Q)
    (h : ∀ t, Upstream s t → Ends k l t Q) : Ends (k + c + 3) (.spaceEvent :: l) s Q := by
  have hq : Upstream s (queuePending s.igt.pend s) := upstream_queuePending _ s rfl
  have hfree : (queuePending s.igt.pend s).ulp.lineFree = s.ulp.lineFree := by rw [queuePending_lineFree]
  have hone : spaceEvent s = (queuePending s.igt.pend s, [.arbiter]) → Ends (k + c + 3) (.spaceEvent :: l) s Q :=
    fun he => Ends.le (Ends.step he (by simp) (harb k l _ (hq.still hs) hfree fun u hu => h u (hq.trans hu))) (by omega)
  by_cases hh : s.igt.head = .idle
  · exact hone (spaceEvent_of_idle hh)
  · rcases spaceEvent_of_paused hh with he | ⟨p, he⟩
    · exact hone he
    · have hold : s.fbf.hold = [] := hs.2.resolve_left hh
      refine Ends.le (Ends.step he (by simp) (harb (k + 2) (.headStep :: l) _ ⟨hq.queue.trans hs.1, .inl rfl⟩ hfree ?_))
        (by omega)
      intro u hu
      refine Ends.headStep_empty (hu.hold.trans (hq.hold.trans hold)) (hu.proc rfl) (h _ ⟨?_, ?_, ?_, ?_⟩)
      · have h1 := hu.1
        have h2 := hq.1
        have h3 := congrArg (fun x : State => { x with
          igt := { x.igt with proc := none, head := .idle, displaced := false, expired := false } }) h1
        refine Eq.trans h3 ?_
        have h4 := congrArg (fun x : State => { x with
          igt := { x.igt with
            keys := u.igt.keys, pend := u.igt.pend, idle := u.igt.idle, idleLeft := u.igt.idleLeft, proc := none,
            head := .idle, displaced := false, expired := false } }) h2
        exact h4
      · exact fun hi => absurd hi hh
      · exact fun hi => absurd hi hh
      · have h1 := hu.idle
        rcases h1 with h1 | h1
        · rw [h1]
          exact hq.idle
        · exact .inr h1

/-- What follows a frame taken for the line finds the line busy. -/
theorem Ends.taken {g : Signal} (hg : g = .reportRemoved ∨ g = .spaceEvent ∨ g = .serve) (hs : s.Still)
    (hb : s.ulp.lineFree = false) (h : ∀ t, Upstream s t → Ends k l t Q) : Ends (k + 4) (g :: l) s Q := by
  rcases hg with rfl | rfl | rfl
  · rcases offerOverflow_cases s with he | ⟨t, he, ho, hl⟩
    · exact Ends.le (Ends.skip he (by simp) (h s (.refl s))) (by omega)
    · exact Ends.le (Ends.step he (by simp) (Ends.arbiter_busy (hl.trans hb) (h t (.of_offLine ho)))) (by omega)
  · exact Ends.space (c := 1) hs (fun j m t _ hf hu => Ends.arbiter_busy (hf.trans hb) (hu t (.refl t))) h
  · rcases serveQueue_of_idle hs.1 with he | ⟨t, he, ho, hl⟩
    · exact Ends.le (Ends.skip he (by simp) (h s (.refl s))) (by omega)
    · exact Ends.le (Ends.step he (by simp) (Ends.arbiter_busy (hl.trans hb) (h t (.of_offLine ho)))) (by omega)

theorem Ends.arbiter (hs : s.Still) (h : ∀ t, Upstream s t → Ends k l t Q) : Ends (k + 5) (.arbiter :: l) s Q := by
  obtain ⟨t, L, he, ho, hL⟩ := arbiterChoice_cases s
  have ht : Upstream s t := .of_offLine ho
  rcases hL with rfl | ⟨hb, hL⟩
  · exact Ends.le (Ends.step he (by simp) (h t ht)) (by omega)
  · have hrest : ∀ g, L = [g] → (g = .reportRemoved ∨ g = .spaceEvent ∨ g = .serve) →
        Ends (k + 5) (.arbiter :: l) s Q := by
      rintro g rfl hg
      exact Ends.step he (by simp) (Ends.taken hg (ht.still hs) hb fun u hu => h u (ht.trans hu))
    rcases hL with hL | hL | hL
    · exact hrest _ hL (.inl rfl)
    · exact hrest _ hL (.inr (.inl rfl))
    · exact hrest _ hL (.inr (.inr rfl))

/-- The traffic on the line is stepped over. -/
theorem Ends.upstream {g : Signal} (hg : g.isUpstream = true) (hs : s.Still)
    (h : ∀ t, Upstream s t → Ends k l t Q) : Ends (k + 11) (g :: l) s Q := by
  have hone : ∀ {g t}, g ≠ .holdBegin → handle g s = (t, [.arbiter]) → Upstream s t → Ends (k + 11) (g :: l) s Q :=
    fun hg he ht => Ends.le (Ends.step he hg (Ends.arbiter (ht.still hs) fun u hu => h u (ht.trans hu))) (by omega)
  have hnone : ∀ {g}, g ≠ .holdBegin → handle g s = quiet s → Ends (k + 11) (g :: l) s Q :=
    fun hg he => Ends.le (Ends.skip he hg (h s (.refl s))) (by omega)
  cases g
  case report r f =>
    have hr : r ≠ .forceCut := by simpa [Signal.isUpstream] using hg
    obtain ⟨t, L, he, ho, -, hL⟩ := composeReport_cases hr f s
    have ht : Upstream s t := .of_offLine ho
    rcases hL with rfl | rfl | rfl
    · exact Ends.le (Ends.step he (by simp) (h t ht)) (by omega)
    · exact hone (by simp) he ht
    · exact Ends.le (Ends.step he (by simp) (Ends.arbiter (ht.still hs) fun u hu =>
        Ends.arbiter ((ht.trans hu).still hs) fun v hv => h v ((ht.trans hu).trans hv))) (by omega)
  case reportRemoved =>
    rcases offerOverflow_cases s with he | ⟨t, he, ho, -⟩
    · exact hnone (by simp) he
    · exact hone (by simp) he (.of_offLine ho)
  case spaceEvent =>
    exact Ends.le (Ends.space (c := 5) hs (fun j m t ht _ hu => Ends.arbiter ht hu) h) (by omega)
  case arbiter => exact Ends.le (Ends.arbiter hs h) (by omega)
  case serve =>
    rcases serveQueue_of_idle hs.1 with he | ⟨t, he, ho, -⟩
    · exact hnone (by simp) he
    · exact hone (by simp) he (.of_offLine ho)
  all_goals exact Bool.noConfusion hg

/-- A stretch of traffic is stepped over. -/
theorem Ends.upstreams {m : List Signal} (hm : ∀ g ∈ m, g.isUpstream = true) (hlen : m.length ≤ 4) (hs : s.Still)
    (h : ∀ t, Upstream s t → Ends k l t Q) : Ends (k + 44) (m ++ l) s Q := by
  have key : ∀ (m : List Signal) (s : State), (∀ g ∈ m, g.isUpstream = true) → s.Still →
      (∀ t, Upstream s t → Ends k l t Q) → Ends (k + 11 * m.length) (m ++ l) s Q := by
    intro m
    induction m with
    | nil => intro s _ _ h; exact h s (.refl s)
    | cons g m ih =>
      intro s hm hs h
      obtain ⟨hg, hm⟩ := List.forall_mem_cons.mp hm
      rw [List.length_cons, Nat.mul_succ, ← Nat.add_assoc]
      exact Ends.upstream hg hs fun t ht => ih t hm (ht.still hs) fun u hu => h u (ht.trans hu)
  exact (key m s hm hs h).le (by omega)

end

end Sys2Proof.Machine
end

section
/-! PROOFS. Events whose whole effect is one block's own: slot timers, the idle timer, the cut's timers, the unlock window. -/

namespace Sys2Proof.Machine

open Sys2Proof

section
variable {s : State}

theorem finish_of_settle {a : Act} {t : State} (h : settle a = t) : finish a = .next t := by rw [finish_eq, h]

/-! ### Slots -/

theorem pollPeriodExpiry_eq {r : Nat} (h : s.dlc.slotTimer = some r) :
    exec .pollPeriodExpiry s = .next (if s.dlc.slot.isSome then elapse r s else openNextSlot (elapse r s)) := by
  change finish (onExpiry s.dlc.slotTimer _ s) = _
  rw [h]
  change finish (if s.dlc.slot.isSome then quiet _ else quiet _) = _
  split <;> exact finish_quiet _

theorem identAttemptOpen_eq {r : Nat} (h : s.dlc.attemptTimer = some r) :
    exec .identAttemptOpen s =
      .next (if s.dlc.state = .identifying ∧ s.dlc.slot.isNone then
        { elapse r s with dlc := (elapse r s).dlc.attempt } else elapse r s) := by
  change finish (onExpiry s.dlc.attemptTimer _ s) = _
  rw [h]
  change finish (if s.dlc.state = .identifying ∧ s.dlc.slot.isNone then quiet _ else quiet _) = _
  split <;> exact finish_quiet _

theorem openNextSlot_of_run (h : s.dlc.state = .powering ∨ s.dlc.state = .waking) :
    openNextSlot s = { s with dlc := { s.dlc.opened ⟨headRun, []⟩ with slotTimer := some s.par.pollPeriod } } := by
  rcases h with h | h <;> simp only [openNextSlot, h]

theorem openNextSlot_of_quiesce (h : s.dlc.state = .active) (ha : s.awake = true) (hs : s.dlc.step = some .quiesce)
    (hq : s.dlc.quiesceSent = false) :
    openNextSlot s =
      { s with
        dlc := { s.dlc.opened ⟨headQuiesce, []⟩ with slotTimer := some s.par.pollPeriod, quiesceSent := true } } := by
  simp only [openNextSlot, h, ha, hs, hq, Bool.not_true, Bool.false_eq_true, Bool.not_false, and_self, if_false, if_true]

theorem openNextSlot_of_poll (h : s.dlc.state = .active) (ha : s.awake = true) (hs : s.dlc.step ≠ some .quiesce)
    (hp : s.fbf.passdown = []) :
    openNextSlot s = { s with dlc := { s.dlc.opened ⟨headPoll, []⟩ with slotTimer := some s.par.pollPeriod } } := by
  simp only [openNextSlot, h, ha, hs, hp, Bool.not_true, Bool.false_eq_true, false_and, if_false]

theorem openNextSlot_of_passdown {f : Stored} {rest : List Stored} (h : s.dlc.state = .active) (ha : s.awake = true)
    (hs : s.dlc.step ≠ some .quiesce) (hp : s.fbf.passdown = f :: rest) :
    openNextSlot s =
      { s with
        dlc := { s.dlc.opened ⟨headPassdown, f.payload⟩ with slotTimer := some s.par.pollPeriod }
        fbf := { s.fbf with passdown := rest } } := by
  simp only [openNextSlot, h, ha, hs, hp, Bool.not_true, Bool.false_eq_true, false_and, if_false]

theorem openNextSlot_of_quiesced (h : s.dlc.state = .quiesced) (ha : s.awake = true) :
    openNextSlot s = { s with dlc := { s.dlc.opened ⟨headPoll, []⟩ with slotTimer := some s.par.quiescedPeriod } } := by
  simp only [openNextSlot, h, ha, Bool.not_true, Bool.false_eq_true, if_false]

/-- Settles O30: the expiry opens the next slot of the state, which `openNextSlot` chooses. -/
theorem slotTimersOpenSlots : Obligations.SlotTimersOpenSlots := by
  have hfree : ∀ {s : State} {r : Nat}, s.dlc.slotTimer = some r → s.dlc.slot = none →
      exec .pollPeriodExpiry s = .next (openNextSlot (elapse r s)) := by
    intro s r h hn
    rw [pollPeriodExpiry_eq h, hn]
    rfl
  refine ⟨fun r s h => ⟨?busy, ?run, ?quiesce, ?poll, ?passdown, ?quiesced⟩, fun r s h => ⟨?attempt, ?none⟩⟩
  case busy =>
    intro hs
    rw [pollPeriodExpiry_eq h, if_pos hs]
  case run =>
    intro hn hst
    exact (hfree h hn).trans (congrArg _ (openNextSlot_of_run (s := elapse r s) hst))
  case quiesce =>
    intro hn hst ha hstep hq
    exact (hfree h hn).trans (congrArg _ (openNextSlot_of_quiesce (s := elapse r s) hst ha hstep hq))
  case poll =>
    intro hn hst ha hstep hp
    exact (hfree h hn).trans (congrArg _ (openNextSlot_of_poll (s := elapse r s) hst ha hstep hp))
  case passdown =>
    intro f rest hp hn hst ha hstep
    exact (hfree h hn).trans (congrArg _ (openNextSlot_of_passdown (s := elapse r s) hst ha hstep hp))
  case quiesced =>
    intro hn hst ha
    exact (hfree h hn).trans (congrArg _ (openNextSlot_of_quiesced (s := elapse r s) hst ha))
  case attempt =>
    intro hst hn
    rw [identAttemptOpen_eq h, if_pos ⟨hst, by rw [hn]; rfl⟩]
    rfl
  case none =>
    intro hor
    rw [identAttemptOpen_eq h, if_neg]
    rintro ⟨hst, hn⟩
    rcases hor with hor | hor
    · exact hor hst
    · exact hor (Option.isNone_iff_eq_none.mp hn)

/-! ### The sleep rules while none is enabled -/

theorem ruleHolds_of_disabled {r : SleepRule} (h : r.enabled = false) (s : State) : ruleHolds s r = false := by
  simp [ruleHolds, h]

theorem governingRule_of_unruled (h : ∀ r ∈ s.spu.rules, r.enabled = false) : governingRule s = none :=
  List.findIdx?_eq_none_iff.mpr fun r hr => by simpa using ruleHolds_of_disabled (h r hr) s

/-- With no rule enabled and none governing, an evaluation changes nothing and begins no episode. -/
theorem spuEvaluate_of_unruled (h : s.Unruled) (t : SpuTrigger) : spuEvaluate t s = quiet s := by
  obtain ⟨hr, hg⟩ := h
  have ht : t.renews none = false := by cases t <;> rfl
  simp only [spuEvaluate, governingRule_of_unruled hr, hg, ht, ne_eq, not_true_eq_false, Bool.false_eq_true, if_false]

variable {k : Nat} {l : List Signal} {Q : State → Prop}

theorem Ends.spuEval_unruled {t : SpuTrigger} (hu : s.Unruled) (h : Ends k l s Q) : Ends (k + 1) (.spuEval t :: l) s Q :=
  Ends.skip (spuEvaluate_of_unruled hu t) (by simp) h

end

theorem endCut_of_no_wake {s : State} (h : s.spu.pendingWake = none) :
    endCut s = quiet { s with spu := { s.spu with cutStage := .none, pwrCut := false, cutTimer := none } } := by
  simp only [endCut, servePendingWake, h]

/-- Settles O37. -/
theorem idleCutAndUnlockTimers : Obligations.IdleCutAndUnlockTimers := by
  refine ⟨fun s hu => ?idle, fun r s => ⟨?wait, ?pulse, ?unlock⟩⟩
  case idle =>
    change finish (idleIncrement s) = _
    unfold idleIncrement
    dsimp only
    split
    · rename_i hi
      refine finish_of_settle (Ends.settle_eq (Ends.spuEval_unruled hu (Ends.nil ?_)))
      simp only [elapse_igt, Igt.pass] at hi ⊢
      simp only [hi, if_true]
    · rename_i hi
      rw [finish_quiet]
      simp only [elapse_igt, Igt.pass] at hi ⊢
      simp only [hi, if_false]
  case wait =>
    intro ht hst
    change finish (if s.spu.cutStage = .wait then onExpiry s.spu.cutTimer cutAssert s else quiet s) = _
    rw [if_pos hst, ht]
    change finish (if s.spu.cutStage = .wait then quiet _ else quiet _) = _
    rw [if_pos hst]
    exact finish_quiet _
  case pulse =>
    intro ht hst hp
    change finish (if s.spu.cutStage = .pulse then onExpiry s.spu.cutTimer endCut s else quiet s) = _
    rw [if_pos hst, ht, onExpiry_some, endCut_of_no_wake (s := elapse r s) hp]
    exact finish_quiet _
  case unlock =>
    intro u hu hseq
    change finish (unlockTimeout s) = _
    simp only [unlockTimeout, hu, hseq, if_true]
    exact finish_quiet _

end Sys2Proof.Machine
end

section
/-! PROOFS. Raised reports, the frames on the upstream line, and the release of what waits for it. -/

namespace Sys2Proof.Machine

open Sys2Proof

section
variable {s : State} {k : Nat} {l : List Signal} {Q : State → Prop}

/-! ### A raised report -/

theorem length_reportPayload (k : ReportKind) (t : Stamp) (f : List Byte) : (reportPayload k t f).length = f.length + 5 := by
  simp [reportPayload]
  omega

theorem offerOverflow_of_none (h : s.ulp.lost = 0 ∨ s.fbf.reportFree < 10) : offerOverflow s = quiet s := by
  unfold offerOverflow
  dsimp only
  rw [if_neg]
  rw [length_reportPayload, length_num1]
  omega

theorem offerOverflow_of_fits (h : 0 < s.ulp.lost) (hf : 10 ≤ s.fbf.reportFree) :
    offerOverflow s =
      ({ s with
          fbf := { s.fbf with report := s.fbf.report ++ [⟨.report, reportPayload .overflow s.ms [byte s.ulp.lost]⟩] }
          ulp := { s.ulp with lost := 0 } }, [.arbiter]) := by
  unfold offerOverflow
  dsimp only
  rw [if_pos]
  · rfl
  · rw [length_reportPayload, length_num1]
    exact ⟨h, hf⟩

theorem offerReport_of_fits (r : ReportKind) {f : List Byte} (h : f.length + 9 ≤ s.fbf.reportFree) :
    offerReport r f s =
      ({ s with fbf := { s.fbf with report := s.fbf.report ++ [⟨.report, reportPayload r s.ms f⟩] } }, [.arbiter]) := by
  unfold offerReport
  dsimp only
  rw [if_pos (by rw [length_reportPayload]; exact h)]
  rfl

theorem offerReport_of_full {r : ReportKind} (hr : r ≠ .forceCut) {f : List Byte} (h : s.fbf.reportFree < f.length + 9) :
    offerReport r f s = quiet { s with ulp := { s.ulp with lost := min (s.ulp.lost + 1) 255 } } := by
  unfold offerReport
  dsimp only
  rw [if_neg (by rw [length_reportPayload]; omega), if_neg hr]
  rfl

theorem composeReport_of_enabled {r : ReportKind} {f : List Byte} (he : reportEnabled s.ulp.mask r = true) :
    composeReport r f s = (offerOverflow s).andThen (offerReport r f) := if_pos he

/-- The arbiter takes nothing: the line is busy, or the upstream hold applies and no cut waits. -/
def State.Deaf (s : State) : Prop := s.ulp.lineFree = false ∨ s.held = true ∧ s.spu.cutStage ≠ .wait

theorem arbiterChoice_of_deaf (h : s.Deaf) : arbiterChoice s = quiet s := by
  rcases h with h | ⟨hh, hc⟩
  · exact arbiterChoice_of_busy h
  · unfold arbiterChoice chooseHeld
    rw [if_pos hh, if_neg hc]
    split <;> rfl

theorem Ends.arbiter_deaf (hd : s.Deaf) (h : Ends k l s Q) : Ends (k + 1) (.arbiter :: l) s Q :=
  Ends.skip (arbiterChoice_of_deaf hd) (by simp) h

theorem settle_report_offLine (hc : s.Calm) {r : ReportKind} (hr : r ≠ .forceCut) (f : List Byte) :
    (settle (s, [.report r f])).offLine = s.offLine :=
  Ends.settle (a := (s, [.report r f])) (Q := fun t => t.offLine = s.offLine)
    (Ends.upstream (k := 989) (by simp [Signal.isUpstream, hr]) hc.still fun _ ht =>
      Ends.nil (ht.offLine hc.2.1 hc.2.2.2))

/-- A stored report takes its bytes from the free space. -/
theorem reportFree_append (b : Fbf) (p : List Byte) :
    Fbf.reportFree { b with report := b.report ++ [⟨.report, p⟩] } = b.reportFree - (p.length + 4) := by
  simp [Fbf.reportFree, occupancy, Stored.size]
  omega

/-- The OVERFLOW report of a lost count is stored. -/
def State.overflowed (s : State) : State :=
  { s with
    fbf := { s.fbf with report := s.fbf.report ++ [⟨.report, reportPayload .overflow s.ms [byte s.ulp.lost]⟩] }
    ulp := { s.ulp with lost := 0 } }

theorem reportFree_overflowed (s : State) : s.overflowed.fbf.reportFree = s.fbf.reportFree - 10 := by
  refine (reportFree_append s.fbf _).trans ?_
  rw [length_reportPayload]
  rfl

/-- A report behind its OVERFLOW report. -/
theorem composeReport_of_overflow {r : ReportKind} {f : List Byte} (he : reportEnabled s.ulp.mask r = true)
    (hl : 0 < s.ulp.lost) (hf : 10 ≤ s.fbf.reportFree) :
    composeReport r f s = ((offerReport r f s.overflowed).1, .arbiter :: (offerReport r f s.overflowed).2) := by
  rw [composeReport_of_enabled he, Act.andThen, offerOverflow_of_fits hl hf]
  rfl

/-- A report without an OVERFLOW report before it. -/
theorem composeReport_of_alone {r : ReportKind} {f : List Byte} (he : reportEnabled s.ulp.mask r = true)
    (h : s.ulp.lost = 0 ∨ s.fbf.reportFree < 10) : composeReport r f s = offerReport r f s := by
  rw [composeReport_of_enabled he, Act.andThen, offerOverflow_of_none h]
  rfl

/-- On a free line with nothing else waiting a stored report is sent. -/
theorem arbiterChoice_of_report {p : Stored} (hfree : s.ulp.lineFree = true) (hheld : s.held = false)
    (hslot : s.ulp.slot = none) (hr : s.fbf.report = [p]) (hi : s.fbf.input = []) :
    arbiterChoice s = sendReport p.payload [] .input s := by
  unfold arbiterChoice chooseArea
  rw [if_pos hfree, hheld, hslot, hr, hi]
  rfl

/-- Settles O25: the report's own steps one by one where the arbiter takes nothing, and the traffic as one elsewhere. -/
theorem raisedReportIsKeptOrCounted : Obligations.RaisedReportIsKeptOrCounted := by
  intro r f s hc he hr
  refine ⟨settle_report_offLine hc hr f, fun hd => ⟨fun hn hfit => ?alone, fun hl hfit => ?both, fun hl h10 hfit => ?counted⟩,
    fun hn hfull => ?full, fun hfit hl hheld hfree hslot hover hrep hinp => ?sent⟩
  case alone =>
    have hstored := (composeReport_of_alone he hn).trans (offerReport_of_fits r hfit)
    exact Ends.settle_eq (a := (s, _)) (Ends.step (k := 999) hstored (by simp) (Ends.arbiter_deaf hd (Ends.nil rfl)))
  case both =>
    have hstored := composeReport_of_overflow (f := f) he hl (by omega)
    rw [offerReport_of_fits r (by rw [reportFree_overflowed]; omega)] at hstored
    refine Ends.settle_eq (a := (s, _)) (Ends.step (k := 999) hstored (by simp)
      (Ends.arbiter_deaf hd (Ends.arbiter_deaf hd (Ends.nil ?_))))
    simp only [State.overflowed, List.append_assoc, List.cons_append, List.nil_append]
  case counted =>
    have hstored := composeReport_of_overflow (f := f) he hl h10
    rw [offerReport_of_full hr (by rw [reportFree_overflowed]; omega)] at hstored
    exact Ends.settle_eq (a := (s, _)) (Ends.step (k := 999) hstored (by simp) (Ends.arbiter_deaf hd (Ends.nil rfl)))
  case full =>
    have hcounted := (composeReport_of_alone he hn).trans (offerReport_of_full hr hfull)
    exact Ends.settle_eq (a := (s, _)) (Ends.step (k := 999) hcounted (by simp) (Ends.nil rfl))
  case sent =>
    have hstored := (composeReport_of_alone he (.inl hl)).trans (offerReport_of_fits r hfit)
    rw [hrep, List.nil_append] at hstored
    refine Ends.settle (a := (s, _)) (Q := fun t => t.ulp.line = _) (Ends.step (k := 999) hstored (by simp) ?_)
    exact Ends.step (k := 998) (arbiterChoice_of_report hfree hheld hslot rfl hinp) (by simp)
      (Ends.skip (k := 997) (offerOverflow_of_none (.inl hl)) (by simp) (Ends.nil rfl))

end

end Sys2Proof.Machine
end

section
/-! SUPPORT. Classes of handovers closed under handing on while no command waits; what they leave unchanged; the beginning
and the end of the upstream hold. -/

namespace Sys2Proof.Machine

open Sys2Proof

/-- The kinds that a handover may hand on while no command waits. -/
def Signal.idleFollows : Signal → List Signal
  | .report k _ => if k = .forceCut then [.arbiter, .cutAssert] else [.arbiter]
  | .serve => [.arbiter]
  | g => g.follows

theorem idleFollows_kind (g : Signal) : g.kind.idleFollows = g.idleFollows := by
  cases g
  case report k f => by_cases h : k = .forceCut <;> simp [Signal.kind, Signal.idleFollows, h]
  all_goals rfl

theorem blocks_kind (g : Signal) : g.kind.blocks = g.blocks := by
  cases g
  case report k f => by_cases h : k = .forceCut <;> simp [Signal.kind, Signal.blocks, h]
  all_goals rfl

theorem handle_idleFollows {g : Signal} {s : State} (hq : s.ulp.queue = []) :
    Act.Hands g.idleFollows (handle g s) := by
  by_cases hr : g.idleFollows = g.follows
  · rw [hr]; exact handle_follows g s
  cases g
  case report k f =>
    have hk : k ≠ .forceCut := fun h => hr (by simp [Signal.idleFollows, Signal.follows, h])
    obtain ⟨t, L, he, -, -, hL⟩ := composeReport_cases hk f s
    rw [Act.Hands, handle, he]
    rcases hL with rfl | rfl | rfl <;> simp [Signal.idleFollows, hk, Signal.kind]
  case serve =>
    rw [Act.Hands, handle]
    rcases serveQueue_of_idle hq with he | ⟨t, he, -⟩ <;> rw [he] <;> simp [Signal.idleFollows, Signal.kind]
  all_goals exact (hr rfl).elim

/-- The class of kinds `K` hands on itself only, without the reception of a command. -/
def Closed (K : List Signal) : Bool := !K.contains Kind.received && K.all fun k => k.idleFollows.all K.contains

theorem hands_of_closed {K : List Signal} (hK : Closed K = true) {g : Signal} (hg : g.kind ∈ K) {s : State} (hq : s.ulp.queue = []) :
    Act.Hands K (handle g s) := by
  have hall := List.all_eq_true.mp (Bool.and_eq_true_iff.mp hK).2 _ hg
  rw [idleFollows_kind, List.all_eq_true] at hall
  exact (handle_idleFollows hq).mono fun k hk => List.contains_iff_mem.mp (hall k hk)

theorem not_received_of_closed {K : List Signal} (hK : Closed K = true) {g : Signal} (hg : g.kind ∈ K) :
    g.kind ≠ Kind.received := by
  intro h
  rw [h] at hg
  have := (Bool.and_eq_true_iff.mp hK).1
  rw [Bool.not_eq_true', ← Bool.not_eq_true, List.contains_iff_mem] at this
  exact this hg

section
variable {s₀ s : State} {k : Nat} {l : List Signal} {Q : State → Prop}

/-- While no command waits, a closed class of handovers keeps what each of its handovers keeps. -/
theorem Ends.closed (K : List Signal) (P : State → Prop) (hK : Closed K = true)
    (hP : ∀ g s, g.kind ∈ K → s.ulp.queue = [] → P s → P (handle g s).1) (hl : ∀ g ∈ l, g.kind ∈ K)
    (hq : s.ulp.queue = []) (hs : P s) : Ends k l s fun t => P t ∧ t.ulp.queue = [] :=
  Ends.of_keeps (fun g => g.kind ∈ K) (fun t => P t ∧ t.ulp.queue = [])
    (fun g s hg hs => ⟨⟨hP g s hg hs.2 hs.1, handle_queue (not_received_of_closed hK hg) hs.2⟩, hands_of_closed hK hg hs.2⟩) hl ⟨hs, hq⟩
    fun _ h => h

/-- The fields that a handover of a kind may touch while no command waits. -/
def Signal.idleBlocks : Signal → List Block
  | .serve => [.ulp]
  | g => g.blocks

theorem idleBlocks_kind (g : Signal) : g.kind.idleBlocks = g.idleBlocks := by
  have h := blocks_kind g
  cases g
  case report k f => by_cases h : k = .forceCut <;> simp [Signal.kind, Signal.idleBlocks, Signal.blocks, h]
  all_goals rfl

theorem idleBlocks_of_ne {g : Signal} (h : g ≠ .serve) : g.idleBlocks = g.blocks := by
  cases g
  case serve => exact (h rfl).elim
  all_goals rfl

theorem handle_idleBlocks {g : Signal} (hq : s.ulp.queue = []) : Only g.idleBlocks s (handle g s).1 := by
  by_cases hg : g = .serve
  · subst hg
    rw [handle]
    rcases serveQueue_cases s with he | ⟨r, rs, -, he⟩ | ⟨f, q, hf, -⟩
    · rw [he]; exact Only.refl _ _
    · rw [he]; rfl
    · rw [hq] at hf; exact nomatch hf
  · rw [idleBlocks_of_ne hg]
    exact handle_blocks g s

/-- While no command waits, a closed class of handovers touches only the fields that its kinds touch. -/
theorem Ends.only (K : List Signal) (T : List Block) (hK : Closed K = true)
    (hT : (K.all fun k => k.idleBlocks.all T.contains) = true) (hl : ∀ g ∈ l, g.kind ∈ K) (hq : s.ulp.queue = []) :
    Ends k l s fun t => Only T s t := by
  refine (Ends.closed K (fun t => Only T s t) hK (fun g t hg hq ht => ht.trans ((handle_idleBlocks hq).mono ?_)) hl hq
    (Only.refl _ _)).mono fun t ht => ht.1
  rw [← idleBlocks_kind]
  exact List.all_eq_true.mp hT _ hg

/-- While no command waits, a cascade leaves the configuration, the switch inputs and the time. -/
theorem Ends.sameConfig (hl : ∀ g ∈ l, g.kind ∈ eventKinds) (hq : s.ulp.queue = []) (ha : s₀.SameConfig s) :
    Ends k l s fun t => s₀.SameConfig t ∧ t.sib = s.sib ∧ t.par = s.par ∧ t.ms = s.ms := by
  refine (Ends.closed eventKinds
    (fun t => s₀.Keeps (fun _ => True) t ∧ Only [.hau, .oru, .pcl, .dlc, .igt, .fbf, .sbu, .pcc, .spu, .psc, .ulp] s t)
    (by decide)
    (fun g t _ hq ht =>
      ⟨keeps_handle hitsKeep_true g (fun _ => hq) ht.1, ht.2.trans (handle_idle_only g t (fun _ => hq) rfl)⟩) hl hq
    ⟨sameConfig_iff_keeps.mpr ha, Only.refl _ _⟩).mono ?_
  rintro t ⟨⟨hc, ho⟩, -⟩
  exact ⟨sameConfig_iff_keeps.mp hc, ho.sib rfl, ho.par rfl, ho.ms rfl⟩

/-! ### The upstream hold -/

/-- The slot is emptied at once; the queue is served behind everything else. -/
theorem Ends.holdBegin (h : Ends k (l ++ [.serve]) (beginHold s).1 Q) : Ends (k + 1) (.holdBegin :: l) s Q := by
  intro n hn
  rw [cascade_pos (by omega)]
  exact h _ (by omega)

theorem Ends.holdEnd (hs : s.Still) (h : ∀ t, Upstream s t → Ends k l t Q) : Ends (k + 23) (.holdEnd :: l) s Q :=
  Ends.le (Ends.step (t := s) (new := [.arbiter, .serve]) rfl (by simp)
    (Ends.upstream rfl hs fun t ht => Ends.upstream rfl (ht.still hs) fun u hu => h u (ht.trans hu))) (by omega)

end

end Sys2Proof.Machine
end

section
/-! PROOFS. The frames of the Uplink as the receiver finds them. -/

namespace Sys2Proof.Machine

open Sys2Proof

section
variable {s : State} {ct : Byte} {p : List Byte}

/-- The bytes behind the SYNC of a frame with a given CHECK. -/
theorem rxHead_frame (hp : p.length ≤ 60) (check : Byte) :
    rxHead (1 :: ct :: byte p.length :: (p ++ [check])) =
      if crc8 (1 :: ct :: byte p.length :: p) = check then .frame ct p [] else .bad := by
  have hlen : (byte p.length).toNat = p.length := byte_toNat (by omega)
  simp [rxHead, hlen, Nat.not_lt.mpr hp]

@[simp] theorem rxScan_nil (flush : Bool) (n : Nat) : rxScan flush n [] = ([], []) := by cases n <;> rfl

/-- Bytes without a SYNC hold no frame. -/
theorem rxScan_clean (flush : Bool) : ∀ (bs : List Byte) (n : Nat), (∀ b ∈ bs, b ≠ 0xA5) → bs.length ≤ n →
    rxScan flush n bs = ([], []) := by
  intro bs
  induction bs with
  | nil => intro n _ _; exact rxScan_nil flush n
  | cons b bs ih =>
    intro n hb hn
    obtain ⟨n, rfl⟩ : ∃ m, n = m + 1 := ⟨n - 1, by simp at hn; omega⟩
    rw [rxScan, if_neg (hb b List.mem_cons_self)]
    exact ih n (fun c hc => hb c (List.mem_cons_of_mem _ hc)) (by simpa using hn)

/-- A SYNC with a frame that is not whole, or is none, behind it. -/
theorem rxScan_broken {flush : Bool} {n : Nat} {bs : List Byte} (h : rxHead bs = .bad ∨ flush = true ∧ rxHead bs = .incomplete)
    (hb : ∀ b ∈ bs, b ≠ 0xA5) (hn : bs.length ≤ n) : rxScan flush (n + 1) (0xA5 :: bs) = ([], []) := by
  rw [rxScan, if_pos rfl]
  rcases h with h | ⟨hf, h⟩
  · rw [h]; exact rxScan_clean flush bs n hb hn
  · rw [h, hf]; exact rxScan_clean true bs n hb hn

/-- Fewer bytes than a head and a CHECK are no frame. -/
theorem rxHead_short {bs : List Byte} (h : bs.length ≤ 3) : rxHead bs = .bad ∨ rxHead bs = .incomplete := by
  match bs, h with
  | [], _ => exact .inr rfl
  | k :: bs, h =>
    by_cases hk : k = 1
    · subst hk
      match bs, h with
      | [], _ => exact .inr rfl
      | [_], _ => exact .inr rfl
      | ct :: len :: rest, h =>
        have hrest : rest.length ≤ len.toNat := by simp at h; omega
        by_cases hlen : 60 < len.toNat
        · exact .inl (if_pos hlen)
        · exact .inr ((if_neg hlen).trans (if_pos hrest))
    · exact .inl (if_neg hk)

theorem rx_cleared {l : List Byte} (h : s.ulp.rx = l) : { s with ulp := { s.ulp with rx := l } } = s := by rw [← h]

/-- A whole and correct frame is the reception of its payload. -/
theorem exec_frameBytes (hrx : s.ulp.rx = []) (hp : p.length ≤ 60) :
    exec (.commandFrameReceived (frameBytes ct p)) s = hostCommand ct p s := by
  change finish (receiveBytes false (frameBytes ct p) s) = finish (hostFrame ct p s)
  unfold receiveBytes hostFrame
  by_cases ha : s.awake = true
  · have hscan : ∀ n, rxScan false (n + 1) (frameBytes ct p) = ([(ct, p)], []) := by
      intro n
      have hframe : frameBytes ct p = 0xA5 :: (1 :: ct :: byte p.length :: (p ++ [crc8 (1 :: ct :: byte p.length :: p)])) := rfl
      rw [hframe, rxScan, if_pos rfl, rxHead_frame hp, if_pos rfl]
      simp
    rw [if_pos ha, if_pos ⟨ha, hp⟩, hrx, List.nil_append]
    dsimp only
    rw [hscan, rx_cleared hrx]
    rfl
  · rw [if_neg ha, if_neg (fun h => ha h.1)]

/-- Bytes that the receiver finds no frame in leave at most an empty receiver. -/
theorem receiveBytes_none {flush : Bool} {bs : List Byte} (ha : s.awake = true)
    (h : rxScan flush ((s.ulp.rx ++ bs).length + 1) (s.ulp.rx ++ bs) = ([], [])) :
    finish (receiveBytes flush bs s) = .next { s with ulp := { s.ulp with rx := [] } } := by
  unfold receiveBytes
  rw [if_pos ha]
  dsimp only
  rw [h]
  exact finish_quiet _

/-- Settles O15: the receiver's search on a whole frame, on one with a wrong CHECK, and on a short one. -/
theorem frameIsItsCommandOrLeavesNoTrace : Obligations.FrameIsItsCommandOrLeavesNoTrace := by
  refine ⟨fun ct s hrx => ⟨fun p hp => exec_frameBytes hrx hp, exec_frameBytes hrx (by simp), fun idx e he => ?_,
    fun n v => ?_, fun bs hbs => ?_, fun v => exec_frameBytes hrx (by simp), fun a i n => ?_, exec_frameBytes hrx (by simp)⟩,
    fun s ha => ⟨fun ct check p hrx hp hct hpay hcheck hcrc => ?_, fun bs hrx hlen hb => ?_, fun bs hrx hlen hb => ?_⟩⟩
  · exact exec_frameBytes hrx (by simp; omega)
  · exact exec_frameBytes hrx (by simp)
  · exact exec_frameBytes hrx (by simp; omega)
  · exact exec_frameBytes hrx (by simp)
  · refine (receiveBytes_none ha ?_).trans (congrArg _ (rx_cleared hrx))
    rw [hrx, List.nil_append]
    refine rxScan_broken (.inl ?_) ?_ (by simp)
    · rw [rxHead_frame hp, if_neg (Ne.symm hcrc)]
    · have hlen : byte p.length ≠ 0xA5 := by
        intro h
        have := congrArg BitVec.toNat h
        rw [byte_toNat (by omega)] at this
        simp at this
        omega
      intro b hb
      simp only [List.mem_cons, List.mem_append, List.not_mem_nil, or_false] at hb
      rcases hb with rfl | rfl | rfl | hb | rfl
      · decide
      · exact hct
      · exact hlen
      · exact hpay b hb
      · exact hcheck
  · refine (receiveBytes_none ha ?_).trans (congrArg _ (rx_cleared hrx))
    rw [hrx, List.nil_append]
    exact rxScan_broken ((rxHead_short hlen).imp_right fun h => ⟨rfl, h⟩) hb (by simp)
  · refine receiveBytes_none ha ?_
    rw [hrx, List.append_nil]
    exact rxScan_broken ((rxHead_short hlen).imp_right fun h => ⟨rfl, h⟩) hb (by simp)

end

end Sys2Proof.Machine
end

section
/-! SUPPORT. A command of the host from the reception of its frame to its reply (11 R188 to R190). -/

namespace Sys2Proof.Machine

open Sys2Proof

section
variable {s u : State} {ct : Byte} {p : List Byte} {k : Nat} {Q : State → Prop}

/-! ### Reception -/

/-- The state in which a frame's execution begins. -/
def State.begun (s : State) : State := { s with spu := s.spu.told s.ms, ulp := { s.ulp with executing := true } }

/-- The frame that the queue holds. -/
def State.frameOf (s : State) (ct : Byte) (p : List Byte) : RxFrame := ⟨ct, p, s.spu.rxSeq + 1, s.ms⟩

theorem State.Receptive.prompt (h : s.Receptive) : s.Prompt := by
  obtain ⟨ha, -, he, hr, hs, hq, ho⟩ := h
  exact ⟨ha, he, hr, hs, hq, ho⟩

/-- The one frame in the queue is executed. -/
theorem serveQueue_of_one {f : RxFrame} (hr : s.ulp.resetDue = none) (he : s.ulp.executing = false) (hs : s.ulp.slot = none)
    (ho : s.ulp.overruns = []) (hq : s.ulp.queue = [f]) :
    serveQueue s = executeFrame f { s with ulp := { s.ulp with queue := [] } } := by
  unfold serveQueue
  rw [if_neg (by simp [hr, he]), hq]
  split
  · rfl
  · rw [if_neg (by simp [hs]), ho]

/-- The handovers of a command's execution: its effects, its reply, what follows the reply, the next command. -/
def CmdResult.handovers (r : CmdResult) (ct : Byte) (p : List Byte) : List Signal :=
  r.act.2 ++ ([.reply ⟨ct, replyPayload (commandCode p) r.status r.fields, r.reset⟩] ++ (r.post ++ [.serve]))

/-- A command whose frame comes while nothing waits is executed at once. -/
theorem Ends.hostFrame {r : CmdResult} (hp : s.Prompt) (hlen : p.length ≤ 60)
    (hr : commandResult (s.frameOf ct p) s.begun = r) (h : Ends 990 (r.handovers ct p) r.act.1 Q) :
    Q (Machine.settle (Machine.hostFrame ct p s)) := by
  obtain ⟨ha, he, hd, hs, hq, ho⟩ := hp
  have hframe : Machine.hostFrame ct p s = (s, [.received ct p]) := if_pos ⟨ha, hlen⟩
  rw [hframe]
  have hreceived : handle (.received ct p) s =
      ({ s with spu := s.spu.told s.ms, ulp := { s.ulp with queue := [s.frameOf ct p] } }, [.serve]) := by
    simp only [handle, receiveFrame, hq]
    rfl
  have hexec : handle .serve { s with spu := s.spu.told s.ms, ulp := { s.ulp with queue := [s.frameOf ct p] } } =
      (r.act.1, r.handovers ct p) := by
    have hu : State.begun s =
        { s with spu := s.spu.told s.ms, ulp := { s.ulp with queue := [], executing := true } } := by
      rw [State.begun, ← hq]
    refine Eq.trans (serveQueue_of_one (f := s.frameOf ct p) (by exact hd) (by exact he) (by exact hs) (by exact ho) rfl) ?_
    have hrun : executeFrame (s.frameOf ct p)
        { s with spu := s.spu.told s.ms, ulp := { s.ulp with queue := [] } } = (r.act.1, r.handovers ct p) := by
      rw [hu] at hr
      rw [executeFrame]
      dsimp only
      rw [hr]
      simp only [CmdResult.handovers, List.append_assoc]
      rfl
    exact hrun
  refine Ends.settle (a := (s, _)) (Ends.step (k := 999) hreceived (by simp) ?_)
  refine Ends.step (k := 998) hexec (by simp) ?_
  simp only [List.append_eq, List.append_nil]
  exact Ends.le h (by omega)

theorem exec_of_settle {c : Instr} {t : State} (hc : c.frame = some (ct, p)) (h : settle (hostFrame ct p s) = t) :
    exec c s = .next t := by
  rw [exec_of_frame hc, hostCommand, finish_eq, h]

/-! ### The reply -/

/-- The execution is over. -/
def State.ended (s : State) : State := { s with ulp := { s.ulp with executing := false } }

/-- With nothing waiting, the service of the queue does nothing. -/
theorem serveQueue_of_nothing (hq : s.ulp.queue = []) (ho : s.ulp.overruns = []) : serveQueue s = quiet s := by
  rcases serveQueue_cases s with h | ⟨r, rs, h, -⟩ | ⟨f, q, h, -⟩
  · exact h
  · rw [ho] at h; exact nomatch h
  · rw [hq] at h; exact nomatch h

/-- Nothing waits at the Uplink but the command that is executed. -/
def State.Vacant (s : State) : Prop := s.ulp.slot = none ∧ s.ulp.queue = [] ∧ s.ulp.overruns = []

theorem placeReply_of_free {r : Reply} (h : s.held = false) :
    placeReply r s = ({ s with ulp := { s.ulp with slot := some r } }, [.arbiter]) := if_neg (by simp [h])

/-- Under the upstream hold a reply that orders no reset leaves no trace. -/
theorem placeReply_of_held {r : Reply} (h : s.held = true) (hr : r.reset = none) : placeReply r s = quiet s := by
  rw [placeReply, if_pos h, hr]
  rfl

/-- A free line takes the reply in the slot. -/
theorem arbiterChoice_of_reply {r : Reply} (hf : s.ulp.lineFree = true) (hheld : s.held = false) (hs : s.ulp.slot = some r) :
    arbiterChoice s =
      ({ s with ulp := { s.ulp with slot := none, line := some ⟨.reply, r.ct, r.payload, r.reset⟩ } }, [.serve]) := by
  rw [arbiterChoice, if_pos hf, if_neg (by simp [hheld]), hs]
  rfl

theorem Ends.serve_nothing (hq : u.ulp.queue = []) (ho : u.ulp.overruns = []) {l : List Signal} (h : Ends k l u Q) :
    Ends (k + 1) (.serve :: l) u Q := Ends.skip (serveQueue_of_nothing hq ho) (by simp) h

theorem State.answered_of_free {r : Reply} (hs : u.ulp.slot = none) (hf : u.ulp.lineFree = true) :
    u.answered r = { u with ulp := { u.ulp with slot := none, line := some ⟨.reply, r.ct, r.payload, r.reset⟩ } } := by
  rw [State.answered, if_pos hf, State.send, ← hs]

/-- The reply of a command that hands on nothing more. -/
theorem Ends.answers {r : Reply} (hv : u.Vacant) (hheld : u.held = false) (h : Q (u.ended.answered r)) :
    Ends 5 [.reply r, .serve] u Q := by
  obtain ⟨hs, hq, ho⟩ := hv
  refine Ends.step (k := 4) (placeReply_of_free (s := u.ended) hheld) (by simp) ?_
  by_cases hf : u.ulp.lineFree = true
  · rw [State.answered_of_free (u := u.ended) hs hf] at h
    refine Ends.step (k := 3) (arbiterChoice_of_reply hf hheld rfl) (by simp) ?_
    exact Ends.serve_nothing (k := 2) (by exact hq) (by exact ho)
      (Ends.serve_nothing (k := 1) (by exact hq) (by exact ho) (Ends.nil h))
  · rw [State.answered, if_neg (show ¬ u.ended.ulp.lineFree = true from hf)] at h
    refine Ends.arbiter_busy (k := 3) (by exact Bool.eq_false_iff.mpr hf) ?_
    exact Ends.serve_nothing (k := 2) (by exact hq) (by exact ho) (Ends.nil h)

theorem Ends.answer {r : Reply} (hv : u.Vacant) (hheld : u.held = false) (h : Q (u.ended.answered r)) :
    Ends 990 [.reply r, .serve] u Q := Ends.le (Ends.answers hv hheld h) (by omega)

/-- A reply that orders no reset. -/
theorem Ends.replied {r : Reply} (hv : u.Vacant) (hr : r.reset = none) (h : Q (u.ended.replied r)) :
    Ends 990 [.reply r, .serve] u Q := by
  by_cases hheld : u.ended.held = true
  · rw [State.replied, if_pos hheld] at h
    obtain ⟨-, hq, ho⟩ := hv
    exact Ends.le (Ends.step (k := 4) (placeReply_of_held hheld hr) (by simp)
      (Ends.serve_nothing (u := u.ended) (k := 3) hq ho (Ends.nil h))) (by omega)
  · rw [State.replied, if_neg hheld] at h
    exact Ends.answer hv (Bool.eq_false_iff.mpr hheld) h

/-! ### The tests of a command -/

/-- The state in which a command other than FORCE_MODE runs. -/
def State.running (s : State) : State := { s.afterFrame with ulp := { s.ulp with executing := true } }

theorem running_ended (he : s.ulp.executing = false) : s.running.ended = s.afterFrame := by
  rw [State.ended, State.running, State.afterFrame, ← he]

theorem begun_ended (he : s.ulp.executing = false) : s.begun.ended = { s with spu := s.spu.told s.ms } := by
  rw [State.ended, State.begun, ← he]

theorem State.Prompt.vacant (h : s.Prompt) : s.running.Vacant := by
  obtain ⟨-, -, -, hs, hq, ho⟩ := h
  exact ⟨hs, hq, ho⟩

/-- The channel of `ct` may use a need (11 R193). -/
def State.Allowed (s : State) (ct : Byte) (need : Option (Group × Bool)) : Prop :=
  channelOf ct < 2 ∧ accessAllows (if channelOf ct = 0 then s.ulp.platform else s.ulp.driver) need = true

/-- The payload passes the tests of code and length, and its access is tested by a need (11 R190 to R193). -/
structure Spells (p : List Byte) (need : Option (Group × Bool)) : Prop where
  need : commandNeed p = need
  length : lengthOk p = true
  nonzero : commandCode p ≠ 0
  le : (commandCode p).toNat ≤ 24
  short : p.length ≤ 60

theorem refusal_of_permitted {need : Option (Group × Bool)} {t : State} (hf : Spells p need) (hs : s.Allowed ct need)
    (hp : t.ulp.platform = s.ulp.platform) (hd : t.ulp.driver = s.ulp.driver) : refusal ct p t = none := by
  obtain ⟨hch, hacc⟩ := hs
  have hne : p ≠ [] := by
    intro h
    exact hf.nonzero (by rw [h]; rfl)
  rw [refusal, if_neg (by omega), if_neg (by simpa [hne] using ⟨hf.nonzero, hf.le⟩), if_neg (by simp [hf.length]), hf.need, hp, hd,
    if_neg (by simp [hacc])]

theorem commandResult_of_permitted {need : Option (Group × Bool)} (hf : Spells p need) (h18 : commandCode p ≠ 18)
    (hs : s.Allowed ct need) :
    commandResult (s.frameOf ct p) s.begun = runCommand (channelOf ct == 0) (s.spu.rxSeq + 1) s.ms p s.running := by
  rw [commandResult, show refusal (s.frameOf ct p).ct (s.frameOf ct p).payload s.begun = none from
    refusal_of_permitted hf hs rfl rfl]
  exact congrArg (runCommand (channelOf ct == 0) (s.spu.rxSeq + 1) s.ms p) (if_neg h18)

/-! ### Commands that only answer -/

/-- A command whose effect hands nothing on. -/
theorem exec_replied {c : Instr} {r : CmdResult} {t : State} (hc : c.frame = some (ct, p)) (hp : s.Prompt)
    (hlen : p.length ≤ 60) (hr : commandResult (s.frameOf ct p) s.begun = r) (hact : r.act = quiet u) (hpost : r.post = [])
    (hreset : r.reset = none) (hv : u.Vacant) (hu : u.ended = t) :
    exec c s = .next (t.replied (replyTo ct (commandCode p) r.status r.fields)) := by
  refine exec_of_settle hc (Ends.hostFrame (Q := (· = _)) hp hlen hr ?_)
  rw [CmdResult.handovers, hact, hpost, hreset, ← hu]
  exact Ends.replied hv rfl rfl

theorem replied_of_free {r : Reply} (h : s.held = false) : s.replied r = s.answered r := if_neg (by simp [h])

/-- A command of the host that leaves `t`, with its frame counted, and answers. -/
theorem exec_answered {c : Instr} {r : CmdResult} {t : State} {need : Option (Group × Bool)} (hc : c.frame = some (ct, p))
    (hp : s.Receptive) (hs : s.Allowed ct need) (hf : Spells p need) (h18 : commandCode p ≠ 18)
    (hr : runCommand (channelOf ct == 0) (s.spu.rxSeq + 1) s.ms p s.running = r) (hact : r.act = quiet u)
    (hpost : r.post = []) (hreset : r.reset = none) (hv : u.Vacant) (hu : u.ended = t) (hheld : t.held = false) :
    exec c s = .next (t.answered (replyTo ct (commandCode p) r.status r.fields)) := by
  rw [← replied_of_free hheld]
  exact exec_replied hc (State.Receptive.prompt hp) hf.short ((commandResult_of_permitted hf h18 hs).trans hr) hact hpost hreset
    hv hu

theorem commandCode_cons (c : Byte) (l : List Byte) : commandCode (c :: l) = c := rfl

/-- A command that answers and moves nothing else. -/
theorem exec_unmoved {c : Instr} {st : Status} {fs : List Byte} {need : Option (Group × Bool)} (hc : c.frame = some (ct, p))
    (hp : s.Receptive) (hs : s.Allowed ct need) (hf : Spells p need) (h18 : commandCode p ≠ 18)
    (hr : runCommand (channelOf ct == 0) (s.spu.rxSeq + 1) s.ms p s.running = ⟨st, fs, quiet s.running, [], none⟩) :
    exec c s = .next (s.afterFrame.answered (replyTo ct (commandCode p) st fs)) := by
  have hprompt := State.Receptive.prompt hp
  exact exec_answered hc hp hs hf h18 hr rfl rfl rfl (State.Prompt.vacant hprompt) (running_ended hp.2.2.1) hp.2.1

/-- A command that stores and answers. -/
theorem exec_stored {c : Instr} {st : Status} {fs : List Byte} {need : Option (Group × Bool)} {f : State → State}
    (hc : c.frame = some (ct, p)) (hp : s.Receptive) (hs : s.Allowed ct need) (hf : Spells p need) (h18 : commandCode p ≠ 18)
    (hr : runCommand (channelOf ct == 0) (s.spu.rxSeq + 1) s.ms p s.running = ⟨st, fs, quiet (f s.running), [], none⟩)
    (hv : (f s.running).Vacant) (hu : (f s.running).ended = f s.running.ended) (hheld : (f s.afterFrame).held = false) :
    exec c s = .next ((f s.afterFrame).answered (replyTo ct (commandCode p) st fs)) :=
  exec_answered hc hp hs hf h18 hr rfl rfl rfl hv (hu.trans (congrArg f (running_ended hp.2.2.1))) hheld

end

end Sys2Proof.Machine
end

section
/-! PROOFS. Table writes, reads, access words, PASSDOWN. -/

namespace Sys2Proof.Machine

open Sys2Proof

section
variable {s : State} {ct : Byte}

theorem spells_tableWrite {table idx : Byte} {e : List Byte} {g : Group} (hg : tableGroup table.toNat = some g)
    (he : e.length = entryLength table.toNat) (hl : e.length ≤ 57) : Spells (2 :: table :: idx :: e) (some (g, true)) where
  need := by
    change (tableGroup table.toNat).map _ = _
    rw [hg]; rfl
  length := by
    change (decide (3 ≤ (2 :: table :: idx :: e).length) && (decide (4 < table.toNat) || (2 :: table :: idx :: e).length == 3 + entryLength table.toNat)) = true
    simp [he]
    omega
  nonzero := by simp [commandCode]
  le := by simp [commandCode]
  short := by simp; omega

theorem runCommand_tableWrite {pl : Bool} {q : Nat} {t : Stamp} {table idx : Byte} {e : List Byte} {u : State} :
    runCommand pl q t (2 :: table :: idx :: e) u = tableWriteResult pl table.toNat idx.toNat e u := rfl

theorem spells_hitsClear (a b : Byte) : Spells [4, a, b] (some (.gate, true)) where
  need := rfl
  length := rfl
  nonzero := by simp [commandCode]
  le := by simp [commandCode]
  short := by simp

/-- Settles O48. -/
theorem gateTablesAreWritten : Obligations.GateTablesAreWritten := by
  intro ct idx n e s hr hp
  have hv := State.Prompt.vacant (State.Receptive.prompt hr)
  have hdir : e.length = 4 → Spells (2 :: 1 :: idx :: e) (some (.gate, true)) := fun hl =>
    spells_tableWrite (table := 1) rfl hl (by omega)
  have hentry : e.length = 6 → Spells (2 :: 2 :: idx :: e) (some (.gate, true)) := fun hl =>
    spells_tableWrite (table := 2) rfl hl (by omega)
  refine ⟨fun hl d hd hi => ?_, fun hl h => ?_, fun hl g hg hi => ?_, fun hl h => ?_, fun h1 h2 h3 h4 => ?_, fun h => ?_⟩
  · refine exec_stored (c := .tableWriteGateDir ct idx e) (st := .ok) (fs := [])
      (f := fun x => { x with igt := { x.igt with dir := x.igt.dir.set idx.toNat d } }) rfl hr hp (hdir hl)
      (by simp [commandCode]) ?_ hv rfl hr.2.1
    rw [runCommand_tableWrite, tableWriteResult]
    simp [plainResult, writeTable, writeGateDir, hd, hi]
  · refine exec_unmoved (c := .tableWriteGateDir ct idx e) (st := .range) (fs := []) rfl hr hp (hdir hl)
      (by simp [commandCode]) ?_
    rw [runCommand_tableWrite, tableWriteResult]
    rcases h with h | h
    · simp [plainResult, writeTable, writeGateDir, h]
    · cases hd : gateDirOf e <;> simp [plainResult, writeTable, writeGateDir, hd, Nat.not_le.mpr h]
  · refine exec_stored (c := .tableWriteGateEntry ct idx e) (st := .ok) (fs := [])
      (f := fun x => { x with igt := { x.igt with entries := x.igt.entries.set idx.toNat g } }) rfl hr hp (hentry hl)
      (by simp [commandCode]) ?_ hv rfl hr.2.1
    rw [runCommand_tableWrite, tableWriteResult]
    simp [plainResult, writeTable, writeGateEntry, hg, hi]
  · refine exec_unmoved (c := .tableWriteGateEntry ct idx e) (st := .range) (fs := []) rfl hr hp (hentry hl)
      (by simp [commandCode]) ?_
    rw [runCommand_tableWrite, tableWriteResult]
    rcases h with h | h
    · simp [plainResult, writeTable, writeGateEntry, h]
    · cases hd : gateEntryOf e <;> simp [plainResult, writeTable, writeGateEntry, hd, Nat.not_le.mpr h]
  · refine exec_stored (c := .hitsClear ct idx n) (st := .ok) (fs := [])
      (f := fun x => { x with igt := { x.igt with entries := clearHits idx.toNat n.toNat x.igt.entries } }) rfl hr hp
      (spells_hitsClear idx n) (by simp [commandCode]) ?_ hv rfl hr.2.1
    change plainResult (hitsClear idx.toNat n.toNat _) = _
    rw [hitsClear, if_pos ⟨h1, h2, h3, h4⟩]
    rfl
  · refine exec_unmoved (c := .hitsClear ct idx n) (st := .range) (fs := []) rfl hr hp (spells_hitsClear idx n)
      (by simp [commandCode]) ?_
    change plainResult (hitsClear idx.toNat n.toNat _) = _
    rw [hitsClear, if_neg (by omega)]
    rfl

/-! ### Reads -/

theorem spells_echo : Spells [1] none where
  need := rfl
  length := rfl
  nonzero := by simp [commandCode]
  le := by simp [commandCode]
  short := by simp

theorem spells_tableRead {a b : Byte} {g : Group} (hg : tableGroup a.toNat = some g) : Spells [3, a, b] (some (g, false)) where
  need := by
    change (tableGroup a.toNat).map _ = _
    rw [hg]; rfl
  length := rfl
  nonzero := by simp [commandCode]
  le := by simp [commandCode]
  short := by simp

theorem spells_configGet {a : Byte} {g : Group} (hg : paramGroup a.toNat = some g) : Spells [6, a] (some (g, false)) where
  need := by
    change (paramGroup a.toNat).map _ = _
    rw [hg]; rfl
  length := rfl
  nonzero := by simp [commandCode]
  le := by simp [commandCode]
  short := by simp

theorem spells_statusRead (a b : Byte) : Spells [7, a, b] (some (.user, false)) where
  need := rfl
  length := rfl
  nonzero := by simp [commandCode]
  le := by simp [commandCode]
  short := by simp

theorem spells_areaPeek (a b c d : Byte) : Spells [21, a, b, c, d] (some (.buffer, false)) where
  need := rfl
  length := rfl
  nonzero := by simp [commandCode]
  le := by simp [commandCode]
  short := by simp

/-- The parameters of a group are numbered 1 to 46. -/
theorem paramGroup_range {n : Nat} {g : Group} (h : paramGroup n = some g) : 1 ≤ n ∧ n ≤ 46 := by
  unfold paramGroup at h
  split_ifs at h
  all_goals omega

/-- The reply of a command that reads: what it has read, or RANGE. -/
def readReply (ct code : Byte) : Option (List Byte) → Reply
  | some fs => replyTo ct code .ok fs
  | none => replyTo ct code .range []


theorem exec_read {c : Instr} {p : List Byte} {need : Option (Group × Bool)} {o : Option (List Byte)} (hc : c.frame = some (ct, p))
    (hp : s.Receptive) (hs : s.Allowed ct need) (hf : Spells p need) (h18 : commandCode p ≠ 18)
    (hr : runCommand (channelOf ct == 0) (s.spu.rxSeq + 1) s.ms p s.running = readResult o s.running) :
    exec c s = .next (s.afterFrame.answered (readReply ct (commandCode p) o)) := by
  cases o with
  | some fs => exact exec_unmoved hc hp hs hf h18 hr
  | none => exact exec_unmoved hc hp hs hf h18 hr

/-- Settles O47: each command reads the state in which it runs, which shows what the state before shows. -/
theorem readsAnswerWithoutEffect : Obligations.ReadsAnswerWithoutEffect := by
  intro ct a b idx s hr
  refine ⟨fun hc => ?_, fun hp => ?_, fun hp => ?_, fun g hg hp => ?_, fun g hg hp => ?_⟩
  · exact exec_unmoved (c := .echo ct) (st := .ok) (fs := [6, 0x6C, 0x02, Config.siliconRevision]) rfl hr ⟨hc, rfl⟩ spells_echo
      (by simp [commandCode]) rfl
  · exact exec_read (c := .statusRead ct a b) (o := statusRead a.toNat b.toNat s.afterFrame) rfl hr hp (spells_statusRead a b)
      (by simp [commandCode]) rfl
  · refine exec_read (c := .areaPeek ct a idx b) (o := areaPeek a.toNat idx.toNat b.toNat s) rfl hr hp (spells_areaPeek _ _ _ _)
      (by simp [commandCode]) ?_
    have hidx : le2 (byte idx.toNat) (byte (idx.toNat / 256)) = idx.toNat := le2_bytes (by omega)
    change readResult (areaPeek a.toNat (le2 (byte idx.toNat) (byte (idx.toNat / 256))) b.toNat s.running) _ = _
    rw [hidx]
    rfl
  · have h := exec_read (c := .tableRead ct a b)
      (o := (readTable a.toNat b.toNat s).map fun e => num1 a.toNat ++ num1 b.toNat ++ e) rfl hr hp (spells_tableRead hg)
      (by simp [commandCode]) rfl
    rw [h]
    cases readTable a.toNat b.toNat s with
    | some e => simp only [Option.map, num1, byte_toNat_self]; rfl
    | none => rfl
  · have h := exec_read (c := .configGet ct a) (o := some (num1 a.toNat ++ num4 (s.par.get a.toNat))) rfl hr hp
      (spells_configGet hg) (by simp [commandCode]) (congrArg (readResult · s.running) (if_pos (paramGroup_range hg)))
    rw [h]
    simp only [num1, byte_toNat_self]
    rfl

/-! ### PASSDOWN -/

theorem spells_passdown {bs : List Byte} (h1 : 1 ≤ bs.length) (h16 : bs.length ≤ 16) :
    Spells (11 :: bs) (some (.dock, true)) where
  need := rfl
  length := by
    change (decide (2 ≤ (11 :: bs).length) && decide ((11 :: bs).length ≤ 17)) = true
    simp
    omega
  nonzero := by simp [commandCode]
  le := by simp [commandCode]
  short := by simp; omega

/-- Settles O53. -/
theorem passdownIsStoredOrRefused : Obligations.PassdownIsStoredOrRefused := by
  intro ct bs s hr hp h1 h16
  have hv := State.Prompt.vacant (State.Receptive.prompt hr)
  have hs := spells_passdown h1 h16
  have h18 : commandCode (11 :: bs) ≠ 18 := by simp [commandCode]
  refine ⟨fun hst hfit => ?_, fun hst hfull => ?_, fun hst => ?_⟩
  · refine exec_stored (c := .passdown ct bs) (st := .ok) (fs := [])
      (f := fun x => { x with fbf := { x.fbf with passdown := x.fbf.passdown ++ [⟨.passdown, bs⟩] } }) rfl hr hp hs h18 ?_ hv
      rfl hr.2.1
    exact congrArg plainResult ((if_pos hst).trans (if_pos hfit))
  · refine exec_unmoved (c := .passdown ct bs) (st := .busy) (fs := []) rfl hr hp hs h18 ?_
    exact congrArg plainResult ((if_pos hst).trans (if_neg (Nat.not_le.mpr hfull)))
  · refine exec_unmoved (c := .passdown ct bs) (st := .state) (fs := []) rfl hr hp hs h18 ?_
    exact congrArg plainResult (if_neg hst)

/-! ### Access words and PART_RESET -/

theorem spells_accessSet (c g w : Byte) : Spells [22, c, g, w] (some (.system, true)) where
  need := rfl
  length := rfl
  nonzero := by simp [commandCode]
  le := by simp [commandCode]
  short := by simp

theorem spells_accessFreeze : Spells [23] (some (.system, true)) where
  need := rfl
  length := rfl
  nonzero := by simp [commandCode]
  le := by simp [commandCode]
  short := by simp

theorem spells_partReset (v : Byte) : Spells [24, v] (some (.system, true)) where
  need := rfl
  length := rfl
  nonzero := by simp [commandCode]
  le := by simp [commandCode]
  short := by simp

/-- A PART_RESET's reply carries its reset. -/
theorem exec_partReset {c : Instr} {v : Byte} {k : ResetKind} (hc : c.frame = some (ct, [24, v])) (hr : s.Receptive)
    (hp : s.Permitted ct .system true) (hv : partResetResult v.toNat s.running = ⟨.ok, [], quiet s.running, [], some k⟩) :
    exec c s = .next (s.afterFrame.answered ⟨ct, [24, 0], some k⟩) := by
  have hprompt := State.Receptive.prompt hr
  refine exec_of_settle hc (Ends.hostFrame (Q := (· = _)) hprompt (spells_partReset v).short
    ((commandResult_of_permitted (spells_partReset v) (by simp [commandCode]) hp).trans hv) ?_)
  refine Ends.answer (u := s.running) (r := ⟨ct, [24, 0], some k⟩) (State.Prompt.vacant hprompt) hr.2.1 ?_
  rw [running_ended hr.2.2.1]

/-- Settles O60. -/
theorem accessWordsAndPartReset : Obligations.AccessWordsAndPartReset := by
  refine ⟨fun ct c g w s hr hp => ?_, fun ct v s hr hp hrx => ⟨?_, ?_, fun hv => ?_⟩⟩
  · have hv := State.Prompt.vacant (State.Receptive.prompt hr)
    have hs := spells_accessSet c g w
    have h18 : commandCode [22, c, g, w] ≠ 18 := by simp [commandCode]
    have hrun : ∀ q t, runCommand (channelOf ct == 0) q t [22, c, g, w] s.running =
        accessSetResult (channelOf ct == 0) c.toNat g.toNat w.toNat s.running := fun _ _ => rfl
    refine ⟨fun h => ?_, fun hch hf h => ?_, fun hch hf h1 hg h2 => ?_, fun hch hf h1 hg h2 => ?_, ?_⟩
    · refine exec_unmoved (c := .accessSet ct c g w) (st := .denied) (fs := []) rfl hr hp hs h18 ?_
      rw [hrun]
      unfold accessSetResult
      dsimp only
      rw [if_pos]
      · rfl
      · rcases h with h | h
        · exact .inl (by simp [h])
        · exact .inr h
    · refine exec_unmoved (c := .accessSet ct c g w) (st := .range) (fs := []) rfl hr hp hs h18 ?_
      rw [hrun]
      unfold accessSetResult
      dsimp only
      rw [if_neg (by simp [hch]; exact hf), if_pos]
      · rfl
      · rcases h with h | h | h | ⟨rfl, rfl⟩
        · exact .inl h
        · exact .inr (.inl h)
        · exact .inr (.inr (.inl h))
        · exact .inr (.inr (.inr ⟨rfl, rfl⟩))
    · subst h1 h2
      refine exec_stored (c := .accessSet ct 1 g 2) (st := .ok) (fs := [])
        (f := fun x => { x with ulp := { x.ulp with driver := x.ulp.driver.set g.toNat .write } }) rfl hr hp hs h18 ?_ hv rfl
        hr.2.1
      rw [hrun]
      unfold accessSetResult
      dsimp only
      rw [if_neg (by simp [hch]; exact hf), if_neg (by simp; omega), if_neg (by simp)]
      rfl
    · subst h1 h2
      refine exec_stored (c := .accessSet ct 0 g 0) (st := .ok) (fs := [])
        (f := fun x => { x with ulp := { x.ulp with platform := x.ulp.platform.set g.toNat .none } }) rfl hr hp hs h18 ?_ hv
        rfl hr.2.1
      rw [hrun]
      unfold accessSetResult
      dsimp only
      rw [if_neg (by simp [hch]; exact hf), if_neg (by simp; omega), if_pos (by simp)]
      rfl
    · exact exec_stored (c := .accessFreeze ct) (st := .ok) (fs := [])
        (f := fun x => { x with ulp := { x.ulp with freeze := true } }) rfl hr hp spells_accessFreeze (by simp [commandCode]) rfl
        hv rfl hr.2.1
  · exact exec_partReset (c := .partResetSoft ct) rfl hr hp rfl
  · exact exec_partReset (c := .partResetFull ct) rfl hr hp rfl
  · rw [exec_frameBytes hrx (by simp)]
    have hprompt := State.Receptive.prompt hr
    refine congrArg Host.Outcome.next (Ends.hostFrame (Q := (· = _)) hprompt (spells_partReset v).short
      (r := ⟨.range, [], quiet s.running, [], none⟩)
      ((commandResult_of_permitted (spells_partReset v) (by simp [commandCode]) hp).trans ?_) ?_)
    · change partResetResult v.toNat s.running = _
      unfold partResetResult
      split <;> first | omega | rfl
    · refine Ends.answer (u := s.running) (State.Prompt.vacant hprompt) hr.2.1 ?_
      rw [running_ended hr.2.2.1]
      rfl

end

end Sys2Proof.Machine
end

section
/-! SUPPORT. What runs in RUN without a block asking for DOZE or STANDBY: the policy, the gate, the posture, the line. -/

namespace Sys2Proof.Machine

open Sys2Proof

/-- A change of host state that the PSC hears of leaves the host awake enough for RUN. -/
def Signal.Wakes (g : Signal) : Prop := ∀ old new, g = .pscHost old new → new.dozes = false

theorem wakes_of_kind {g : Signal} (h : g.kind ≠ Kind.pscHost) : g.Wakes := by
  rintro old new rfl
  exact (h rfl).elim

/-- Handovers of given kinds, by evaluation. -/
theorem kinds_all {K l : List Signal} (h : (l.all fun g => K.contains g.kind) = true) : ∀ g ∈ l, g.kind ∈ K := fun g hg =>
  List.contains_iff_mem.mp (List.all_eq_true.mp h g hg)

/-- Handovers of given kinds, none of them a change of host state, by evaluation. -/
theorem plain_all {K l : List Signal} (h : (l.all fun g => K.contains g.kind && g.kind != Kind.pscHost) = true) :
    ∀ g ∈ l, g.kind ∈ K ∧ g.Wakes := by
  intro g hg
  have := List.all_eq_true.mp h g hg
  rw [Bool.and_eq_true, bne_iff_ne] at this
  exact ⟨List.contains_iff_mem.mp this.1, wakes_of_kind this.2⟩

theorem hostSignals_wakes {old new : HostState} (h : new.dozes = false) : ∀ g ∈ hostSignals old new, g.Wakes := by
  intro g hg o n e
  subst e
  unfold hostSignals at hg
  have : Signal.pscHost o n = .pscHost old new := by split_ifs at hg <;> simpa using hg
  cases this
  exact h

theorem withdraw_wakes (c : WithdrawCause) (g : Option Nat) (s : State) : ∀ x ∈ (withdraw c g s).2, x.Wakes := by
  intro x hx
  rcases List.mem_cons.mp hx with rfl | hx
  · exact wakes_of_kind (by simp [Signal.kind, adviceWithdrawnReport])
  · exact hostSignals_wakes rfl x hx

theorem wakeRequest_wakes (src : WakeSource) (s : State) : ∀ x ∈ (wakeRequest src s).2, x.Wakes := by
  have hstart : ∀ r h (t : State), Signal.kind r = Kind.report → ∀ x ∈ ((t, r :: hostSignals h .waking) : Act).2, x.Wakes := by
    intro r h t hr x hx
    rcases List.mem_cons.mp hx with rfl | hx
    · exact wakes_of_kind (by rw [hr]; simp)
    · exact hostSignals_wakes rfl x hx
  unfold wakeRequest
  split
  · exact fun x hx => nomatch hx
  · split
    · exact hstart _ _ _ rfl
    · exact hstart _ _ _ rfl
    · exact hstart _ _ _ rfl
    · exact withdraw_wakes _ _ _
    · exact fun x hx => nomatch hx
    · exact fun x hx => nomatch hx

theorem spuAction_wakes (s : State) : ∀ x ∈ (spuAction s).2, x.Wakes := by
  unfold spuAction
  split
  · exact fun x hx => nomatch hx
  · split
    · exact fun x hx => nomatch hx
    · dsimp only
      split
      · unfold adviseSleep
        split
        · intro x hx
          rcases List.mem_cons.mp hx with rfl | hx
          · exact wakes_of_kind (by simp [Signal.kind, sleepAdviceReport])
          · exact hostSignals_wakes rfl x hx
        · exact fun x hx => nomatch hx
      · exact wakeRequest_wakes _ _
      · exact fun x hx => nomatch hx

theorem spuEvaluate_wakes (t : SpuTrigger) (s : State) : ∀ x ∈ (spuEvaluate t s).2, x.Wakes := by
  have hepisode : ∀ g (s : State), ∀ x ∈ (beginEpisode g s).2, x.Wakes := fun g s x hx =>
    wakes_of_kind fun h => by
      have := hands_beginEpisode g s x hx
      rw [h] at this
      simp at this
  have hthen : ∀ {a : Act} {g}, (∀ x ∈ a.2, x.Wakes) → ∀ x ∈ (a.andThen (beginEpisode g)).2, x.Wakes := by
    intro a g ha x hx
    rcases List.mem_append.mp hx with h | h
    · exact ha x h
    · exact hepisode _ _ x h
  unfold spuEvaluate
  dsimp only
  split
  · refine hthen ?_
    split
    · exact withdraw_wakes _ _ _
    · exact fun x hx => nomatch hx
  · split
    · refine hthen ?_
      split
      · exact withdraw_wakes _ _ _
      · exact fun x hx => nomatch hx
    · exact fun x hx => nomatch hx

/-- No handover but a change of host state by HOST_STATE or by a cut lets the host sleep. -/
theorem handle_wakes {g : Signal} {s : State} (hq : s.ulp.queue = []) (hr : g.kind ≠ Kind.received) :
    ∀ x ∈ (handle g s).2, x.Wakes := by
  by_cases hf : g.idleFollows.contains Kind.pscHost = false
  · intro x hx
    refine wakes_of_kind fun h => ?_
    have := handle_idleFollows hq x hx
    rw [h, ← List.contains_iff_mem, hf] at this
    exact Bool.noConfusion this
  cases g
  case spuEval t => exact spuEvaluate_wakes t s
  case spuAction => exact spuAction_wakes s
  case wakeRequest src => exact wakeRequest_wakes src s
  case received => exact (hr rfl).elim
  case report k f => by_cases hk : k = .forceCut <;> exact (hf (by simp [Signal.idleFollows, hk])).elim
  all_goals exact (hf rfl).elim

/-! ### In RUN -/

/-- What a handover hands on in RUN while no command waits; with nothing pending at the gate when `calm`. -/
def Signal.runFollows (calm : Bool) : Signal → List Signal
  | .pscHost _ _ | .pscRecheck | .pscDeferred => []
  | .spaceEvent => if calm then [.arbiter] else [.arbiter, .headStep]
  | g => g.idleFollows

/-- What a handover touches then. -/
def Signal.runBlocks (calm : Bool) : Signal → List Block
  | .pscHost _ _ => [.psc]
  | .pscRecheck | .pscDeferred => []
  | .spaceEvent => if calm then [] else [.igt, .fbf]
  | g => g.idleBlocks

/-- A class of kinds that hands on itself in RUN. -/
def RunClosed (calm : Bool) (K : List Signal) : Bool :=
  !K.contains Kind.received && K.all fun k => (k.runFollows calm).all K.contains

/-- No handover of the class but a change of host state moves the PSC's record. -/
def RunStays (calm : Bool) (K : List Signal) : Bool :=
  !K.contains Kind.received && K.all fun k => decide (k = Kind.pscHost) || !(k.runBlocks calm).contains .psc

section
variable {s₀ s t : State} {k : Nat} {l : List Signal} {Q : State → Prop} {calm : Bool} {K : List Signal} {T : List Block}

theorem runFollows_kind (g : Signal) : g.kind.runFollows calm = g.runFollows calm := by
  cases g
  case report k f => by_cases hk : k = .forceCut <;> simp [Signal.kind, Signal.runFollows, Signal.idleFollows, hk]
  all_goals rfl

theorem runBlocks_kind (g : Signal) : g.kind.runBlocks calm = g.runBlocks calm := by
  cases g
  case report k f =>
    by_cases hk : k = .forceCut <;> simp [Signal.kind, Signal.runBlocks, Signal.idleBlocks, Signal.blocks, hk]
  all_goals rfl

theorem eq_pscHost_of_kind {g : Signal} (h : g.kind = Kind.pscHost) : ∃ o n, g = .pscHost o n := by
  cases g
  case pscHost o n => exact ⟨o, n, rfl⟩
  case report k f => by_cases hk : k = .forceCut <;> simp [Signal.kind, hk] at h
  all_goals simp [Signal.kind] at h

/-- In RUN a host that stays awake stops the doze timer and no more. -/
theorem hostChanged_of_run {old new : HostState} (hp : s.psc.power = .run) (hn : new.dozes = false) :
    hostChanged old new s = quiet { s with psc := { s.psc with doze := none } } := by
  unfold hostChanged
  rw [hp, hn]
  rfl

theorem standbyRecheck_of_run (hp : s.psc.power = .run) : standbyRecheck s = quiet s := by
  rw [standbyRecheck, if_neg (by simp [hp])]

theorem deferredRecheck_of_run (hp : s.psc.power = .run) : deferredRecheck s = quiet s := by
  rw [deferredRecheck, if_neg (by simp [hp])]

theorem spaceEvent_of_calm (hc : s.Calm) : spaceEvent s = (s, [.arbiter]) := by
  obtain ⟨-, hh, -, hp⟩ := hc
  rw [spaceEvent_of_idle hh, hp]
  rfl

/-- What every handover does in RUN while no command waits. -/
theorem handle_run {g : Signal} (hq : s.ulp.queue = []) (hp : s.psc.power = .run) (hw : g.Wakes)
    (hc : calm = true → s.Calm) :
    Act.Hands (g.runFollows calm) (handle g s) ∧ Only (g.runBlocks calm) s (handle g s).1 := by
  by_cases h : g.runFollows calm = g.idleFollows ∧ g.runBlocks calm = g.idleBlocks
  · rw [h.1, h.2]
    exact ⟨handle_idleFollows hq, handle_idleBlocks hq⟩
  cases g
  case pscHost old new =>
    rw [handle, hostChanged_of_run hp (hw old new rfl)]
    exact ⟨hands_quiet _, rfl⟩
  case pscRecheck =>
    rw [handle, standbyRecheck_of_run hp]
    exact ⟨hands_quiet _, Only.refl _ _⟩
  case pscDeferred =>
    rw [handle, deferredRecheck_of_run hp]
    exact ⟨hands_quiet _, Only.refl _ _⟩
  case spaceEvent =>
    cases calm with
    | true =>
      rw [handle, spaceEvent_of_calm (hc rfl)]
      exact ⟨hands_mk (by simp [Signal.runFollows, Signal.kind]), Only.refl _ _⟩
    | false => exact (h ⟨rfl, rfl⟩).elim
  all_goals exact (h ⟨rfl, rfl⟩).elim

/-- Such a handover stays in RUN. -/
theorem handle_power {g : Signal} (hK : RunStays calm K = true) (hg : g.kind ∈ K) (hw : g.Wakes) (hq : s.ulp.queue = [])
    (hp : s.psc.power = .run) (hc : calm = true → s.Calm) : (handle g s).1.psc.power = .run ∧ (handle g s).1.ulp.queue = [] := by
  simp only [RunStays, Bool.and_eq_true, List.all_eq_true, Bool.or_eq_true, Bool.not_eq_true', decide_eq_true_eq] at hK
  obtain ⟨hrec, hpsc⟩ := hK
  refine ⟨?_, handle_queue (fun h => ?_) hq⟩
  · rcases hpsc _ hg with h | h
    · obtain ⟨o, n, rfl⟩ := eq_pscHost_of_kind h
      rw [handle, hostChanged_of_run hp (hw o n rfl)]
      exact hp
    · rw [(handle_run hq hp hw hc).2.psc (by rw [← runBlocks_kind]; exact h), hp]
  · rw [h, ← List.contains_iff_mem, hrec] at hg
    exact Bool.noConfusion hg

theorem not_received_of_stays {g : Signal} (hK : RunStays calm K = true) (hg : g.kind ∈ K) : g.kind ≠ Kind.received := by
  simp only [RunStays, Bool.and_eq_true, Bool.not_eq_true'] at hK
  intro h
  rw [h, ← List.contains_iff_mem, hK.1] at hg
  exact Bool.noConfusion hg

/-- In RUN, while no command waits: what each handover of a class keeps, where it hands on the class or does nothing. -/
theorem Ends.runKeeps (K : List Signal) (X : State → Prop) (hK : RunStays false K = true)
    (hX : ∀ g t, g.kind ∈ K → g.Wakes → t.ulp.queue = [] → t.psc.power = .run → X t → X (handle g t).1)
    (hH : ∀ g t, g.kind ∈ K → t.ulp.queue = [] → t.psc.power = .run → X t →
      (g.runFollows false).all K.contains = true ∨ handle g t = quiet t)
    (hl : ∀ g ∈ l, g.kind ∈ K ∧ g.Wakes) (hq : s.ulp.queue = []) (hp : s.psc.power = .run) (hs : X s) :
    Ends k l s fun t => X t ∧ t.psc.power = .run := by
  refine Ends.of_keeps (fun g => g.kind ∈ K ∧ g.Wakes) (fun t => X t ∧ t.psc.power = .run ∧ t.ulp.queue = []) ?_ hl
    ⟨hs, hp, hq⟩ fun _ h => ⟨h.1, h.2.1⟩
  rintro g t ⟨hg, hw⟩ ⟨hx, hpt, hqt⟩
  refine ⟨⟨hX g t hg hw hqt hpt hx, handle_power hK hg hw hqt hpt nofun⟩, fun x hx' => ⟨?_, ?_⟩⟩
  · rcases hH g t hg hqt hpt hx with h | h
    · exact List.contains_iff_mem.mp (List.all_eq_true.mp h _ ((handle_run (calm := false) hqt hpt hw nofun).1 x hx'))
    · rw [h] at hx'; exact nomatch hx'
  · exact handle_wakes hqt (not_received_of_stays hK hg) x hx'

/-- In RUN, while no command waits, a class of handovers that asks for no other power state stays in RUN and touches only
the fields that its kinds touch. -/
theorem Ends.inRun (calm : Bool) (K : List Signal) (T : List Block) (hK : RunClosed calm K = true)
    (hS : RunStays calm K = true) (hcalm : calm = true → (K.all fun k => !(k.runBlocks calm).contains .igt) = true)
    (hT : (K.all fun k => (k.runBlocks calm).all T.contains) = true) (hl : ∀ g ∈ l, g.kind ∈ K ∧ g.Wakes)
    (hq : s.ulp.queue = []) (hp : s.psc.power = .run) (hc : calm = true → s.Calm) :
    Ends k l s fun t => Only T s t ∧ t.psc.power = .run ∧ t.ulp.queue = [] ∧ (calm = true → t.igt = s.igt) := by
  have hfol : ∀ k ∈ K, (k.runFollows calm).all K.contains = true := List.all_eq_true.mp (Bool.and_eq_true_iff.mp hK).2
  refine Ends.of_keeps (fun g => g.kind ∈ K ∧ g.Wakes)
    (fun t => Only T s t ∧ t.psc.power = .run ∧ t.ulp.queue = [] ∧ (calm = true → t.igt = s.igt)) ?_ hl
    ⟨Only.refl _ _, hp, hq, fun _ => rfl⟩ fun _ h => h
  rintro g t ⟨hg, hw⟩ ⟨ho, hpt, hqt, hit⟩
  have htc : calm = true → t.Calm := fun h => by
    obtain ⟨-, h1, h2, h3⟩ := hc h
    rw [← hit h] at h1 h2 h3
    exact ⟨hqt, h1, h2, h3⟩
  obtain ⟨hh, hb⟩ := handle_run hqt hpt hw htc
  obtain ⟨hpow, hque⟩ := handle_power hS hg hw hqt hpt htc
  refine ⟨⟨ho.trans (hb.mono ?_), hpow, hque, fun h => ?_⟩, fun x hx => ⟨?_, ?_⟩⟩
  · rw [← runBlocks_kind]
    exact List.all_eq_true.mp hT _ hg
  · have := List.all_eq_true.mp (hcalm h) _ hg
    rw [runBlocks_kind, Bool.not_eq_true'] at this
    rw [hb.igt this, hit h]
  · exact List.contains_iff_mem.mp (List.all_eq_true.mp (hfol _ hg) _ (by rw [runFollows_kind]; exact hh x hx))
  · exact handle_wakes hqt (not_received_of_stays hS hg) x hx

/-- The handovers of the line and of the policy. -/
abbrev policyKinds : List Signal :=
  [Kind.report, .reportRemoved, .spaceEvent, .arbiter, .serve, Kind.reply, .holdBegin, .holdEnd, Kind.spuEval, .spuAction,
    Kind.wakeRequest, Kind.pscHost]

/-- Those with the gate's own. -/
abbrev headKinds : List Signal :=
  policyKinds ++ [Kind.igtCommit, .headStep, Kind.gateRoute, .headAdmit, Kind.holdCheck]

/-- Those with the posture's. -/
abbrev postureKinds : List Signal := headKinds ++ [.pclEval, .pclCommit]

/-- With nothing pending at the gate, the policy moves its own record, the doze timer and the line. -/
theorem Ends.policy (hl : ∀ g ∈ l, g.kind ∈ policyKinds ∧ g.Wakes) (hc : s.Calm) (hp : s.psc.power = .run) :
    Ends k l s fun t => Only [.fbf, .spu, .psc, .ulp] s t ∧ t.psc.power = .run ∧ t.igt = s.igt :=
  (Ends.inRun true policyKinds [.fbf, .spu, .psc, .ulp] (by decide) (by decide) (fun _ => by decide) (by decide) hl hc.1 hp fun _ => hc).mono
    fun _ h => ⟨h.1, h.2.1, h.2.2.2 rfl⟩

/-- The gate moves its own areas, the policy, the doze timer and the line. -/
theorem Ends.gate (hl : ∀ g ∈ l, g.kind ∈ headKinds ∧ g.Wakes) (hq : s.ulp.queue = []) (hp : s.psc.power = .run) :
    Ends k l s fun t => Only [.igt, .fbf, .spu, .psc, .ulp] s t ∧ t.psc.power = .run :=
  (Ends.inRun false headKinds [.igt, .fbf, .spu, .psc, .ulp] (by decide) (by decide) nofun (by decide) hl hq hp nofun).mono
    fun _ h => ⟨h.1, h.2.1⟩

/-- A posture moves the gate's too. -/
theorem Ends.posture (hl : ∀ g ∈ l, g.kind ∈ postureKinds ∧ g.Wakes) (hq : s.ulp.queue = []) (hp : s.psc.power = .run) :
    Ends k l s fun t => Only [.pcl, .igt, .fbf, .spu, .psc, .ulp] s t ∧ t.psc.power = .run :=
  (Ends.inRun false postureKinds [.pcl, .igt, .fbf, .spu, .psc, .ulp] (by decide) (by decide) nofun (by decide) hl hq hp nofun).mono
    fun _ h => ⟨h.1, h.2.1⟩

end

end Sys2Proof.Machine
end

section
/-! PROOFS. The posture's timers, follow-on steps of the dock, the gate's timer and space, compliance. -/

namespace Sys2Proof.Machine

open Sys2Proof

section
variable {s t : State} {k : Nat} {l : List Signal} {Q : State → Prop}

/-- A command ends where its handovers end. -/
theorem exec_ends {c : Instr} {a : Act} (h : exec c s = finish a) (hQ : Ends 1000 a.2 a.1 Q) :
    ∃ t, exec c s = .next t ∧ Q t := ⟨settle a, h, hQ.settle⟩

/-- An expiry of a running timer. -/
theorem finish_expiry {t : Timer} {r : Nat} {f : State → Act} (h : t = some r) :
    finish (onExpiry t f s) = finish (f (elapse r s)) := by rw [h]; rfl

/-! ### Posture -/

theorem endRestartHold_eq (h : 0 < s.par.postureDwell) :
    endRestartHold s =
      quiet
        { s with
          pcl :=
            { s.pcl with restart := none, dwell := if s.pcl.differs then some s.par.postureDwell else s.pcl.dwell } } := by
  have hdiff : ({ s.pcl with restart := none } : Pcl).differs = s.pcl.differs := rfl
  simp only [endRestartHold, hdiff, startPostureDwell, if_neg (Nat.ne_of_gt h)]
  split <;> rfl

/-- Settles O28: a commit moves the record at once, and the gate and the policy after it; the hold's expiry hands
nothing on. -/
theorem postureTimersCommitAndRelease : Obligations.PostureTimersCommitAndRelease := by
  refine ⟨fun c r s hp hd hc _ hq => ?_, fun r s hr hdw => ?_⟩
  · have hcommit : postureCommit (elapse r s) =
        ({ elapse r s with
            pcl :=
              { (elapse r s).pcl with
                code := c, row := (elapse r s).pcl.candRow, stamp := (elapse r s).ms, dwell := none, restart := none } },
          [postureReport s.pcl.code
            { elapse r s with
              pcl :=
                { (elapse r s).pcl with
                  code := c, row := (elapse r s).pcl.candRow, stamp := (elapse r s).ms, dwell := none, restart := none } },
            .igtCommit c, .spuEval .other]) := by
      rw [postureCommit, show (elapse r s).pcl.cand = some c from hc]
      rfl
    refine exec_ends ((finish_expiry hd).trans (congrArg finish hcommit)) ?_
    refine Ends.mono (Ends.and (Ends.gate (plain_all rfl) (by exact hq) (by exact hp))
      (Ends.sameConfig (s₀ := s) (kinds_all rfl) (by exact hq) (by exact State.SameConfig.refl s))) ?_
    rintro t ⟨⟨ho, -⟩, hconf, -⟩
    have hpcl := ho.pcl rfl
    refine ⟨by rw [hpcl], by rw [hpcl]; rfl, by rw [hpcl]; rfl, by rw [hpcl], by rw [hpcl], hconf, ?_⟩
    exact Only.trans (T := [.pcl, .igt, .fbf, .spu, .psc, .ulp]) rfl (ho.mono rfl)
  · refine (finish_expiry hr).trans ?_
    exact (congrArg finish (endRestartHold_eq (s := elapse r s) hdw)).trans (finish_quiet _)

/-! ### Traffic with nothing pending at the gate -/

theorem only_of_offLine {s t : State} (h : t.offLine = s.offLine) : Only [.fbf, .ulp] s t := by
  have h' := congrArg (State.blank [.fbf, .ulp]) h
  exact h'

theorem Upstream.eq_offLine {s t : State} (h : Upstream s t) (hc : s.Calm) : t.offLine = s.offLine := h.offLine hc.2.1 hc.2.2.2

/-- Reports and the like leave everything but what waits for the line or is on it. -/
theorem Ends.noise {g : Signal} (hg : g.isUpstream = true) (hc : s.Calm)
    (h : ∀ t, t.offLine = s.offLine → t.Calm → Ends k l t Q) : Ends (k + 11) (g :: l) s Q :=
  Ends.upstream hg hc.still fun t ht => h t (ht.eq_offLine hc) (ht.calm hc)

theorem Ends.noises {m : List Signal} (hm : ∀ g ∈ m, g.isUpstream = true) (hlen : m.length ≤ 4) (hc : s.Calm)
    (h : ∀ t, t.offLine = s.offLine → t.Calm → Ends k l t Q) : Ends (k + 44) (m ++ l) s Q :=
  Ends.upstreams hm hlen hc.still fun t ht => h t (ht.eq_offLine hc) (ht.calm hc)

/-! ### Follow-on steps -/

theorem beginStep_quiesce (h : s.dlc.state = .active) :
    beginStep .quiesce s = quiet { s with dlc := { s.dlc with step := some .quiesce, quiesceSent := false } } := by
  rw [beginStep, if_pos (by simp [Dlc.begins, stepState, h])]
  rfl

theorem walkNext_quiesce {o : Origin} (h : s.dlc.state = .active) (ha : s.awake = true) (hs : s.dlc.step = none)
    (hw : s.dlc.walk = some ⟨.quiesce, o⟩) : walkNext s = (s, [.dlcBegin .quiesce]) := by
  rw [walkNext, hw]
  dsimp only
  rw [if_pos ⟨ha, by simp [hs]⟩, h]
  rfl

/-- A walk to QUIESCED begins its one step. -/
theorem Ends.walkQuiesce {o : Origin} (h : s.dlc.state = .active) (ha : s.awake = true) (hs : s.dlc.step = none)
    (hw : s.dlc.walk = some ⟨.quiesce, o⟩)
    (hQ : Ends k l { s with dlc := { s.dlc with step := some .quiesce, quiesceSent := false } } Q) :
    Ends (k + 2) (.walkNext :: l) s Q :=
  Ends.step (walkNext_quiesce h ha hs hw) (by simp) (Ends.step (beginStep_quiesce h) (by simp) hQ)

theorem servePower_of_request {q : PowerReq} (hq : s.dlc.powerReq = some q) (hs : s.dlc.step = none) (hw : s.dlc.walk = none) :
    servePower s = (dockAuto q.target .psc { s with dlc := { s.dlc with powerReq := none } }).2 := by
  rw [servePower, hq]
  dsimp only
  rw [if_neg (by simp [Dlc.busy, hs, hw])]

/-! ### The pending grant -/

/-- At most one BUDGET report. -/
def budgetTail (s t : State) : List Signal :=
  if t.sbu.grant != s.sbu.grant || t.sbu.railState != s.sbu.railState || ((t.sbu.penSet == 0) != (s.sbu.penSet == 0)) then
    [budgetReport (t.sbu.grant != s.sbu.grant) (t.sbu.railState != s.sbu.railState)
      ((t.sbu.penSet == 0) != (s.sbu.penSet == 0)) t.par.bTotal t.sbu]
  else []

theorem budgetEvent_eq (f : State → Act) (s : State) : budgetEvent f s = ((f s).1, (f s).2 ++ budgetTail s (f s).1) := rfl

theorem budgetTail_upstream (s t : State) : (∀ g ∈ budgetTail s t, g.isUpstream = true) ∧ (budgetTail s t).length ≤ 1 := by
  unfold budgetTail
  split_ifs
  · exact ⟨by simp [budgetReport, Signal.isUpstream], by simp⟩
  · exact ⟨by simp, by simp⟩

theorem applyPen_upstream (told : Bool) (v : Nat) (s : State) :
    (∀ g ∈ (applyPen told v s).2, g.isUpstream = true) ∧ (applyPen told v s).2.length ≤ 1 := by
  unfold applyPen
  dsimp only
  split_ifs
  all_goals simp [chargeReport, Signal.isUpstream]

end

end Sys2Proof.Machine
end

section
/-! PROOFS. Commands whose effect hands nothing on: the unlock window, refusals, the dock's and the lock's. -/

namespace Sys2Proof.Machine

open Sys2Proof

section
variable {s u : State} {ct : Byte} {p : List Byte} {k : Nat} {Q : State → Prop}

/-- A one-byte command of a group. -/
theorem spells_one {c : Byte} {g : Group} (hn : commandNeed [c] = some (g, true)) (hl : lengthOk [c] = true) (h0 : c ≠ 0)
    (h24 : c.toNat ≤ 24) : Spells [c] (some (g, true)) := ⟨hn, hl, h0, h24, by simp⟩

/-- A command of one operand byte. -/
theorem spells_two {c v : Byte} {g : Group} (hn : commandNeed [c, v] = some (g, true)) (hl : lengthOk [c, v] = true) (h0 : c ≠ 0)
    (h24 : c.toNat ≤ 24) : Spells [c, v] (some (g, true)) := ⟨hn, hl, h0, h24, by simp⟩

theorem since_self (a : Stamp) : since a a = 0 := by simp [since]

/-- A command of the host that stores and answers, whether or not the upstream hold applies. -/
theorem exec_prompt {c : Instr} {st : Status} {fs : List Byte} {need : Option (Group × Bool)} {f : State → State}
    (hc : c.frame = some (ct, p)) (hp : s.Prompt) (hs : s.Allowed ct need) (hf : Spells p need) (h18 : commandCode p ≠ 18)
    (hr : runCommand (channelOf ct == 0) (s.spu.rxSeq + 1) s.ms p s.running = ⟨st, fs, quiet (f s.running), [], none⟩)
    (hv : (f s.running).Vacant) (hu : (f s.running).ended = f s.running.ended) :
    exec c s = .next ((f s.afterFrame).replied (replyTo ct (commandCode p) st fs)) :=
  exec_replied hc hp hf.short ((commandResult_of_permitted hf h18 hs).trans hr) rfl rfl rfl hv
    (hu.trans (congrArg f (running_ended hp.2.1)))

/-! ### The unlock window -/

theorem unlockStands_running : unlockStands (s.spu.rxSeq + 1) s.ms s.running = true := by
  have : s.running.spu.rxSeq = s.spu.rxSeq + 1 := rfl
  rw [unlockStands, if_pos (by rw [this])]
  simp [show s.running.ms = s.ms from rfl, since_self]

/-- FORCE_MODE runs with the window as the frame finds it. -/
theorem commandResult_forceMode {v : Byte} (hs : s.Permitted ct .sleep true) :
    commandResult (s.frameOf ct [18, v]) s.begun =
      plainResult (forceModeCommand v.toNat (channelOf ct == 0) (s.spu.rxSeq + 1) s.ms s.begun) := by
  rw [commandResult, show refusal (s.frameOf ct [18, v]).ct (s.frameOf ct [18, v]).payload s.begun = none from
    refusal_of_permitted (need := some (.sleep, true)) (spells_two rfl rfl (by simp) (by simp)) hs rfl rfl]
  rfl

/-- A FORCE_MODE that closes the window and leaves `f`. -/
theorem exec_forceMode {v : Byte} {st : Status} {f : State → State} (hp : s.Prompt) (hs : s.Permitted ct .sleep true)
    (hr : forceModeCommand v.toNat (channelOf ct == 0) (s.spu.rxSeq + 1) s.ms s.begun = (st, quiet (f s.begun)))
    (hv : (f s.begun).Vacant) (hf : (f s.begun).ended = f s.begun.ended) :
    exec (.forceMode ct v) s =
      .next ((f { s with spu := s.spu.told s.ms }).replied (replyTo ct 18 st [])) := by
  refine exec_replied (c := .forceMode ct v) rfl hp (by simp) ((commandResult_forceMode hs).trans (congrArg plainResult hr)) rfl rfl
    rfl hv ?_
  rw [hf, begun_ended hp.2.1]

/-- The window that a frame finds open: opened by the frame right before, less than 100 ms ago. -/
theorem notifyOnlyAllowed_iff {pl : Bool} :
    notifyOnlyAllowed pl (s.spu.rxSeq + 1) s.ms s.begun = true ↔
      pl = true ∧ ∃ u, s.spu.unlock = some u ∧ u.seq = s.spu.rxSeq ∧ since s.ms u.time < 100 := by
  have hb : s.begun.spu.unlock = s.spu.unlock.filter fun u => s.spu.rxSeq + 1 < u.seq + 2 := rfl
  rw [notifyOnlyAllowed, hb]
  cases hu : s.spu.unlock with
  | none => simp
  | some u =>
    by_cases h : s.spu.rxSeq + 1 < u.seq + 2
    · simp only [Option.filter, h, decide_true, if_true]
      simp
      tauto
    · simp only [Option.filter, h, decide_false]
      simp
      intros
      omega

/-- Settles O58. -/
theorem notifyOnlyNeedsTheUnlockWindow : Obligations.NotifyOnlyNeedsTheUnlockWindow := by
  intro ct v s hp hs
  have hunlock : Spells [17] (some (.sleep, true)) := spells_one rfl rfl (by simp) (by simp)
  have h17 : commandCode [17] ≠ 18 := by simp [commandCode]
  have hv := State.Prompt.vacant hp
  have hvb : s.begun.Vacant := hv
  have hallowed := fun pl => (notifyOnlyAllowed_iff (s := s) (pl := pl))
  have hdenied : notifyOnlyAllowed (channelOf ct == 0) (s.spu.rxSeq + 1) s.ms s.begun ≠ true →
      exec (.forceMode ct 1) s = .next (s.afterFrame.replied (replyTo ct 18 .denied [])) := fun h =>
    exec_forceMode (v := 1) (f := fun x => { x with spu := { x.spu with unlock := none } }) hp hs (if_neg h) hvb rfl
  refine ⟨fun h => ?_, fun h => ?_, ?_, fun u hu hch hseq ht => ?_, fun h => ?_, fun u hu h => ?_, fun h => ?_⟩
  · refine exec_prompt (c := .policyUnlock ct) (st := .ok) (fs := [])
      (f := fun x => { x with spu := { x.spu with unlock := some ⟨s.spu.rxSeq + 1, s.ms⟩ } }) rfl hp hs hunlock h17 ?_ hv rfl
    change plainResult (policyUnlock (channelOf ct == 0) (s.spu.rxSeq + 1) s.ms s.running) = _
    rw [policyUnlock, if_pos (by simp [h]), unlockStands_running]
    rfl
  · refine exec_prompt (c := .policyUnlock ct) (st := .denied) (fs := [])
      (f := fun x => { x with spu := { x.spu with unlock := none } }) rfl hp hs hunlock h17 ?_ hv rfl
    change plainResult (policyUnlock (channelOf ct == 0) (s.spu.rxSeq + 1) s.ms s.running) = _
    rw [policyUnlock, if_neg (by simp [h])]
    rfl
  · exact exec_forceMode (v := 0) (st := .ok)
      (f := fun x => { x with spu := { x.spu with unlock := none, forceMode := .notifyThenCut } }) hp hs rfl hvb rfl
  · exact exec_forceMode (v := 1) (st := .ok)
      (f := fun x => { x with spu := { x.spu with unlock := none, forceMode := .notifyOnly } }) hp hs
      (if_pos ((hallowed (channelOf ct == 0)).mpr ⟨by simp [hch], u, hu, hseq, ht⟩)) hvb rfl
  · refine hdenied fun hn => ?_
    obtain ⟨hch, u, hu, -⟩ := (hallowed _).mp hn
    rcases h with h | h
    · rw [h] at hu; exact nomatch hu
    · simp [h] at hch
  · refine hdenied fun hn => ?_
    obtain ⟨-, w, hw, hseq, ht⟩ := (hallowed _).mp hn
    obtain rfl : u = w := Option.some.inj (hu.symm.trans hw)
    omega
  · refine exec_forceMode (f := fun x => x) hp hs ?_ hvb rfl
    unfold forceModeCommand
    split <;> first | omega | rfl

end

end Sys2Proof.Machine
end

section
/-! PROOFS. The tests of a command frame, the refusals of the dock's commands, the rotation lock. -/

namespace Sys2Proof.Machine

open Sys2Proof

section
variable {s u : State} {ct : Byte} {p : List Byte} {k : Nat} {Q : State → Prop}

/-- A command of the host ends where its handovers end. -/
theorem exec_frame_ends {c : Instr} {r : CmdResult} (hc : c.frame = some (ct, p)) (hp : s.Prompt) (hlen : p.length ≤ 60)
    (hr : commandResult (s.frameOf ct p) s.begun = r) (h : Ends 990 (r.handovers ct p) r.act.1 Q) :
    ∃ t, exec c s = .next t ∧ Q t := ⟨_, exec_of_settle hc rfl, Ends.hostFrame hp hlen hr h⟩

/-- A frame that fails a test is answered with that test's status. -/
theorem exec_refused {st : Status} (hr : s.Receptive) (hrx : s.ulp.rx = []) (hlen : p.length ≤ 60)
    (h : refusal ct p s.begun = some st) :
    exec (.commandFrameReceived (frameBytes ct p)) s = .next (s.afterFrame.answered (replyTo ct (p.headD 0) st [])) := by
  have hprompt := State.Receptive.prompt hr
  rw [exec_frameBytes hrx hlen]
  refine congrArg Host.Outcome.next (Ends.hostFrame (Q := (· = _)) hprompt hlen (r := plainResult (st, quiet s.running)) ?_ ?_)
  · rw [commandResult, show refusal (s.frameOf ct p).ct (s.frameOf ct p).payload s.begun = some st from h]
    rfl
  · refine Ends.answer (u := s.running) (r := replyTo ct (p.headD 0) st []) (State.Prompt.vacant hprompt) hr.2.1 ?_
    rw [running_ended hr.2.2.1]

/-- Settles O46: the tests in their order. -/
theorem commandFramesAreRefusedInOrder : Obligations.CommandFramesAreRefusedInOrder := by
  refine ⟨fun ct p s hr hrx hlen => ⟨fun h => ?_, fun hch h => ?_, fun hch h1 h24 hl => ?_, fun hch h1 h24 hl ha => ?_⟩,
    fun ct s => ⟨fun ha bs => ?_, fun ha hheld hq hslot ho => ?_⟩⟩
  · exact exec_refused (st := .denied) hr hrx hlen (if_pos h)
  · refine exec_refused (st := .unknown) hr hrx hlen ((if_neg (by omega)).trans (if_pos h))
  · have hc : ¬(p = [] ∨ commandCode p = 0 ∨ 24 < (commandCode p).toNat) := by
      rintro (rfl | h | h)
      · exact absurd h1 (by simp)
      · rw [commandCode] at h; rw [h] at h1; exact absurd h1 (by simp)
      · exact absurd h (Nat.not_lt.mpr h24)
    exact exec_refused (st := .malformed) hr hrx hlen
      ((if_neg (by omega)).trans ((if_neg hc).trans (if_pos (by simp [hl]))))
  · have hc : ¬(p = [] ∨ commandCode p = 0 ∨ 24 < (commandCode p).toNat) := by
      rintro (rfl | h | h)
      · exact absurd h1 (by simp)
      · rw [commandCode] at h; rw [h] at h1; exact absurd h1 (by simp)
      · exact absurd h (Nat.not_lt.mpr h24)
    refine exec_refused (st := .denied) hr hrx hlen
      ((if_neg (by omega)).trans ((if_neg hc).trans ((if_neg (by simp [hl])).trans (if_pos ?_))))
    rw [show s.begun.ulp.platform = s.ulp.platform from rfl, show s.begun.ulp.driver = s.ulp.driver from rfl, ha]
    rfl
  · exact (congrArg finish (if_neg (by simp [ha]))).trans (finish_quiet s)
  · have hframe : hostFrame ct [1] s = (s, [.received ct [1]]) := if_pos ⟨ha, by simp⟩
    refine exec_of_settle (c := .echo ct) (p := [1]) rfl ?_
    rw [hframe]
    refine Ends.settle_eq ?_
    refine Ends.le (Ends.step (k := 0) (new := []) ?_ (by simp) (Ends.nil rfl)) (by omega)
    have h4 : ¬ s.ulp.queue.length < 4 := by omega
    have hs : s.ulp.slot.isNone = false := by simpa [Option.isSome_iff_ne_none] using hslot
    simp only [handle, receiveFrame, if_neg h4]
    rw [if_neg (by exact Bool.eq_false_iff.mp hheld), if_neg (by simp [hs]), if_pos ho]
    rfl

/-! ### Refusals of the dock's commands -/

theorem spells_dockStep (v : Byte) : Spells [9, v] (some (.dock, true)) := spells_two rfl rfl (by simp) (by simp)
theorem spells_dockAuto (v : Byte) : Spells [10, v] (some (.dock, true)) := spells_two rfl rfl (by simp) (by simp)

/-- The bytes of a DOCK_STEP. -/
theorem dockStepResult_of {v : Nat} {st : DockStep} (h : dockStepOf v = some st) :
    dockStepResult v s = plainResult (dockStepCommand st s) := by rw [dockStepResult, h]

/-- A DOCK_STEP that is refused. -/
theorem exec_dockStep_refused {c : Instr} {v : Byte} {st : DockStep} {r : Status} (hc : c.frame = some (ct, [9, v]))
    (hv : dockStepOf v.toNat = some st) (hr : s.Receptive) (hp : s.Permitted ct .dock true)
    (h : dockStepCommand st s.running = (r, quiet s.running)) :
    exec c s = .next (s.afterFrame.answered (replyTo ct 9 r [])) := by
  refine exec_unmoved (st := r) hc hr hp (spells_dockStep v) (by simp [commandCode]) ?_
  change dockStepResult v.toNat s.running = _
  rw [dockStepResult_of hv, h]
  rfl

theorem walkTargetOf_isSome {v : Nat} (h : v ≤ 2) : ∃ t, walkTargetOf v = some t := by
  obtain rfl | rfl | rfl : v = 0 ∨ v = 1 ∨ v = 2 := by omega
  all_goals exact ⟨_, rfl⟩

/-- A DOCK_AUTO that only answers. -/
theorem exec_dockAuto_unmoved {v : Byte} {t : WalkTarget} {r : Status} (hv : walkTargetOf v.toNat = some t) (hr : s.Receptive)
    (hp : s.Permitted ct .dock true) (h : dockAuto t .host s.running = (r, quiet s.running)) :
    exec (.dockAuto ct v) s = .next (s.afterFrame.answered (replyTo ct 10 r [])) := by
  refine exec_unmoved (c := .dockAuto ct v) (st := r) rfl hr hp (spells_dockAuto v) (by simp [commandCode]) ?_
  change dockAutoResult v.toNat s.running = _
  rw [dockAutoResult, hv]
  exact congrArg plainResult h

theorem busy_eq_false {d : Dlc} (h1 : d.step = none) (h2 : d.walk = none) : d.busy = false := by simp [Dlc.busy, h1, h2]

/-! ### The rotation lock -/

theorem spells_rotationLock (v : Byte) : Spells [14, v] (some (.user, true)) := spells_two rfl rfl (by simp) (by simp)

theorem rotationLock_on (h : s.oru.lock = false) :
    rotationLock true s = quiet { s with oru := { s.oru with lock := true, dwell := none } } := by
  simp [rotationLock, h]

theorem rotationLock_on_again (h : s.oru.lock = true) : rotationLock true s = quiet s := by
  simp [rotationLock, h]

theorem rotationLock_off_again (h : s.oru.lock = false) : rotationLock false s = quiet s := by
  simp [rotationLock, h]

/-- The candidate's commit by the lock's release. -/
theorem rotationLock_commit {c : Orient} (hl : s.oru.lock = true) (hc : s.oru.candidate = some c) (hne : c ≠ s.oru.committed) :
    rotationLock false s = ({ s with oru := { s.oru with lock := false } }, [.oruCommit true]) := by
  rw [rotationLock, if_neg (by simp), if_pos hl]
  dsimp only
  rw [hc]
  exact if_neg hne

theorem orientCommit_unlock {c : Orient} (hl : s.oru.lock = false) (hc : s.oru.candidate = some c) :
    orientCommit true s =
      ({ s with oru := { s.oru with committed := c, dwell := none } },
        [orientReport s.oru.committed .unlock { s.oru with committed := c, dwell := none }, .pclEval]) := by
  rw [orientCommit, hc]
  simp [hl]

/-- A lock released over a candidate that differs. -/
theorem exec_rotationLock_commit {c : Orient} (hr : s.Receptive) (hs : s.Permitted ct .user true) (hp : s.psc.power = .run)
    (hl : s.oru.lock = true) (hc : s.oru.candidate = some c) (hne : c ≠ s.oru.committed) :
    ∃ t, exec (.rotationLock ct 0) s = .next t ∧ t.oru = { s.oru with committed := c, dwell := none, lock := false } ∧
      t.par = s.par ∧ Only [.oru, .pcl, .igt, .fbf, .spu, .psc, .ulp] s t := by
  have hrun : runCommand (channelOf ct == 0) (s.spu.rxSeq + 1) s.ms [14, 0] s.running =
      ⟨.ok, [], ({ s.running with oru := { s.running.oru with lock := false } }, [.oruCommit true]), [], none⟩ := by
    rw [← rotationLock_commit (s := s.running) hl hc hne]
    rfl
  refine exec_frame_ends (c := .rotationLock ct 0) rfl (State.Receptive.prompt hr) (spells_rotationLock 0).short
    ((commandResult_of_permitted (spells_rotationLock 0) (by simp [commandCode]) hs).trans hrun) ?_
  refine Ends.le (Ends.step (k := 0) (orientCommit_unlock (c := c) (by rfl) hc) (by simp) ?_) (by omega)
  refine Ends.mono (Ends.posture (plain_all rfl) (by exact hr.2.2.2.2.2.1) (by exact hp)) ?_
  rintro t ⟨ho, -⟩
  have hoff : Only [.oru, .spu, .ulp] s
      { s.running with oru := { s.running.oru with committed := c, dwell := none, lock := false } } := rfl
  exact ⟨ho.oru rfl, ho.par rfl, (hoff.mono rfl).trans (ho.mono rfl)⟩

/-- Settles O55. -/
theorem rotationLockHoldsAndCommits : Obligations.RotationLockHoldsAndCommits := by
  intro ct v s hr hs
  have hprompt := State.Receptive.prompt hr
  have hv := State.Prompt.vacant hprompt
  have h18 : ∀ v : Byte, commandCode [14, v] ≠ 18 := fun v => by simp [commandCode]
  refine ⟨fun h => ?_, fun h => ?_, fun h => ?_, fun c hc hl hne hp => ?_, fun h => ?_⟩
  · exact exec_stored (c := .rotationLock ct 1) (st := .ok) (fs := [])
      (f := fun x => { x with oru := { x.oru with lock := true, dwell := none } }) rfl hr hs (spells_rotationLock 1) (h18 1)
      (congrArg (fun a => plainResult (.ok, a)) (rotationLock_on (s := s.running) h)) hv rfl hr.2.1
  · exact exec_unmoved (c := .rotationLock ct 1) (st := .ok) (fs := []) rfl hr hs (spells_rotationLock 1) (h18 1)
      (congrArg (fun a => plainResult (.ok, a)) (rotationLock_on_again (s := s.running) h))
  · exact exec_unmoved (c := .rotationLock ct 0) (st := .ok) (fs := []) rfl hr hs (spells_rotationLock 0) (h18 0)
      (congrArg (fun a => plainResult (.ok, a)) (rotationLock_off_again (s := s.running) h))
  · exact exec_rotationLock_commit hr hs hp hl hc hne
  · refine exec_unmoved (c := .rotationLock ct v) (st := .range) (fs := []) rfl hr hs (spells_rotationLock v) (h18 v) ?_
    change rotationLockResult v.toNat s.running = _
    rw [rotationLockResult, if_neg (by omega)]
    rfl

end

end Sys2Proof.Machine
end

section
/-! PROOFS. Follow-on steps of the dock and the pending grant, the gate's timer and space, compliance. -/

namespace Sys2Proof.Machine

open Sys2Proof

section
variable {s t : State} {k : Nat} {l : List Signal} {Q : State → Prop}

/-! ### The grant -/

theorem applyRequest_of_rise (hne : s.sbu.grant < s.sbu.requested) (hle : s.sbu.requested ≤ s.par.bTotal)
    (hr : s.sbu.railState ≠ .shed) : applyRequest s = raiseGrant s.sbu.requested false s := by
  unfold applyRequest
  dsimp only
  rw [if_neg (by omega), if_neg (by omega), if_neg hr, Nat.min_eq_left hle]
  simp [Nat.not_lt.mpr hle]

/-- The record once the SBU has applied the grant (04 R69, R77). -/
def Dlc.granted (changed : Bool) (period : Nat) (d : Dlc) : Dlc :=
  let d := if changed then { d with overdraw := 0 } else d
  match d.await with
  | none => d
  | some .ident => { d.attempt with attempts := 0, outcomes := [], await := none }
  | some .run => { d.opened ⟨headRun, []⟩ with slotTimer := some period, ready := some 200, await := none }

theorem grantApplied_eq (b : Bool) (s : State) :
    grantApplied b s = quiet { s with dlc := s.dlc.granted b s.par.pollPeriod } := by
  unfold grantApplied Dlc.granted
  dsimp only
  generalize (if b then { s.dlc with overdraw := 0 } else s.dlc) = d
  cases h : d.await with
  | none => rfl
  | some w => cases w <;> rfl

theorem Dlc.granted_ident {b : Bool} {n : Nat} {d : Dlc} (h : d.await = some .ident) :
    (d.granted b n).slot = some ⟨headIdentReq, []⟩ := by
  have : (if b then { d with overdraw := 0 } else d).await = d.await := by split <;> rfl
  unfold Dlc.granted
  dsimp only
  rw [this, h]
  rfl

theorem Dlc.granted_run {b : Bool} {n : Nat} {d : Dlc} (h : d.await = some .run) :
    (d.granted b n).slot = some ⟨headRun, []⟩ ∧ (d.granted b n).ready = some 200 := by
  have : (if b then { d with overdraw := 0 } else d).await = d.await := by split <;> rfl
  unfold Dlc.granted
  dsimp only
  rw [this, h]
  exact ⟨rfl, rfl⟩

/-- What a request hands on: the pen's reports, then what the DLC is told. -/
theorem applyRequest_shape (s : State) :
    ∃ pens mid, (applyRequest s).2 = pens ++ mid ∧ (∀ g ∈ pens, g.isUpstream = true) ∧ pens.length ≤ 1 ∧
      (pens = [] ∧ mid = [] ∨ ∃ b, mid = [.grantApplied b]) := by
  unfold applyRequest
  dsimp only
  split_ifs
  · exact ⟨[], _, rfl, by simp, by simp, .inr ⟨false, rfl⟩⟩
  · exact ⟨_, _, rfl, (applyPen_upstream ..).1, (applyPen_upstream ..).2, .inr ⟨true, rfl⟩⟩
  · exact ⟨[], [], rfl, by simp, by simp, .inl ⟨rfl, rfl⟩⟩
  · exact ⟨_, _, rfl, (applyPen_upstream ..).1, (applyPen_upstream ..).2, .inr ⟨_, rfl⟩⟩

theorem Only.without_igt {T : List Block} (h : Only (.igt :: T) s t) (he : t.igt = s.igt) : Only T s t := by
  have key : ∀ u : State, u.blank T =
      { u.blank (.igt :: T) with igt := if T.contains .igt then State.reset.igt else u.igt } := fun _ => rfl
  rw [Only, key, key, he, h]

/-- A request has been applied: the SBU's record is the request's, the DLC has been told if need be, and the traffic has
moved what it moves. -/
structure Applied (s t : State) : Prop where
  only : Only [.dlc, .igt, .fbf, .sbu, .pcc, .ulp] s t
  sbu : t.sbu = (applyRequest s).1.sbu
  dlc : t.dlc = s.dlc ∧ (applyRequest s).2 = [] ∨ ∃ b, t.dlc = s.dlc.granted b s.par.pollPeriod
  still : t.Still
  calm : s.Calm → t.Calm ∧ t.igt = s.igt
  head : s.igt.head = .idle → t.igt.head = .idle
  passdown : t.fbf.passdown = s.fbf.passdown
  hold : t.fbf.hold = s.fbf.hold

theorem Upstream.only (h : Upstream s t) : Only [.igt, .fbf, .ulp] s t := by
  have h' := congrArg (State.blank [.igt, .fbf, .ulp]) h.1
  exact h'

/-- A request is applied, with all it hands on. -/
theorem Ends.applied (hs : s.Still) (h : ∀ t, Applied s t → Ends k l t Q) :
    Ends (k + 89) ((budgetEvent applyRequest s).2 ++ l) (budgetEvent applyRequest s).1 Q := by
  obtain ⟨pens, mid, he, hpens, hlen, hmid⟩ := applyRequest_shape s
  have hone : Only [.sbu, .pcc] s (applyRequest s).1 := applyRequest_only s rfl
  have hs1 : (applyRequest s).1.Still := by
    refine ⟨?_, ?_⟩
    · rw [hone.ulp rfl]; exact hs.1
    · rw [hone.igt rfl, hone.fbf rfl]; exact hs.2
  rw [budgetEvent_eq, he, List.append_assoc, List.append_assoc]
  refine Ends.le (Ends.upstreams (k := k + 45) hpens (by omega) hs1 fun u hu => ?_) (by omega)
  have htail : ∀ v : State, Only [.dlc] u v → v.dlc = u.dlc ∧ pens ++ mid = [] ∨ (∃ b, v.dlc = u.dlc.granted b u.par.pollPeriod) →
      ∀ t, Upstream v t → Applied s t := by
    intro v ho hd t ht
    have hvu : Upstream (applyRequest s).1 u := hu
    have hall : Only [.dlc, .igt, .fbf, .sbu, .pcc, .ulp] s t :=
      ((hone.mono rfl).trans (hu.only.mono rfl)).trans ((ho.mono rfl).trans (ht.only.mono rfl))
    have hdlc : u.dlc = s.dlc := hu.dlc.trans (hone.dlc rfl)
    have hpar : u.par = s.par := hu.par.trans (hone.par rfl)
    have hv : v.Still := by
      refine ⟨?_, ?_⟩
      · rw [ho.ulp rfl]; exact (hu.still hs1).1
      · rw [ho.igt rfl, ho.fbf rfl]; exact (hu.still hs1).2
    refine ⟨hall, ?_, ?_, ht.still hv, fun hc => ?_, fun hh => ?_, ?_, ?_⟩
    · rw [ht.sbu, ho.sbu rfl, hu.sbu]
    · rw [ht.dlc, ← hdlc, ← hpar, he]
      rcases hd with ⟨hd, hm⟩ | hd
      · exact .inl ⟨hd, hm⟩
      · exact .inr hd
    · have hc1 : (applyRequest s).1.Calm := by
        obtain ⟨h1, h2, h3, h4⟩ := hc
        rw [State.Calm, hone.igt rfl, hone.ulp rfl]
        exact ⟨h1, h2, h3, h4⟩
      have hcu := hu.calm hc1
      have hcv : v.Calm := by
        obtain ⟨h1, h2, h3, h4⟩ := hcu
        rw [State.Calm, ho.igt rfl, ho.ulp rfl]
        exact ⟨h1, h2, h3, h4⟩
      refine ⟨ht.calm hcv, ?_⟩
      rw [ht.igt hcv.2.1 hcv.2.2.2, ho.igt rfl, hu.igt hc1.2.1 hc1.2.2.2, hone.igt rfl]
    · refine ht.head ?_
      rw [ho.igt rfl]
      exact hu.head (by rw [hone.igt rfl]; exact hh)
    · rw [ht.passdown, ho.fbf rfl, hu.passdown, hone.fbf rfl]
    · rw [ht.hold, ho.fbf rfl, hu.hold, hone.fbf rfl]
  obtain ⟨htu, htl⟩ := budgetTail_upstream s (applyRequest s).1
  rcases hmid with ⟨rfl, rfl⟩ | ⟨b, rfl⟩
  · rw [List.nil_append]
    exact Ends.le (Ends.upstreams (k := k) htu (by omega) (hu.still hs1) fun t ht =>
      h t (htail u (Only.refl _ _) (.inl ⟨rfl, rfl⟩) t ht)) (by omega)
  · refine Ends.le (Ends.step (k := k + 44) (grantApplied_eq b u) (by simp) ?_) (by omega)
    refine Ends.upstreams (m := budgetTail s (applyRequest s).1) (k := k) htu (by omega) (by exact hu.still hs1) fun t ht => ?_
    exact h t (htail { u with dlc := u.dlc.granted b u.par.pollPeriod } rfl (.inr ⟨b, rfl⟩) t ht)

/-- Settles O35. -/
theorem followOnStepsAndGrants : Obligations.FollowOnStepsAndGrants := by
  refine ⟨fun o s hst ha hs => ⟨fun hw => ?_, fun hw hq => ?_, fun hw hq => ?_⟩, fun s hc hpend hrail hlt hle => ?_⟩
  · have : walkNext s = (s, [.dlcBegin .quiesce]) := walkNext_quiesce hst ha hs hw
    refine (congrArg finish this).trans (congrArg Host.Outcome.next (Ends.settle_eq ?_))
    exact Ends.le (Ends.step (k := 0) (beginStep_quiesce hst) (by simp) (Ends.nil rfl)) (by omega)
  · have hserve : servePower s =
        startWalk .quiesce .psc { s with dlc := { s.dlc with powerReq := none } } := by
      rw [servePower_of_request hq hs hw, dockAuto, if_neg (by simp [Dlc.busy, hs, hw])]
      simp [PowerReq.target, walkStep, hst]
    refine (congrArg finish hserve).trans (congrArg Host.Outcome.next (Ends.settle_eq ?_))
    exact Ends.le (Ends.walkQuiesce (k := 0) (o := .psc) (by exact hst) (by exact ha) (by exact hs) (by rfl) (Ends.nil rfl))
      (by omega)
  · have hserve : servePower s = quiet { s with dlc := { s.dlc with powerReq := none } } := by
      rw [servePower_of_request hq hs hw, dockAuto, if_neg (by simp [Dlc.busy, hs, hw])]
      simp [PowerReq.target, walkStep, walkReached, hst]
    exact (congrArg finish hserve).trans (finish_quiet _)
  · have heq : pendingGrantApply s = budgetEvent applyRequest s := if_pos ⟨hpend, hrail⟩
    have hexec : exec .pendingGrantApply s = finish (budgetEvent applyRequest s) := congrArg finish heq
    have hreq : applyRequest s = raiseGrant s.sbu.requested false s := applyRequest_of_rise hlt hle hrail
    have hroom := penSetpoint_le_room (s.par.bTotal - s.sbu.requested) s
    have hsbu : (applyRequest s).1.sbu.grant = s.sbu.requested ∧ (applyRequest s).1.sbu.pending = false ∧
        (applyRequest s).1.sbu.capped = false ∧ (applyRequest s).1.sbu.requested = s.sbu.requested ∧
        (applyRequest s).1.sbu.penSet = penSetpoint (s.par.bTotal - s.sbu.requested) s := by
      rw [hreq]
      exact ⟨rfl, rfl, rfl, rfl, rfl⟩
    have hkinds : ∀ g ∈ (budgetEvent applyRequest s).2, g.kind ∈ eventKinds := fun g hg =>
      ((hands_applyRequest s).budgetEvent (by simp)).mono (by decide) g hg
    have hone : Only [.sbu, .pcc] s (applyRequest s).1 := applyRequest_only s rfl
    have hmain : Ends 1000 (budgetEvent applyRequest s).2 (budgetEvent applyRequest s).1 (Applied s) := by
      have := Ends.applied (k := 0) (l := []) (Q := Applied s) hc.still fun t h => Ends.nil h
      rw [List.append_nil] at this
      exact Ends.le this (by omega)
    refine exec_ends hexec ?_
    refine Ends.mono (Ends.and hmain (Ends.sameConfig (s₀ := s) hkinds ((congrArg Ulp.queue (hone.ulp rfl)).trans hc.1)
      (sameConfig_iff_keeps.mp (keeps_applyRequest (sameConfig_iff_keeps.mpr (.refl s)))))) ?_
    rintro t ⟨ha, hconf, -⟩
    obtain ⟨h1, h2, h3, h4, h5⟩ := hsbu
    have hgranted : s.dlc.await ≠ none → ∃ b, t.dlc = s.dlc.granted b s.par.pollPeriod := fun _ => by
      rcases ha.dlc with ⟨-, h⟩ | h
      · rw [hreq] at h
        simp [raiseGrant, Act.andThen] at h
      · exact h
    refine ⟨?_, ?_, ?_, ?_, ?_, fun hw => ?_, fun hw => ?_, hconf, ?_⟩
    · rw [ha.sbu, h1]
    · rw [ha.sbu, h2]
    · rw [ha.sbu, h3]
    · rw [ha.sbu, h4]
    · rw [ha.sbu, h1, h5]; omega
    · obtain ⟨b, hb⟩ := hgranted (by simp [hw])
      rw [hb, Dlc.granted_ident hw]
    · obtain ⟨b, hb⟩ := hgranted (by simp [hw])
      rw [hb]
      exact Dlc.granted_run hw
    · exact Only.without_igt (ha.only.mono rfl) (ha.calm hc).2

/-! ### The gate's timer and space -/

/-- The spill episode is over. -/
def State.unspilled (s : State) : State := { s with igt := { s.igt with displaced := false, expired := false } }

theorem holdCheck_of_empty {b : Bool} (h : s.fbf.hold = []) :
    holdCheck b s = quiet s.unspilled := by
  rw [holdCheck, h]
  rfl

theorem afterDiscard_nil (b : HoldBody) : afterDiscard b [] = [] := by cases b <;> rfl

/-- A lone head that leaves for its age: at most the one report, then the end of the episode. -/
theorem Ends.expireLone {f : HoldFrame} (hc : s.Calm)
    (h : ∀ t, t.offLine = (s.setHold []).unspilled.offLine → Ends k l t Q) :
    Ends (k + 12) ((expireHead f [] s).2 ++ l) (expireHead f [] s).1 Q := by
  have hend : ∀ u : State, u.offLine = (s.setHold []).offLine ∨
      u.offLine = State.offLine { s.setHold [] with igt := { s.igt with expired := true } } →
      Ends (k + 1) (.holdCheck true :: l) u Q := by
    intro u hu
    have hhold : u.fbf.hold = [] := by
      rcases hu with hu | hu
      · exact (congrArg (fun x : State => x.fbf.hold) hu :)
      · exact (congrArg (fun x : State => x.fbf.hold) hu :)
    refine Ends.step (holdCheck_of_empty hhold) (by simp) (h _ ?_)
    rcases hu with hu | hu
    · exact congrArg State.unspilled hu
    · exact congrArg State.unspilled hu
  simp only [expireHead, afterDiscard_nil, noteSpill]
  by_cases he : s.igt.expired = true
  · rw [show (s.setHold []).igt.expired = true from he, if_pos rfl]
    exact Ends.le (hend _ (.inl rfl)) (by omega)
  · rw [if_neg (show ¬ (s.setHold []).igt.expired = true from he)]
    refine Ends.noise (k := k + 1) (l := .holdCheck true :: l) rfl (by exact hc) fun t ht _ => hend t (.inr ht)

/-- A single pending release that finds room. -/
theorem queuePending_one {p : Pending} (h : 6 ≤ s.fbf.inputFree) :
    queuePending [p] s =
      { s with
        fbf := { s.fbf with input := s.fbf.input ++ [⟨.key, [byte p.code, 1]⟩] }
        igt :=
          { s.igt with
            keys := s.igt.keys.erase p.code
            pend := []
            idle := if p.origin = .base then 0 else s.igt.idle
            idleLeft := if p.origin = .base then 1000 else s.igt.idleLeft } } := by
  refine (if_pos h).trans ?_
  by_cases ho : p.origin = .base
  · simp only [if_pos ho]
    rfl
  · simp only [if_neg ho]
    rfl

/-- Settles O36. -/
theorem holdExpiryAndSpaceEvent : Obligations.HoldExpiryAndSpaceEvent := by
  refine ⟨fun f s hh hd hc => ?_, fun p s hp hi hl => ⟨fun h6 => ?_, fun h6 => ?_⟩⟩
  · have he : holdExpiry s = expireHead f [] (elapse (s.par.gateHold - since s.ms f.stamp) s) := by
      rw [holdExpiry, hh]
      dsimp only
      rw [if_neg (by simp [hd])]
    refine exec_ends (congrArg finish he) ?_
    have := Ends.expireLone (k := 0) (l := []) (f := f) (s := elapse (s.par.gateHold - since s.ms f.stamp) s)
      (Q := fun t => t.offLine = _) (by exact hc) fun t ht => Ends.nil ht
    rw [List.append_nil] at this
    exact Ends.le this (by omega)
  · have hq : queuePending [p] s = s := if_neg (by omega)
    have he : spaceEvent s = (s, [.arbiter]) := by rw [spaceEvent_of_idle hi, hp, hq]
    refine (congrArg finish he).trans (congrArg Host.Outcome.next (Ends.settle_eq ?_))
    exact Ends.le (Ends.arbiter_busy (k := 0) hl (Ends.nil rfl)) (by omega)
  · have he : spaceEvent s = (queuePending [p] s, [.arbiter]) := by rw [spaceEvent_of_idle hi, hp]
    rw [queuePending_one h6] at he
    refine (congrArg finish he).trans (congrArg Host.Outcome.next (Ends.settle_eq ?_))
    exact Ends.le (Ends.arbiter_busy (k := 0) (by exact hl) (Ends.nil rfl)) (by omega)

/-! ### Compliance -/

/-- A cut sequence is in progress. -/
structure Spu.Cutting (b : Spu) : Prop where
  host : b.host = .off
  stage : b.cutStage ≠ .none
  advising : b.advising = none
  compliance : b.compliance = none
  timer : b.cutTimer.isSome = true

theorem cutting_wakeRequest {src : WakeSource} (h : s.spu.Cutting) : (wakeRequest src s).1.spu.Cutting := by
  rw [wakeRequest, if_pos h.stage]
  exact ⟨h.host, h.stage, h.advising, h.compliance, h.timer⟩

theorem cutting_spuAction (h : s.spu.Cutting) : (spuAction s).1.spu.Cutting := by
  have h' : ({ s with spu := { s.spu with fired := true, dwell := none } } : State).spu.Cutting :=
    ⟨h.host, h.stage, h.advising, h.compliance, h.timer⟩
  unfold spuAction
  split
  · exact h
  · split
    · exact h
    · dsimp only
      split
      · rw [adviseSleep, if_neg (by rw [show _ = HostState.off from h'.host]; simp)]
        exact h'
      · exact cutting_wakeRequest h'
      · exact h'

theorem cutting_beginEpisode {g : Option Nat} (h : s.spu.Cutting) : (beginEpisode g s).1.spu.Cutting := by
  unfold beginEpisode
  split
  · exact ⟨h.host, h.stage, h.advising, h.compliance, h.timer⟩
  · dsimp only
    split <;> exact ⟨h.host, h.stage, h.advising, h.compliance, h.timer⟩

/-- An evaluation withdraws nothing from a host that is off. -/
theorem spuEvaluate_of_unadvised {g : SpuTrigger} (h : s.spu.host ≠ .advised) :
    spuEvaluate g s = quiet s ∨ spuEvaluate g s = beginEpisode (governingRule s) s := by
  unfold spuEvaluate
  simp only [h, decide_false, Bool.false_eq_true, false_and, if_false]
  split
  · exact .inr rfl
  · split
    · exact .inr rfl
    · exact .inl rfl

/-- No handover ends a cut sequence while no command waits. -/
theorem cutting_handle {g : Signal} (hq : s.ulp.queue = []) (h : s.spu.Cutting) : (handle g s).1.spu.Cutting := by
  by_cases hb : g.idleBlocks.contains .spu = false
  · rw [(handle_idleBlocks hq).spu hb]; exact h
  cases g
  case spuEval t =>
    rcases spuEvaluate_of_unadvised (g := t) (s := s) (by rw [h.host]; simp) with he | he
    · rw [handle, he]; exact h
    · rw [handle, he]; exact cutting_beginEpisode h
  case spuAction => exact cutting_spuAction h
  case wakeRequest src => exact cutting_wakeRequest h
  case cutAssert =>
    rw [handle, cutAssert]
    split
    · exact ⟨h.host, nofun, h.advising, h.compliance, rfl⟩
    · exact h
  case received =>
    rw [handle, receiveFrame]
    dsimp only
    split_ifs
    all_goals exact ⟨h.host, h.stage, h.advising, h.compliance, h.timer⟩
  all_goals exact (hb rfl).elim

/-- Settles O42. -/
theorem complianceRemindsThenCuts : Obligations.ComplianceRemindsThenCuts := by
  intro r s hcomp hhost hc
  have hdue : ∀ a : Act, complianceDue (elapse r s) = a → exec .complianceExpiry s = finish a := fun a h =>
    (finish_expiry hcomp).trans (congrArg finish h)
  have hif : (elapse r s).spu.host = .advised ∨ (elapse r s).spu.host = .entering := hhost
  refine ⟨fun h => ?_, fun hst hmode => ?_⟩
  · have hno : ¬((elapse r s).spu.stage = 2 ∧ (elapse r s).spu.forceMode = .notifyThenCut) := by
      rintro ⟨h2, hm⟩
      rcases h with h | h
      · exact h h2
      · rw [show s.spu.forceMode = .notifyThenCut from hm] at h; exact nomatch h
    refine exec_ends (hdue _ ((if_pos hif).trans (if_neg hno))) ?_
    exact Ends.le (Ends.noise (k := 0) rfl (by exact hc) fun t ht _ => Ends.nil ht) (by omega)
  · refine exec_ends (hdue _ ((if_pos hif).trans (if_pos ⟨hst, hmode⟩))) ?_
    have hkinds : ∀ g ∈ (beginCut (elapse r s)).2, g.kind ∈ eventKinds := by
      refine List.forall_mem_cons.mpr ⟨by simp [forceCutReport, Signal.kind], fun g hg => ?_⟩
      exact (show ∀ k ∈ hostKinds, k ∈ eventKinds by decide) _ (hostSignals_kinds _ _ g hg)
    have hq : (beginCut (elapse r s)).1.ulp.queue = [] := hc.1
    refine Ends.mono (Ends.and
      (Ends.closed eventKinds (fun t => t.spu.Cutting) (by decide) (fun g t _ hq h => cutting_handle hq h) hkinds hq
        ⟨rfl, nofun, rfl, rfl, rfl⟩)
      (Ends.sameConfig (s₀ := s) hkinds hq (State.SameConfig.refl s))) ?_
    rintro t ⟨⟨hcut, -⟩, hconf, hsib, -⟩
    exact ⟨hcut.host, hcut.stage, hcut.advising, hcut.compliance, hcut.timer, hconf, hsib⟩

end

end Sys2Proof.Machine
end

section
/-! SUPPORT. The dock after a change of its state: what the handovers of 04 R77 and of a step's end leave of the record. -/

namespace Sys2Proof.Machine

open Sys2Proof

/-! ### The Passdown area -/

section
variable {s t : State}

@[simp] theorem passdown_queuePending (l : List Pending) (s : State) : (queuePending l s).fbf.passdown = s.fbf.passdown := by
  induction l generalizing s with
  | nil => rfl
  | cons p ps ih =>
    unfold queuePending
    dsimp only
    split
    · rw [ih]; split <;> rfl
    · rfl

@[simp] theorem passdown_enterInput (b : HoldBody) (s : State) : (enterInput b s).fbf.passdown = s.fbf.passdown := by
  cases b <;> rfl

@[simp] theorem passdown_noteSpill (r : SpillReason) (l : List (HoldBody × Nat)) (s : State) :
    (noteSpill r l s).1.fbf.passdown = s.fbf.passdown := by
  unfold noteSpill
  repeat' split
  all_goals rfl

@[simp] theorem passdown_appendHold (b : HoldBody) (d : Bool) (s : State) :
    (appendHold b d s).1.fbf.passdown = s.fbf.passdown := by
  unfold appendHold
  simp only [andThen_fst, emit_fst, passdown_noteSpill]
  rfl

@[simp] theorem passdown_toInput (b : HoldBody) (s : State) : (toInput b s).1.fbf.passdown = s.fbf.passdown := by
  unfold toInput
  split
  · split <;> first | exact passdown_enterInput b s | rfl
  · exact passdown_appendHold b true s

theorem passdown_gateRoute (b : HoldBody) (s : State) : (gateRoute b s).1.fbf.passdown = s.fbf.passdown := by
  unfold gateRoute routeJudged
  split
  · exact passdown_toInput b s
  · rfl

@[simp] theorem passdown_admitHead (f : HoldFrame) (rest : List HoldFrame) (s : State) :
    (admitHead f rest s).1.fbf.passdown = s.fbf.passdown := by
  unfold admitHead
  split <;> first | exact passdown_enterInput f.body s | rfl

@[simp] theorem passdown_judge (b : HoldBody) (s : State) : (judge b s).2.1.fbf.passdown = s.fbf.passdown := by
  unfold judge
  dsimp only
  split
  · split <;> rfl
  · split <;> rfl

@[simp] theorem passdown_judgeHead (f : HoldFrame) (rest : List HoldFrame) (s : State) :
    (judgeHead f rest s).1.fbf.passdown = s.fbf.passdown := by
  have hj := passdown_judge f.body s
  unfold judgeHead
  dsimp only
  split
  case h_3 => exact (passdown_admitHead f rest _).trans hj
  all_goals exact hj

theorem passdown_headStep (s : State) : (headStep s).1.fbf.passdown = s.fbf.passdown := by
  unfold headStep
  split
  · rfl
  · split
    · rfl
    · split
      · rfl
      · split
        · split
          · split <;> rfl
          · exact passdown_admitHead _ _ s
          · exact passdown_admitHead _ _ s
        · split
          · rfl
          · exact passdown_judgeHead _ _ s

theorem passdown_headAdmit (s : State) : (headAdmit s).1.fbf.passdown = s.fbf.passdown := by
  unfold headAdmit
  split
  · exact passdown_admitHead _ _ s
  all_goals rfl

theorem passdown_holdCheck (b : Bool) (s : State) : (holdCheck b s).1.fbf.passdown = s.fbf.passdown := by
  unfold holdCheck
  split
  · rfl
  · split
    · split <;> rfl
    · split
      · exact passdown_noteSpill _ _ _
      · rfl

theorem passdown_spaceEvent (s : State) : (spaceEvent s).1.fbf.passdown = s.fbf.passdown := by
  have hq := passdown_queuePending s.igt.pend s
  unfold spaceEvent
  dsimp only
  repeat' split
  all_goals exact hq

theorem passdown_gateCommit (c : Nat) (s : State) : (gateCommit c s).1.fbf.passdown = s.fbf.passdown := by
  have hs : ∀ s : State, (synthesize s).fbf.passdown = s.fbf.passdown := fun s => passdown_queuePending _ _
  unfold gateCommit
  dsimp only
  split
  · split
    · exact hs _
    · rfl
  · split
    · exact hs _
    · rfl

theorem passdown_composeReport (k : ReportKind) (f : List Byte) (s : State) :
    (composeReport k f s).1.fbf.passdown = s.fbf.passdown := by
  have ho : (offerOverflow s).1.fbf.passdown = s.fbf.passdown := by
    unfold offerOverflow
    dsimp only
    split <;> rfl
  unfold composeReport
  split
  · refine Eq.trans ?_ ho
    rw [andThen_fst]
    unfold offerReport
    dsimp only
    split <;> rfl
  · rfl

theorem passdown_arbiterChoice (s : State) : (arbiterChoice s).1.fbf.passdown = s.fbf.passdown := by
  obtain ⟨t, L, he, ho, -⟩ := arbiterChoice_cases s
  rw [he]
  exact (congrArg (fun x : State => x.fbf.passdown) ho :)

/-- A handover that leaves the DLC's record leaves the Passdown area. -/
theorem handle_passdown {g : Signal} (hq : s.ulp.queue = []) (hd : g.blocks.contains .dlc = false ∨ g = .serve) :
    (handle g s).1.fbf.passdown = s.fbf.passdown := by
  by_cases hb : g.idleBlocks.contains .fbf = false
  · rw [(handle_idleBlocks hq).fbf hb]
  cases g
  case report k f => exact passdown_composeReport k f s
  case reportRemoved =>
    rcases offerOverflow_cases s with he | ⟨t, he, ho, -⟩
    · rw [handle, he]; rfl
    · rw [handle, he]; exact (congrArg (fun x : State => x.fbf.passdown) ho :)
  case spaceEvent => exact passdown_spaceEvent s
  case arbiter => exact passdown_arbiterChoice s
  case mirror =>
    rw [handle, mirrorSample]
    unfold Fbf.putMirror
    dsimp only
    repeat' split
    all_goals rfl
  case igtCommit c => exact passdown_gateCommit c s
  case igtDeparture => exact passdown_queuePending _ _
  case headStep => exact passdown_headStep s
  case gateRoute b => exact passdown_gateRoute b s
  case headAdmit => exact passdown_headAdmit s
  case holdCheck b => exact passdown_holdCheck b s
  all_goals first
    | exact (hb rfl).elim
    | (rcases hd with hd | hd <;> first | exact nomatch hd | exact Bool.noConfusion hd)

end

/-! ### The record -/

/-- The record without what the first slot of a state, the overdraw run and a served request move. -/
def Dlc.core (d : Dlc) : Dlc :=
  { d with
    overdraw := 0, slot := none, slotTimer := none, attemptTimer := none, attempts := 0, outcomes := [], sinceOpen := 0
    ready := none, await := none, powerReq := none }

/-- A record with no grant awaited, in no state in which a slot may open while it stands. -/
def Dlc.Fixed (d : Dlc) : Prop := d.await = none ∧ d.state ≠ .quiesced

/-- What the SBU's answer, the service of a request and a slot of QUIESCED leave of a record; of a fixed one they move the
overdraw run and the request only. -/
structure Dlc.Stands (d e : Dlc) : Prop where
  core : e.core = d.core
  request : e.powerReq = none ∨ e.powerReq = d.powerReq
  run : e.overdraw = 0 ∨ e.overdraw = d.overdraw
  same : d.Fixed → e = { d with overdraw := e.overdraw, powerReq := e.powerReq }

/-- No slot is due for a record whose slot has just closed. -/
def Dlc.NotDue (d : Dlc) : Prop :=
  d.slot ≠ none ∨ if d.state = .identifying then d.attemptTimer ≠ some 0 else d.slotTimer ≠ some 0

/-- A handover that could go on from a record does not: the walk is over or a step in flight, no request finds its state, no
slot is due. -/
def Dlc.Rests (d : Dlc) : Signal → Prop
  | .walkNext => d.walk = none ∨ d.step ≠ none
  | .servePower => d.powerReq = none ∨ d.step ≠ none ∨ d.state ≠ .active ∧ d.state ≠ .quiesced
  | .openDue => d.Fixed ∧ d.NotDue ∨ d.state = .quiesced
  | _ => True

section
variable {d e : Dlc} {s t : State} {k : Nat} {l K : List Signal}

theorem Dlc.Stands.refl (d : Dlc) : d.Stands d := ⟨rfl, .inr rfl, .inr rfl, fun _ => rfl⟩

theorem Dlc.Stands.state (h : d.Stands e) : e.state = d.state := (congrArg Dlc.state h.1 :)
theorem Dlc.Stands.recov (h : d.Stands e) : e.recov = d.recov := (congrArg Dlc.recov h.1 :)
theorem Dlc.Stands.step (h : d.Stands e) : e.step = d.step := (congrArg Dlc.step h.1 :)
theorem Dlc.Stands.walk (h : d.Stands e) : e.walk = d.walk := (congrArg Dlc.walk h.1 :)
theorem Dlc.Stands.settle (h : d.Stands e) : e.settle = d.settle := (congrArg Dlc.settle h.1 :)
theorem Dlc.Stands.missed (h : d.Stands e) : e.missed = d.missed := (congrArg Dlc.missed h.1 :)
theorem Dlc.Stands.cause (h : d.Stands e) : e.cause = d.cause := (congrArg Dlc.cause h.1 :)
theorem Dlc.Stands.base (h : d.Stands e) : e.base = d.base := (congrArg Dlc.base h.1 :)
theorem Dlc.Stands.basePower (h : d.Stands e) : e.basePower = d.basePower := (congrArg Dlc.basePower h.1 :)

theorem Dlc.Stands.await (h : d.Stands e) (ha : d.Fixed) : e.await = d.await := by rw [h.same ha]
theorem Dlc.Stands.slot (h : d.Stands e) (ha : d.Fixed) : e.slot = d.slot := by rw [h.same ha]
theorem Dlc.Stands.slotTimer (h : d.Stands e) (ha : d.Fixed) : e.slotTimer = d.slotTimer := by rw [h.same ha]
theorem Dlc.Stands.ready (h : d.Stands e) (ha : d.Fixed) : e.ready = d.ready := by rw [h.same ha]

theorem Dlc.Stands.fixed (h : d.Stands e) (ha : d.Fixed) : e.Fixed := ⟨(h.await ha).trans ha.1, h.state ▸ ha.2⟩

theorem Dlc.Stands.trans {f : Dlc} (h : d.Stands e) (h' : e.Stands f) : d.Stands f := by
  refine ⟨h'.core.trans h.core, ?_, ?_, fun ha => ?_⟩
  · rcases h'.request with hr | hr
    · exact .inl hr
    · rw [hr]; exact h.request
  · rcases h'.run with hr | hr
    · exact .inl hr
    · rw [hr]; exact h.run
  · rw [h'.same (h.fixed ha), h.same ha]

theorem Dlc.stands_granted (b : Bool) (n : Nat) (d : Dlc) : d.Stands (d.granted b n) := by
  unfold Dlc.granted
  dsimp only
  have h : d.Stands (if b then { d with overdraw := 0 } else d) := by
    split
    · exact ⟨rfl, .inr rfl, .inl rfl, fun _ => rfl⟩
    · exact .refl d
  have ha : (if b then { d with overdraw := 0 } else d).await = d.await := by split <;> rfl
  generalize (if b then { d with overdraw := 0 } else d) = e at h ha
  cases he : e.await with
  | none => exact h
  | some w =>
    refine ⟨?_, ?_, ?_, fun hd => absurd (he.symm.trans (ha.trans hd.1)) nofun⟩
    · cases w <;> exact h.core
    · cases w <;> exact h.request
    · cases w <;> exact h.run

theorem Dlc.Rests.of_stands {g : Signal} (h : d.Rests g) (h' : d.Stands e) : e.Rests g := by
  cases g
  case walkNext => rw [Dlc.Rests, h'.walk, h'.step]; exact h
  case servePower =>
    rw [Dlc.Rests, h'.step, h'.state]
    rcases h with h | h
    · refine .inl (h'.request.elim id fun he => he.trans h)
    · exact .inr h
  case openDue =>
    rcases h with ⟨hf, hd⟩ | h
    · refine .inl ⟨h'.fixed hf, ?_⟩
      rw [Dlc.NotDue, h'.slot hf, h'.slotTimer hf, h'.state, show e.attemptTimer = d.attemptTimer by rw [h'.same hf]]
      exact hd
    · exact .inr (h'.state.trans h)
  all_goals trivial

theorem walkNext_of_rests (h : s.dlc.Rests .walkNext) : walkNext s = quiet s := by
  unfold walkNext
  split
  · rfl
  · rename_i w hw
    rw [if_neg]
    rintro ⟨-, hs⟩
    rcases h with h | h
    · rw [hw] at h; exact nomatch h
    · exact h (by simpa using hs)

theorem busy_iff {d : Dlc} : d.busy = true ↔ d.step ≠ none ∨ d.walk ≠ none := by
  simp [Dlc.busy, Option.isSome_iff_ne_none]

theorem servePower_of_rests (h : s.dlc.Rests .servePower) :
    servePower s = quiet s ∨ servePower s = quiet { s with dlc := { s.dlc with powerReq := none } } := by
  unfold servePower
  split
  · rename_i q hq
    split
    · exact .inl rfl
    · rename_i hb
      refine .inr ?_
      have hstep : s.dlc.step = none := by_contra fun h => hb (busy_iff.mpr (.inl h))
      rcases h with h | h | ⟨ha, hqu⟩
      · rw [hq] at h; exact nomatch h
      · exact (h hstep).elim
      · have hwalk : walkStep q.target s.dlc.state = none := by
          cases q <;> cases hst : s.dlc.state <;> first | rfl | exact (ha hst).elim | exact (hqu hst).elim
        rw [dockAuto, if_neg (by exact hb), if_neg (by rw [hwalk]; simp)]
        split <;> rfl
  · exact .inl rfl

theorem openDue_of_notDue (h : s.dlc.NotDue) : openDue s = quiet s := by
  unfold openDue
  by_cases hs : s.dlc.slot = none
  · have h := h.resolve_left (· hs)
    rw [if_neg (by simp [hs])]
    split
    · rename_i hst
      rw [if_pos hst] at h
      exact if_neg h
    · rename_i hst
      rw [if_neg hst] at h
      exact if_neg h
  · rw [if_pos (Option.isSome_iff_ne_none.mpr hs)]

/-- The next slot of QUIESCED. -/
theorem openNextSlot_quiesced_cases (h : s.dlc.state = .quiesced) :
    openNextSlot s = s ∨
      openNextSlot s = { s with dlc := { s.dlc.opened ⟨headPoll, []⟩ with slotTimer := some s.par.quiescedPeriod } } := by
  unfold openNextSlot
  rw [h]
  dsimp only
  split
  · exact .inl rfl
  · exact .inr rfl

/-- A due slot leaves the record standing. -/
theorem openDue_of_rests (h : s.dlc.Rests .openDue) : ∃ d, openDue s = quiet { s with dlc := d } ∧ s.dlc.Stands d := by
  rcases h with ⟨-, h⟩ | h
  · exact ⟨s.dlc, openDue_of_notDue h, .refl _⟩
  · unfold openDue
    rw [if_neg (c := s.dlc.state = .identifying) (by rw [h]; simp)]
    split
    · exact ⟨s.dlc, rfl, .refl _⟩
    · split
      · rcases openNextSlot_quiesced_cases h with he | he
        · exact ⟨s.dlc, by rw [he], .refl _⟩
        · exact ⟨{ s.dlc.opened ⟨headPoll, []⟩ with slotTimer := some s.par.quiescedPeriod }, by rw [he],
            ⟨rfl, .inr rfl, .inr rfl, fun hf => (hf.2 h).elim⟩⟩
      · exact ⟨s.dlc, rfl, .refl _⟩

/-! ### In RUN -/

/-- The handovers of a change of the dock state behind the SBU's. -/
abbrev noticeKinds : List Signal :=
  postureKinds ++ [Kind.hauDock, .pclDock, .igtDeparture, .pscRecheck, .pscDeferred, Kind.grantApplied]

/-- With those of a step's end and a closed slot. -/
abbrev restKinds : List Signal := [.walkNext, .servePower, .openDue] ++ noticeKinds

theorem rests_of_notice {g : Signal} (h : g.kind ∈ noticeKinds) : d.Rests g := by
  cases g
  case walkNext => simp [Signal.kind] at h
  case servePower => simp [Signal.kind] at h
  case openDue => simp [Signal.kind] at h
  all_goals trivial

/-- The handovers of the class that move the record are the SBU's answer and the service of a request. -/
theorem stands_handle {g : Signal} (hg : g.kind ∈ restKinds) (hq : s.ulp.queue = []) (hp : s.psc.power = .run)
    (hw : g.Wakes) (hr : s.dlc.Rests g) :
    s.dlc.Stands (handle g s).1.dlc ∧ (handle g s).1.fbf.passdown = s.fbf.passdown ∧
      Only [.hau, .pcl, .dlc, .igt, .fbf, .spu, .psc, .ulp] s (handle g s).1 := by
  have honly := (handle_run (calm := false) hq hp hw nofun).2.mono (U := [.hau, .pcl, .dlc, .igt, .fbf, .spu, .psc, .ulp]) (by
    rw [← runBlocks_kind]
    exact List.all_eq_true.mp (show (restKinds.all fun k => (k.runBlocks false).all
      [Block.hau, .pcl, .dlc, .igt, .fbf, .spu, .psc, .ulp].contains) = true by decide) _ hg)
  refine (and_assoc.mp ⟨?_, honly⟩)
  have hsame : ∀ t : State, t.dlc = s.dlc → t.fbf.passdown = s.fbf.passdown →
      s.dlc.Stands t.dlc ∧ t.fbf.passdown = s.fbf.passdown := fun t h h' => ⟨h ▸ Dlc.Stands.refl _, h'⟩
  by_cases hd : g.blocks.contains .dlc = false
  · exact hsame _ ((handle_blocks g s).dlc hd) (handle_passdown hq (.inl hd))
  cases g
  case serve =>
    refine hsame _ ((handle_idleBlocks hq).dlc rfl) (handle_passdown hq (.inr rfl))
  case pscHost old new =>
    rw [handle, hostChanged_of_run hp (hw old new rfl)]
    exact hsame _ rfl rfl
  case pscRecheck => rw [handle, standbyRecheck_of_run hp]; exact hsame _ rfl rfl
  case pscDeferred => rw [handle, deferredRecheck_of_run hp]; exact hsame _ rfl rfl
  case grantApplied b => rw [handle, grantApplied_eq]; exact ⟨Dlc.stands_granted b _ _, rfl⟩
  case walkNext => rw [handle, walkNext_of_rests hr]; exact hsame _ rfl rfl
  case servePower =>
    rw [handle]
    rcases servePower_of_rests hr with he | he
    · rw [he]; exact hsame _ rfl rfl
    · rw [he]; exact ⟨⟨rfl, .inl rfl, .inr rfl, fun _ => rfl⟩, rfl⟩
  case openDue =>
    obtain ⟨d, he, hd⟩ := openDue_of_rests hr
    rw [handle, he]
    exact ⟨hd, rfl⟩
  all_goals first
    | exact (hd rfl).elim
    | simp [Signal.kind] at hg

/-- What the class leaves in RUN. -/
structure Rested (s t : State) : Prop where
  dlc : s.dlc.Stands t.dlc
  passdown : t.fbf.passdown = s.fbf.passdown
  only : Only [.hau, .pcl, .dlc, .igt, .fbf, .spu, .psc, .ulp] s t

/-- A handover of the class hands on notices only. -/
theorem notices_handle {g : Signal} (hg : g.kind ∈ restKinds) (hq : s.ulp.queue = []) (hp : s.psc.power = .run)
    (hw : g.Wakes) (hr : s.dlc.Rests g) : ∀ x ∈ (handle g s).2, x.kind ∈ noticeKinds := by
  intro x hx
  have hquiet : ∀ t, handle g s = quiet t → x.kind ∈ noticeKinds := fun t h => by rw [h] at hx; exact nomatch hx
  have hfol := (handle_run (calm := false) hq hp hw nofun).1 x hx
  rw [← runFollows_kind] at hfol
  by_cases hf : (g.kind.runFollows false).all noticeKinds.contains = true
  · exact List.contains_iff_mem.mp (List.all_eq_true.mp hf _ hfol)
  · cases g
    case walkNext => exact hquiet _ (walkNext_of_rests hr)
    case servePower => exact (servePower_of_rests hr).elim (hquiet _) (hquiet _)
    case openDue =>
      obtain ⟨d, he, -⟩ := openDue_of_rests hr
      exact hquiet _ he
    case report k f =>
      by_cases hk : k = .forceCut
      · simp [Signal.kind, hk] at hg
      · rw [show (Signal.report k f).kind = Kind.report by simp [Signal.kind, hk]] at hf
        exact (hf rfl).elim
    all_goals first
      | exact (hf rfl).elim
      | simp [Signal.kind] at hg

/-- A handover of the class that does not go on from the record. -/
def Dlc.Quiets (d : Dlc) (g : Signal) : Prop := g.kind ∈ restKinds ∧ g.Wakes ∧ d.Rests g

theorem Ends.rests (hl : ∀ g ∈ l, s.dlc.Quiets g) (hq : s.ulp.queue = []) (hp : s.psc.power = .run) :
    Ends k l s fun t => Rested s t ∧ t.psc.power = .run := by
  refine Ends.of_keeps s.dlc.Quiets (fun t => Rested s t ∧ t.psc.power = .run ∧ t.ulp.queue = []) ?_ hl
    ⟨⟨.refl _, rfl, Only.refl _ _⟩, hp, hq⟩ fun _ h => ⟨h.1, h.2.1⟩
  rintro g t ⟨hg, hw, hr⟩ ⟨ht, hpt, hqt⟩
  have hrt := hr.of_stands ht.dlc
  obtain ⟨hst, hpass, honly⟩ := stands_handle hg hqt hpt hw hrt
  have hK : RunStays false restKinds = true := by decide
  refine ⟨⟨⟨ht.dlc.trans hst, hpass.trans ht.passdown, ht.only.trans honly⟩, handle_power hK hg hw hqt hpt nofun⟩,
    fun x hx => ?_⟩
  have hx' := notices_handle hg hqt hpt hw hrt x hx
  exact ⟨List.mem_append_right _ hx', handle_wakes hqt (not_received_of_stays hK hg) x hx, rests_of_notice hx'⟩

end

end Sys2Proof.Machine
end

section
/-! SUPPORT. The dock's level, and a dock at rest in any power state. -/

namespace Sys2Proof.Machine

open Sys2Proof

section
variable {d e : Dlc} {s t : State} {k n : Nat} {l K : List Signal} {Q : State → Prop}

/-! ### The level -/

/-- What a request for a level does to the SBU's record. -/
theorem dockRequest_sbu (n : Nat) (s : State) :
    (dockRequest n s).1.sbu.requested = n ∧ (n = 0 → (dockRequest n s).1.sbu.grant = 0) := by
  rw [dockRequest, budgetEvent_eq]
  unfold applyRequest
  dsimp only
  split_ifs with h1 h2 h3
  · exact ⟨rfl, fun h => by rw [← h]; exact h1.symm⟩
  · exact ⟨rfl, fun h => by subst h; exact Nat.zero_min _⟩
  · exact ⟨rfl, fun h => by omega⟩
  · exact ⟨rfl, fun h => by omega⟩

theorem dockRequest_kinds (n : Nat) (s : State) :
    ∀ g ∈ (dockRequest n s).2, g.kind ∈ [Kind.report, Kind.grantApplied] := hands_dockRequest n s

/-- The record and the level that a change of the dock state leaves in RUN. -/
structure Moved (n : Nat) (s t : State) : Prop where
  dlc : s.dlc.Stands t.dlc
  passdown : t.fbf.passdown = s.fbf.passdown
  requested : t.sbu.requested = n
  grant : n = 0 → t.sbu.grant = 0
  sbu : t.sbu = (dockRequest n s).1.sbu
  only : Only [.hau, .pcl, .dlc, .igt, .fbf, .sbu, .pcc, .spu, .psc, .ulp] s t

/-- In RUN the handovers of a change of the dock state leave the record but for what the SBU's answer moves. -/
theorem Ends.moved (hl : ∀ g ∈ l, s.dlc.Quiets g) (hq : s.ulp.queue = []) (hp : s.psc.power = .run) :
    Ends (k + 1) (.dockLevel n :: l) s fun t => Moved n s t ∧ t.psc.power = .run := by
  have hone : Only [.sbu, .pcc] s (dockRequest n s).1 := dockRequest_only n s rfl
  obtain ⟨hreq, hgrant⟩ := dockRequest_sbu n s
  have hdlc := hone.dlc rfl
  refine Ends.cons (by simp) ?_
  refine Ends.mono (Ends.rests (s := (dockRequest n s).1) ?_ ?_ ?_) ?_
  · intro g hg
    rw [hdlc]
    rcases List.mem_append.mp hg with h | h
    · have hk := dockRequest_kinds n s g h
      have hk' : g.kind ∈ noticeKinds := (show ∀ k ∈ [Kind.report, Kind.grantApplied], k ∈ noticeKinds by decide) _ hk
      refine ⟨List.mem_append_right _ hk', wakes_of_kind fun e => ?_, rests_of_notice hk'⟩
      rw [e] at hk
      simp at hk
    · exact hl g h
  · rw [hone.ulp rfl]; exact hq
  · rw [hone.psc rfl]; exact hp
  · rintro t ⟨hr, hpt⟩
    have hsbu := hr.only.sbu rfl
    refine ⟨⟨?_, ?_, ?_, fun h => ?_, hsbu, (hone.mono rfl).trans (hr.only.mono rfl)⟩, hpt⟩
    · rw [← hdlc]; exact hr.dlc
    · rw [hr.passdown, hone.fbf rfl]
    · rw [hsbu, hreq]
    · rw [hsbu, hgrant h]

/-! ### A dock at rest -/

/-- Absent, present or faulted, with nothing in flight. -/
structure Dlc.AtRest (d : Dlc) : Prop where
  state : d.state = .absent ∨ d.state = .present ∨ d.state = .faulted
  step : d.step = none
  walk : d.walk = none
  await : d.await = none
  slotTimer : d.slotTimer = none

theorem Dlc.AtRest.fixed (h : d.AtRest) : d.Fixed := ⟨h.await, by rcases h.state with hs | hs | hs <;> simp [hs]⟩

theorem Dlc.AtRest.rests (h : d.AtRest) (g : Signal) : d.Rests g := by
  cases g
  case walkNext => exact .inl h.walk
  case servePower => exact .inr (.inr (by rcases h.state with hs | hs | hs <;> simp [hs]))
  case openDue =>
    refine .inl ⟨h.fixed, .inr ?_⟩
    rcases h.state with hs | hs | hs <;> simp [hs, h.slotTimer]
  all_goals trivial

theorem Dlc.AtRest.of_stands (h : d.AtRest) (h' : d.Stands e) : e.AtRest :=
  ⟨h'.state ▸ h.state, h'.step ▸ h.step, h'.walk ▸ h.walk, (h'.await h.fixed).trans h.await, (h'.slotTimer h.fixed).trans h.slotTimer⟩

theorem powerRequest_of_rest {q : PowerReq} (h : s.dlc.AtRest) : powerRequest q s = quiet s := by
  have hb : s.dlc.busy = false := busy_eq_false h.step h.walk
  rw [powerRequest, if_neg (by simp [hb]), dockAuto, if_neg (by simp [hb])]
  rcases h.state with hs | hs | hs <;> cases q <;> simp [PowerReq.target, walkStep, walkReached, hs]

/-- The SBU's level, grant and the areas of the dock are not a matter of the power state. -/
structure DockSame (s t : State) : Prop where
  dlc : s.dlc.Stands t.dlc
  passdown : t.fbf.passdown = s.fbf.passdown
  requested : t.sbu.requested = s.sbu.requested
  grant : t.sbu.grant = s.sbu.grant

theorem DockSame.refl (s : State) : DockSame s s := ⟨.refl _, rfl, rfl, rfl⟩

theorem DockSame.trans {u : State} (h : DockSame s t) (h' : DockSame t u) : DockSame s u :=
  ⟨h.dlc.trans h'.dlc, h'.passdown.trans h.passdown, h'.requested.trans h.requested, h'.grant.trans h.grant⟩

theorem dockSame_of_eq (h1 : t.dlc = s.dlc) (h2 : t.fbf = s.fbf) (h3 : t.sbu.requested = s.sbu.requested)
    (h4 : t.sbu.grant = s.sbu.grant) : DockSame s t := ⟨h1 ▸ .refl _, by rw [h2], h3, h4⟩

theorem dockSame_sbuPowerChange (s : State) : DockSame s (sbuPowerChange s).1 := dockSame_of_eq rfl rfl rfl rfl

/-- STANDBY entry at rest. -/
theorem dockSame_enterStandby (b : Bool) (h : s.dlc.AtRest) : DockSame s (enterStandby b s).1 := by
  refine dockSame_of_eq ?_ rfl rfl rfl
  change s.dlc.stop = s.dlc
  rw [Dlc.stop, if_neg]
  rcases h.state with hs | hs | hs <;> simp [hs]

theorem dockSame_standbyDue (h : s.dlc.AtRest) : DockSame s (standbyDue s).1 := by
  unfold standbyDue
  split
  · exact dockSame_of_eq rfl rfl rfl rfl
  · exact dockSame_enterStandby _ h

theorem dockSame_standbyRecheck (h : s.dlc.AtRest) : DockSame s (standbyRecheck s).1 := by
  unfold standbyRecheck
  split
  · split
    · split
      · split
        · exact dockSame_standbyDue h
        · exact dockSame_of_eq rfl rfl rfl rfl
      · exact .refl s
    · exact dockSame_of_eq rfl rfl rfl rfl
  · exact .refl s

theorem dockSame_deferredRecheck (h : s.dlc.AtRest) : DockSame s (deferredRecheck s).1 := by
  unfold deferredRecheck
  split
  · exact dockSame_enterStandby _ h
  · exact .refl s

theorem dockSame_startDoze (s : State) : DockSame s (startDoze s).1 := by
  unfold startDoze
  split
  · exact dockSame_of_eq rfl rfl rfl rfl
  · exact dockSame_of_eq rfl rfl rfl rfl

theorem dockSame_enterRunFromDoze (s : State) : DockSame s (enterRunFromDoze s).1 := by
  have ho := orientResume_only { s with psc := { s.psc with power := .run, standby := none, deferred := false } } (T := [.oru]) rfl
  exact (dockSame_of_eq (s := s) (ho.dlc rfl) (ho.fbf rfl) (congrArg Sbu.requested (ho.sbu rfl))
    (congrArg Sbu.grant (ho.sbu rfl))).trans (dockSame_sbuPowerChange _)

theorem dockSame_hostChanged (old new : HostState) (h : s.dlc.AtRest) : DockSame s (hostChanged old new s).1 := by
  unfold hostChanged
  split
  · split
    · split
      · exact .refl s
      · exact dockSame_startDoze s
    · exact dockSame_of_eq rfl rfl rfl rfl
  · split
    · exact dockSame_standbyRecheck h
    · exact dockSame_enterRunFromDoze s
  · split
    · exact .refl s
    · exact dockSame_of_eq rfl rfl rfl rfl
  · exact .refl s

theorem dockSame_dozeCheck (s : State) : DockSame s (dozeCheck s).1 := by
  unfold dozeCheck
  split
  · exact dockSame_startDoze s
  · exact .refl s

/-! What an entry to STANDBY hands on at rest: no release. -/

theorem hands_enterStandby_rest (b : Bool) (h : s.dlc.AtRest) : Act.Hands [Kind.report, .pscLevels] (enterStandby b s) := by
  refine Act.Hands.andThen (Act.Hands.andThen ?_ ((hands_sbuPowerChange _).mono (by simp))) ?_
  · simp [Act.Hands, Signal.kind, powerReport]
  · simp only [Act.Hands, emitWith]
    rw [if_neg]
    · simp [Signal.kind]
    · rintro ⟨-, hr⟩
      have hs : releasedAtStandby (enterStandby b s).1.dlc.state = true := hr
      rw [(dockSame_enterStandby b h).dlc.state] at hs
      rcases h.state with e | e | e <;> simp [e, releasedAtStandby] at hs

theorem hands_standbyRecheck_rest (h : s.dlc.AtRest) : Act.Hands [Kind.report, .pscLevels] (standbyRecheck s) := by
  have hdue : Act.Hands [Kind.report, .pscLevels] (standbyDue s) := by
    unfold standbyDue
    split
    · exact hands_quiet _
    · exact hands_enterStandby_rest _ h
  unfold standbyRecheck
  split_ifs
  · exact hdue
  all_goals exact hands_quiet _

theorem hands_deferredRecheck_rest (h : s.dlc.AtRest) : Act.Hands [Kind.report, .pscLevels] (deferredRecheck s) := by
  unfold deferredRecheck
  split
  · exact hands_enterStandby_rest _ h
  · exact hands_quiet _

theorem hands_hostChanged_rest (old new : HostState) (h : s.dlc.AtRest) :
    Act.Hands [Kind.dlcPowerReq, .pscRecheck, Kind.oruCommit, .pscDozeCheck, Kind.report, .pscLevels] (hostChanged old new s) := by
  unfold hostChanged
  split
  · split_ifs
    · exact hands_quiet _
    · exact (hands_startDoze s).mono (by simp)
    · exact hands_quiet _
  · split
    · exact (hands_standbyRecheck_rest h).mono (by simp)
    · exact (hands_enterRunFromDoze s).mono (by simp)
  · split <;> exact hands_quiet _
  · exact hands_quiet _

/-- The handovers behind the SBU's, with those of a change of power state. -/
abbrev anyKinds : List Signal :=
  noticeKinds ++ [Kind.oruCommit, Kind.dlcPowerReq, .pscLevels, Kind.pscWake, .pscDozeCheck]

/-- At rest the class leaves the dock, and hands on itself. -/
theorem dockSame_handle {g : Signal} (hg : g.kind ∈ [.walkNext, .servePower, .openDue] ++ anyKinds) (hq : s.ulp.queue = []) (h : s.dlc.AtRest) :
    DockSame s (handle g s).1 ∧ ∀ x ∈ (handle g s).2, x.kind ∈ anyKinds := by
  have hquiet : handle g s = quiet s → DockSame s (handle g s).1 ∧ ∀ x ∈ (handle g s).2, x.kind ∈ anyKinds := fun e => by
    rw [e]; exact ⟨.refl s, nofun⟩
  have hfol : (g.kind.idleFollows.all anyKinds.contains = true) → ∀ x ∈ (handle g s).2, x.kind ∈ anyKinds := fun e x hx => by
    have := handle_idleFollows hq x hx
    rw [← idleFollows_kind] at this
    exact List.contains_iff_mem.mp (List.all_eq_true.mp e _ this)
  have hmono : ∀ {L : List Signal}, Act.Hands L (handle g s) → (∀ k ∈ L, k ∈ anyKinds) → ∀ x ∈ (handle g s).2, x.kind ∈ anyKinds :=
    fun ha hL x hx => hL _ (ha x hx)
  by_cases hd : g.blocks.contains .dlc = false ∧ g.idleBlocks.contains .sbu = false ∧ g.kind.idleFollows.all anyKinds.contains = true
  · obtain ⟨hd, hs, hf⟩ := hd
    have hsbu := (handle_idleBlocks (g := g) hq).sbu hs
    exact ⟨⟨by rw [(handle_blocks g s).dlc hd]; exact .refl _, handle_passdown hq (.inl hd), by rw [hsbu], by rw [hsbu]⟩, hfol hf⟩
  cases g
  case serve =>
    have ho := handle_idleBlocks (g := .serve) hq
    exact ⟨⟨by rw [ho.dlc rfl]; exact .refl _, handle_passdown hq (.inr rfl), by rw [ho.sbu rfl], by rw [ho.sbu rfl]⟩, hfol rfl⟩
  case pscHost old new => exact ⟨dockSame_hostChanged old new h, hmono (hands_hostChanged_rest old new h) (by simp)⟩
  case pscRecheck => exact ⟨dockSame_standbyRecheck h, hmono (hands_standbyRecheck_rest h) (by simp)⟩
  case pscDeferred => exact ⟨dockSame_deferredRecheck h, hmono (hands_deferredRecheck_rest h) (by simp)⟩
  case pscDozeCheck => exact ⟨dockSame_dozeCheck s, hmono (hands_dozeCheck s) (by simp)⟩
  case grantApplied b =>
    rw [handle, grantApplied_eq]
    exact ⟨⟨Dlc.stands_granted b _ _, rfl, rfl, rfl⟩, nofun⟩
  case walkNext => exact hquiet (walkNext_of_rests (h.rests _))
  case servePower =>
    rcases servePower_of_rests (h.rests .servePower) with he | he
    · exact hquiet he
    · rw [handle, he]; exact ⟨⟨⟨rfl, .inl rfl, .inr rfl, fun _ => rfl⟩, rfl, rfl, rfl⟩, nofun⟩
  case openDue =>
    obtain ⟨d, he, hd⟩ := openDue_of_rests (h.rests .openDue)
    rw [handle, he]
    exact ⟨⟨hd, rfl, rfl, rfl⟩, nofun⟩
  case dlcPowerReq q => exact hquiet (powerRequest_of_rest h)
  case report k f =>
    by_cases hk : k = .forceCut
    · simp [Signal.kind, hk] at hg
    · refine (hd ⟨rfl, rfl, ?_⟩).elim
      rw [show (Signal.report k f).kind = Kind.report by simp [Signal.kind, hk]]
      rfl
  all_goals first
    | exact (hd ⟨rfl, rfl, rfl⟩).elim
    | simp [Signal.kind] at hg

/-- A dock at rest stays as it is, in every power state. -/
theorem Ends.atRest (h : s.dlc.AtRest) (hl : ∀ g ∈ l, g.kind ∈ [.walkNext, .servePower, .openDue] ++ anyKinds) (hq : s.ulp.queue = []) :
    Ends k l s (DockSame s) := by
  refine Ends.of_keeps (fun g => g.kind ∈ [.walkNext, .servePower, .openDue] ++ anyKinds) (fun t => DockSame s t ∧ t.ulp.queue = []) ?_ hl
    ⟨.refl s, hq⟩ fun _ h => h.1
  rintro g t hg ⟨hs, hqt⟩
  obtain ⟨h1, h2⟩ := dockSame_handle hg hqt (h.of_stands hs.dlc)
  refine ⟨⟨hs.trans h1, handle_queue (fun e => ?_) hqt⟩, fun x hx => List.mem_append_right _ (h2 x hx)⟩
  rw [e] at hg
  simp at hg

/-- A change to a dock state at rest, in every power state. -/
theorem Ends.movedToRest (h : s.dlc.AtRest) (hl : ∀ g ∈ l, g.kind ∈ [.walkNext, .servePower, .openDue] ++ anyKinds) (hq : s.ulp.queue = []) :
    Ends (k + 1) (.dockLevel 0 :: l) s fun t =>
      s.dlc.Stands t.dlc ∧ t.fbf.passdown = s.fbf.passdown ∧ t.sbu.requested = 0 ∧ t.sbu.grant = 0 := by
  have hone : Only [.sbu, .pcc] s (dockRequest 0 s).1 := dockRequest_only 0 s rfl
  obtain ⟨hreq, hgrant⟩ := dockRequest_sbu 0 s
  have hdlc := hone.dlc rfl
  refine Ends.cons (by simp) ?_
  refine Ends.mono (Ends.atRest (s := (dockRequest 0 s).1) (by rw [hdlc]; exact h) ?_ ?_) ?_
  · intro g hg
    rcases List.mem_append.mp hg with h | h
    · exact (show ∀ k ∈ [Kind.report, Kind.grantApplied], k ∈ [.walkNext, .servePower, .openDue] ++ anyKinds by decide) _ (dockRequest_kinds 0 s g h)
    · exact hl g h
  · rw [hone.ulp rfl]; exact hq
  · intro t ht
    refine ⟨?_, ?_, ?_, ?_⟩
    · rw [← hdlc]; exact ht.dlc
    · rw [ht.passdown, hone.fbf rfl]
    · rw [ht.requested, hreq]
    · rw [ht.grant, hgrant rfl]

end

end Sys2Proof.Machine
end

section
/-! PROOFS. Steps, timers and answers of the dock. -/

namespace Sys2Proof.Machine

open Sys2Proof

section
variable {new : Dlc} {s t : State} {k n : Nat} {l m : List Signal} {Q : State → Prop}

/-! ### A change of the dock state -/

/-- The handovers of a change of the dock state behind the SBU's. -/
def moveNotices (departs : Bool) : List Signal :=
  [.hauDock false, .pclDock] ++ (if departs then [.igtDeparture] else []) ++ [.pscRecheck]

theorem dockMove_signals (new : Dlc) (s : State) :
    (dockMove new s).2 = .dockLevel new.level :: moveNotices (s.dlc.state.delivers && !new.state.delivers) := rfl

theorem moveNotices_kinds (b : Bool) : ∀ g ∈ moveNotices b, g.kind ∈ [Kind.hauDock, .pclDock, .igtDeparture, .pscRecheck] := by
  cases b <;> simp [moveNotices, Signal.kind]

theorem quiets_of_notice {g : Signal} (h : g.kind ∈ noticeKinds) (hw : g.kind ≠ Kind.pscHost) : new.Quiets g :=
  ⟨List.mem_append_right _ h, wakes_of_kind hw, rests_of_notice h⟩

theorem quiets_moveNotices (b : Bool) : ∀ g ∈ moveNotices b, new.Quiets g := fun g hg => by
  have h := moveNotices_kinds b g hg
  refine quiets_of_notice ((show ∀ k ∈ [Kind.hauDock, .pclDock, .igtDeparture, .pscRecheck], k ∈ noticeKinds by decide) _ h)
    fun e => ?_
  rw [e] at h
  simp at h

/-- What a change of the dock state to a record leaves in RUN. -/
structure DockMoved (new : Dlc) (s t : State) : Prop where
  dlc : new.Stands t.dlc
  passdown : t.fbf.passdown = if new.state.empties then [] else s.fbf.passdown
  requested : t.sbu.requested = new.level
  grant : new.level = 0 → t.sbu.grant = 0
  sbu : t.sbu = (dockRequest new.level (dockMove new s).1).1.sbu
  only : Only [.hau, .pcl, .dlc, .igt, .fbf, .sbu, .pcc, .spu, .psc, .ulp] s t

theorem dockMove_passdown (new : Dlc) (s : State) :
    (dockMove new s).1.fbf.passdown = if new.state.empties then [] else s.fbf.passdown := by
  unfold dockMove
  dsimp only
  split <;> rfl

theorem Ends.dockMoved (hm : ∀ g ∈ m, new.Quiets g) (hq : s.ulp.queue = []) (hp : s.psc.power = .run) :
    Ends (k + 1) ((dockMove new s).2 ++ m) (dockMove new s).1 fun t => DockMoved new s t ∧ t.psc.power = .run := by
  rw [dockMove_signals]
  refine Ends.mono (Ends.moved (s := (dockMove new s).1) (fun g hg => ?_) (by exact hq) (by exact hp)) ?_
  · rcases List.mem_append.mp hg with h | h
    · exact quiets_moveNotices _ g h
    · exact hm g h
  · rintro t ⟨hmv, hp⟩
    have hone : Only [.dlc, .fbf] s (dockMove new s).1 := rfl
    exact ⟨⟨hmv.dlc, hmv.passdown.trans (dockMove_passdown new s), hmv.requested, hmv.grant, hmv.sbu,
      (hone.mono rfl).trans hmv.only⟩, hp⟩

/-- What a change of the dock state to one at rest leaves, in every power state. -/
structure DockRested (new : Dlc) (t : State) : Prop where
  dlc : new.Stands t.dlc
  passdown : t.fbf.passdown = []
  requested : t.sbu.requested = 0
  grant : t.sbu.grant = 0

theorem Dlc.AtRest.level {d : Dlc} (h : d.AtRest) : d.level = 0 := by
  rcases h.state with hs | hs | hs <;> simp [Dlc.level, hs]

theorem Dlc.AtRest.empties {d : Dlc} (h : d.AtRest) : d.state.empties = true := by
  rcases h.state with hs | hs | hs <;> simp [DockState.empties, hs]

theorem Ends.dockMovedRest (h : new.AtRest) (hm : ∀ g ∈ m, g.kind ∈ [.walkNext, .servePower, .openDue] ++ anyKinds)
    (hq : s.ulp.queue = []) : Ends (k + 1) ((dockMove new s).2 ++ m) (dockMove new s).1 (DockRested new) := by
  rw [dockMove_signals, h.level]
  refine Ends.mono (Ends.movedToRest (s := (dockMove new s).1) h (fun g hg => ?_) (by exact hq)) ?_
  · rcases List.mem_append.mp hg with h | h
    · exact (show ∀ k ∈ [Kind.hauDock, .pclDock, .igtDeparture, .pscRecheck],
        k ∈ [.walkNext, .servePower, .openDue] ++ anyKinds by decide) _ (moveNotices_kinds _ g h)
    · exact hm g h
  · rintro t ⟨h1, h2, h3, h4⟩
    exact ⟨h1, h2.trans ((dockMove_passdown new s).trans (if_pos h.empties)), h3, h4⟩

/-! ### Faults -/

theorem Dlc.faulted_rest (c : DockCause) (d : Dlc) : (d.faulted c).AtRest := ⟨.inr (.inr rfl), rfl, rfl, rfl, rfl⟩

/-- The handovers of a fault behind the change of the dock state. -/
theorem dockFault_signals (c : DockCause) (b : Bool) (s : State) :
    (dockFault c b s).1 = (dockMove (s.dlc.faulted c) s).1 ∧
      ∃ r : Signal, r.kind = Kind.report ∧ (dockFault c b s).2 = (dockMove (s.dlc.faulted c) s).2 ++ ([r] ++ stepEnd) := by
  refine ⟨rfl, ?_⟩
  simp only [dockFault, Act.andThen, reportDock, emit, List.append_assoc]
  exact ⟨_, by simp [dockReport, Signal.kind], rfl⟩

/-- A fault, in every power state. -/
theorem Ends.dockFaulted {c : DockCause} {b : Bool} (hm : ∀ g ∈ m, g = .openDue) (hq : s.ulp.queue = []) :
    Ends (k + 1) ((dockFault c b s).2 ++ m) (dockFault c b s).1 (DockRested (s.dlc.faulted c)) := by
  obtain ⟨he, r, hr, hl⟩ := dockFault_signals c b s
  rw [he, hl, List.append_assoc]
  refine Ends.dockMovedRest (s.dlc.faulted_rest c) (fun g hg => ?_) hq
  rcases List.mem_append.mp hg with h | h
  · rcases List.mem_cons.mp h with rfl | h
    · rw [hr]; decide
    · exact kinds_all (l := stepEnd) rfl g h
  · rw [hm g h]; decide

end

end Sys2Proof.Machine
end

section
/-! PROOFS. The dock's timers. -/

namespace Sys2Proof.Machine

open Sys2Proof

section
variable {new : Dlc} {s t u : State} {k n : Nat} {l m : List Signal} {Q : State → Prop} {c : Instr} {a : Act}

/-- An event ends where its handovers end; while no command waits it leaves the configuration and the switch inputs. -/
theorem exec_event (hc : isPlainEvent c = true) (hs : s.SameConfig u) (hq : u.ulp.queue = []) (he : exec c s = finish a)
    (ha : c.core u = a) (hsib : c.blocks.contains .sib = false) (hms : c.blocks.contains .ms = false)
    (h : Ends 1000 a.2 a.1 Q) :
    ∃ t, exec c s = .next t ∧ Q t ∧ s.SameConfig t ∧ t.sib = u.sib ∧ t.ms = u.ms := by
  subst ha
  have hcore := keeps_core hitsKeep_true c (isReset_of_plain hc) (sameConfig_iff_keeps.mpr hs)
  obtain ⟨h1, h2, -, h4, -⟩ := settle_sameConfig (hands_core hc u) ((core_queue hc u).trans hq) (sameConfig_iff_keeps.mp hcore)
  have ho := core_blocks c u
  exact ⟨_, he, h.settle, h1, h2.trans (ho.sib hsib), h4.trans (ho.ms hms)⟩

/-! ### What the other listeners do not do -/

theorem Dlc.Stands.tiltAvailable {d e : Dlc} (h : d.Stands e) : e.tiltAvailable = d.tiltAvailable :=
  (congrArg Dlc.tiltAvailable h.core :)

theorem Dlc.Stands.baseCond {d e : Dlc} (h : d.Stands e) : e.baseCond = d.baseCond := (congrArg Dlc.baseCond h.core :)

theorem Dlc.Stands.activeDemand {d e : Dlc} (h : d.Stands e) : e.activeDemand = d.activeDemand :=
  (congrArg Dlc.activeDemand h.core :)

theorem hauDockNotice_of_absent {b : Bool} (ht : s.dlc.tiltAvailable = false) (hc : s.hau.cond = .absent) :
    hauDockNotice b s = quiet s := by
  unfold hauDockNotice
  split
  · simp [ht, hc]
  · rfl

/-- The base vector is in use where the record gives one. -/
def State.Heard (new : Dlc) (s : State) : Prop :=
  new.tiltAvailable = true ∧ s.hau.cond ≠ .absent ∨ new.tiltAvailable = false ∧ s.hau.cond = .absent

theorem hauDockNotice_of_heard (h : s.Heard s.dlc) : hauDockNotice false s = quiet s := by
  rcases h with ⟨ht, hc⟩ | ⟨ht, hc⟩
  · unfold hauDockNotice
    simp [ht, hc]
  · exact hauDockNotice_of_absent ht hc

theorem pclDockNotice_of_same (h : s.dlc.baseCond = s.pcl.cond) : pclDockNotice s = quiet s := if_pos h

theorem Applied.stands (h : Applied s t) : s.dlc.Stands t.dlc := by
  rcases h.dlc with ⟨h, -⟩ | ⟨b, h⟩
  · rw [h]; exact .refl _
  · rw [h]; exact Dlc.stands_granted b _ _

/-- The state in which the SBU applies the request of a change of the dock state. -/
def State.asked (s : State) (new : Dlc) : State :=
  { (dockMove new s).1 with sbu := { s.sbu with requested := new.level } }

/-- The dock's other listeners have had nothing to do, and the gate has been told of a departure at most. -/
structure Noticed (new : Dlc) (s t : State) : Prop where
  only : Only [.dlc, .igt, .fbf, .sbu, .pcc, .ulp] s t
  dlc : new.Stands t.dlc
  still : t.Still
  sbu : t.sbu = (applyRequest (s.asked new)).1.sbu
  passdown : t.fbf.passdown = if new.state.empties then [] else s.fbf.passdown

theorem asked_only (new : Dlc) (s : State) : Only [.dlc, .fbf, .sbu] s (s.asked new) := rfl

theorem Applied.noticed (h : Applied (s.asked new) t) : Noticed new s t where
  only := ((asked_only new s).mono rfl).trans (h.only.mono rfl)
  dlc := h.stands
  still := h.still
  sbu := h.sbu
  passdown := h.passdown.trans (dockMove_passdown new s)

theorem Noticed.upstream {u : State} (h : Noticed new s t) (hu : Upstream t u) : Noticed new s u where
  only := h.only.trans (hu.only.mono rfl)
  dlc := by rw [hu.dlc]; exact h.dlc
  still := hu.still h.still
  sbu := hu.sbu.trans h.sbu
  passdown := hu.passdown.trans h.passdown

theorem Noticed.departed (h : Noticed new s t) : Noticed new s (gateDeparture t).1 where
  only := h.only.trans (gateDeparture_only t rfl)
  dlc := by rw [(gateDeparture_only t (T := [.igt, .fbf]) rfl).dlc rfl]; exact h.dlc
  still := by
    refine ⟨?_, .inl ?_⟩
    · rw [(gateDeparture_only t (T := [.igt, .fbf]) rfl).ulp rfl]; exact h.still.1
    · exact (upstream_queuePending _ _ rfl).head rfl
  sbu := by rw [(gateDeparture_only t (T := [.igt, .fbf]) rfl).sbu rfl]; exact h.sbu
  passdown := (passdown_queuePending _ _).trans h.passdown

/-- A change of the dock state at which the dock's other listeners have nothing to do: the SBU's answer, and what follows. -/
theorem Ends.dockMovedHeard (hs : s.Still) (hp : s.psc.power = .run) (hhau : s.Heard new)
    (hbase : new.baseCond = s.pcl.cond) (h : ∀ t, Noticed new s t → Ends k m t Q) :
    Ends (k + 105) ((dockMove new s).2 ++ m) (dockMove new s).1 Q := by
  rw [dockMove_signals]
  have hstill : (s.asked new).Still := by
    refine ⟨hs.1, hs.2.imp id fun hh => ?_⟩
    unfold State.asked dockMove
    dsimp only
    split <;> exact hh
  have hrecheck : ∀ t, Noticed new s t → Ends (k + 1) (.pscRecheck :: m) t Q := fun t ht =>
    Ends.skip (standbyRecheck_of_run ((congrArg Psc.power (ht.only.psc rfl)).trans hp)) (by simp) (h t ht)
  refine Ends.cons (k := k + 104) (by simp) ?_
  refine Ends.le (Ends.applied (s := s.asked new) (k := k + 15) hstill fun t ht => ?_) (by omega)
  have ht := ht.noticed
  refine Ends.skip (k := k + 14) (hauDockNotice_of_heard ?_) (by simp) ?_
  · rw [State.Heard, ht.dlc.tiltAvailable, ht.only.hau rfl]
    exact hhau
  refine Ends.skip (k := k + 13) (pclDockNotice_of_same ?_) (by simp) ?_
  · exact ht.dlc.baseCond.trans (hbase.trans (congrArg Pcl.cond (ht.only.pcl rfl)).symm)
  cases s.dlc.state.delivers && !new.state.delivers with
  | false => exact Ends.le (hrecheck t ht) (by omega)
  | true =>
    refine Ends.step (k := k + 12) (t := (gateDeparture t).1) (new := [.arbiter]) rfl (by simp) ?_
    exact Ends.upstream (k := k + 1) rfl ht.departed.still fun u hu => hrecheck u (ht.departed.upstream hu)

/-- The same with no base vector. -/
theorem Ends.dockMovedStill (hs : s.Still) (hp : s.psc.power = .run) (htilt : new.tiltAvailable = false)
    (hcond : s.hau.cond = .absent) (hbase : new.baseCond = s.pcl.cond) (h : ∀ t, Noticed new s t → Ends k m t Q) :
    Ends (k + 105) ((dockMove new s).2 ++ m) (dockMove new s).1 Q :=
  Ends.dockMovedHeard hs hp (.inr ⟨htilt, hcond⟩) hbase h

/-! ### Steps -/

/-- A step in flight. -/
def Dlc.started (st : DockStep) (d : Dlc) : Dlc := { d with step := some st }

/-- The record in which a step begins (04 R63, R66, R72). -/
def Dlc.identifies (d : Dlc) : Dlc :=
  { (d.started .identify).moved .identifying with recov := false, basePower := true, await := some .ident }
def Dlc.powers (d : Dlc) : Dlc := { (d.started .power).moved .powering with recov := false, await := some .run }
def Dlc.wakes (d : Dlc) : Dlc := { (d.started .wake).moved .waking with await := some .run }

/-- The state with a step in flight. -/
def State.started (st : DockStep) (s : State) : State := { s with dlc := s.dlc.started st }

theorem beginStep_identify (h : s.dlc.state = .present) (hb : 50 ≤ s.par.bTotal) :
    beginStep .identify s = dockMove s.dlc.identifies (s.started .identify) := by
  rw [beginStep, if_pos (by simp [Dlc.begins, stepState, h])]
  exact if_neg (Nat.not_lt.mpr hb)

theorem beginStep_identify_fault (h : s.dlc.state = .present) (hb : s.par.bTotal < 50) :
    beginStep .identify s = dockFault .budget true (s.started .identify) := by
  rw [beginStep, if_pos (by simp [Dlc.begins, stepState, h])]
  exact if_pos hb

theorem beginStep_power (h : s.dlc.state = .identified ∨ s.dlc.state = .identifying ∧ s.dlc.recov = true)
    (hb : s.dlc.activeDemand ≤ s.par.bTotal) : beginStep .power s = dockMove s.dlc.powers (s.started .power) := by
  rw [beginStep, if_pos]
  · exact if_neg (Nat.not_lt.mpr hb)
  · rcases h with h | ⟨h, hr⟩ <;> simp [Dlc.begins, stepState, *]

theorem beginStep_power_fault (h : s.dlc.state = .identified ∨ s.dlc.state = .identifying ∧ s.dlc.recov = true)
    (hb : s.par.bTotal < s.dlc.activeDemand) : beginStep .power s = dockFault .budget true (s.started .power) := by
  rw [beginStep, if_pos]
  · exact if_pos hb
  · rcases h with h | ⟨h, hr⟩ <;> simp [Dlc.begins, stepState, *]

theorem beginStep_wake (h : s.dlc.state = .quiesced) (hb : s.dlc.activeDemand ≤ s.par.bTotal) :
    beginStep .wake s = dockMove s.dlc.wakes (s.started .wake) := by
  rw [beginStep, if_pos (by simp [Dlc.begins, stepState, h])]
  exact if_neg (Nat.not_lt.mpr hb)

theorem walkNext_begins {w : Walk} {st : DockStep} (hw : s.dlc.walk = some w) (ha : s.awake = true) (hs : s.dlc.step = none)
    (h : walkStep w.target s.dlc.state = some st) : walkNext s = (s, [.dlcBegin st]) := by
  rw [walkNext, hw]
  dsimp only
  rw [if_pos ⟨ha, by simp [hs]⟩, h]

/-- A step begun in RUN. -/
theorem Ends.begun {st : DockStep} (he : beginStep st s = Machine.dockMove new (s.started st)) (hm : ∀ g ∈ m, new.Quiets g)
    (hq : s.ulp.queue = []) (hp : s.psc.power = .run) :
    Ends (k + 2) (.dlcBegin st :: m) s fun t => DockMoved new (s.started st) t ∧ t.psc.power = .run := by
  refine Ends.step (k := k + 1) (t := (Machine.dockMove new (s.started st)).1) (new := (Machine.dockMove new (s.started st)).2)
    he (by simp) ?_
  exact Ends.dockMoved hm (by exact hq) (by exact hp)

/-- A step that fails for the budget. -/
theorem Ends.begunFaulted {st : DockStep} (he : beginStep st s = Machine.dockFault .budget true (s.started st))
    (hm : ∀ g ∈ m, g = .openDue) (hq : s.ulp.queue = []) :
    Ends (k + 2) (.dlcBegin st :: m) s (DockRested ((s.dlc.started st).faulted .budget)) := by
  refine Ends.step (k := k + 1) (t := (Machine.dockFault .budget true (s.started st)).1)
    (new := (Machine.dockFault .budget true (s.started st)).2) he (by simp) ?_
  exact Ends.dockFaulted (s := s.started st) hm (by exact hq)

end

end Sys2Proof.Machine
end

section
/-! PROOFS. The dock's timers: settle, ready, shed. -/

namespace Sys2Proof.Machine

open Sys2Proof

section
variable {new : Dlc} {s t u : State} {k n : Nat} {l m : List Signal} {Q : State → Prop} {c : Instr} {a : Act}

/-! ### Asleep -/

theorem power_of_asleep (ha : s.awake = false) : s.psc.power = .standby ∨ s.psc.power = .settle := by
  unfold State.awake at ha
  cases h : s.psc.power <;> simp_all

theorem asleep_of_power (h : s.psc.power = .standby ∨ s.psc.power = .settle) : s.awake = false := by
  rcases h with h | h <;> simp [State.awake, h]

/-- In STANDBY and SETTLE no change of host state reaches RUN, and the dock's record stands. -/
theorem asleep_handle {g : Signal} (hg : g.kind ∈ restKinds) (hq : s.ulp.queue = []) (ha : s.awake = false)
    (hr : g ≠ .walkNext → s.dlc.Rests g) :
    s.dlc.Stands (handle g s).1.dlc ∧ (handle g s).1.fbf.passdown = s.fbf.passdown ∧ (handle g s).1.awake = false ∧
      ∀ x ∈ (handle g s).2, x.kind ∈ noticeKinds := by
  have hquiet : handle g s = quiet s → s.dlc.Stands (handle g s).1.dlc ∧ (handle g s).1.fbf.passdown = s.fbf.passdown ∧
      (handle g s).1.awake = false ∧ ∀ x ∈ (handle g s).2, x.kind ∈ noticeKinds := fun e => by
    rw [e]; exact ⟨.refl _, rfl, ha, nofun⟩
  have hfol : (g.kind.idleFollows.all noticeKinds.contains = true) → ∀ x ∈ (handle g s).2, x.kind ∈ noticeKinds := fun e x hx => by
    have := handle_idleFollows hq x hx
    rw [← idleFollows_kind] at this
    exact List.contains_iff_mem.mp (List.all_eq_true.mp e _ this)
  by_cases hd : g.blocks.contains .dlc = false ∧ g.blocks.contains .psc = false ∧ g.kind.idleFollows.all noticeKinds.contains = true
  · obtain ⟨hd, hs, hf⟩ := hd
    refine ⟨by rw [(handle_blocks g s).dlc hd]; exact .refl _, handle_passdown hq (.inl hd), ?_, hfol hf⟩
    rw [State.awake, (handle_blocks g s).psc hs]
    exact ha
  have hdoze : s.psc.power ≠ .doze := by rcases power_of_asleep ha with h | h <;> simp [h]
  cases g
  case serve =>
    have ho := handle_idleBlocks (g := .serve) hq
    refine ⟨by rw [ho.dlc rfl]; exact .refl _, handle_passdown hq (.inr rfl), ?_, hfol rfl⟩
    rw [State.awake, ho.psc rfl]
    exact ha
  case pscHost old new =>
    rw [handle, hostChanged]
    rcases power_of_asleep ha with h | h
    · rw [h]
      dsimp only
      split
      · exact ⟨.refl _, rfl, ha, nofun⟩
      · exact ⟨.refl _, rfl, rfl, nofun⟩
    · rw [h]
      exact ⟨.refl _, rfl, ha, nofun⟩
  case pscRecheck => exact hquiet (if_neg hdoze)
  case pscDeferred => exact hquiet (if_neg fun h => hdoze h.1)
  case grantApplied b =>
    rw [handle, grantApplied_eq]
    exact ⟨Dlc.stands_granted b _ _, rfl, ha, nofun⟩
  case walkNext =>
    refine hquiet ?_
    rw [handle, walkNext]
    split
    · rfl
    · exact if_neg (by simp [ha])
  case servePower =>
    rcases servePower_of_rests (hr (by simp)) with he | he
    · exact hquiet he
    · rw [handle, he]; exact ⟨⟨rfl, .inl rfl, .inr rfl, fun _ => rfl⟩, rfl, ha, nofun⟩
  case openDue =>
    obtain ⟨d, he, hd⟩ := openDue_of_rests (hr (by simp))
    rw [handle, he]
    exact ⟨hd, rfl, ha, nofun⟩
  case report k f =>
    by_cases hk : k = .forceCut
    · simp [Signal.kind, hk] at hg
    · refine (hd ⟨rfl, rfl, ?_⟩).elim
      rw [show (Signal.report k f).kind = Kind.report by simp [Signal.kind, hk]]
      rfl
  all_goals first
    | exact (hd ⟨rfl, rfl, rfl⟩).elim
    | simp [Signal.kind] at hg

theorem Ends.asleep (ha : s.awake = false) (hl : ∀ g ∈ l, g.kind ∈ restKinds ∧ (g ≠ .walkNext → s.dlc.Rests g))
    (hq : s.ulp.queue = []) : Ends k l s fun t => s.dlc.Stands t.dlc ∧ t.fbf.passdown = s.fbf.passdown := by
  refine Ends.of_keeps (fun g => g.kind ∈ restKinds ∧ (g ≠ .walkNext → s.dlc.Rests g))
    (fun t => (s.dlc.Stands t.dlc ∧ t.fbf.passdown = s.fbf.passdown) ∧ t.awake = false ∧ t.ulp.queue = []) ?_ hl
    ⟨⟨.refl _, rfl⟩, ha, hq⟩ fun _ h => h.1
  rintro g t ⟨hg, hr⟩ ⟨⟨hd, hpass⟩, hat, hqt⟩
  obtain ⟨h1, h2, h3, h4⟩ := asleep_handle hg hqt hat fun h => (hr h).of_stands hd
  refine ⟨⟨⟨hd.trans h1, h2.trans hpass⟩, h3, handle_queue (fun e => ?_) hqt⟩, fun x hx =>
    ⟨List.mem_append_right _ (h4 x hx), fun _ => rests_of_notice (h4 x hx)⟩⟩
  rw [e] at hg
  simp at hg

/-- A change of the dock state asleep. -/
theorem Ends.movedAsleep (ha : s.awake = false) (hm : ∀ g ∈ m, g.kind ∈ restKinds ∧ (g ≠ .walkNext → new.Rests g))
    (hq : s.ulp.queue = []) (he : new.state.empties = true) :
    Ends (k + 1) ((dockMove new s).2 ++ m) (dockMove new s).1 fun t => new.Stands t.dlc ∧ t.fbf.passdown = [] := by
  rw [dockMove_signals]
  have hone : Only [.sbu, .pcc] (dockMove new s).1 (dockRequest new.level (dockMove new s).1).1 := dockRequest_only _ _ rfl
  refine Ends.cons (by simp) (Ends.mono (Ends.asleep (s := (dockRequest new.level (dockMove new s).1).1) ?_ ?_ ?_) ?_)
  · rw [State.awake, hone.psc rfl]; exact ha
  · intro g hg
    rw [hone.dlc rfl]
    have hnotice : g.kind ∈ noticeKinds → g.kind ∈ restKinds ∧ (g ≠ .walkNext → new.Rests g) := fun h =>
      ⟨List.mem_append_right _ h, fun _ => rests_of_notice h⟩
    rcases List.mem_append.mp hg with h | h
    · exact hnotice ((show ∀ k ∈ [Kind.report, Kind.grantApplied], k ∈ noticeKinds by decide) _ (dockRequest_kinds _ _ g h))
    · rcases List.mem_append.mp h with h | h
      · exact hnotice ((show ∀ k ∈ [Kind.hauDock, .pclDock, .igtDeparture, .pscRecheck], k ∈ noticeKinds by decide) _
          (moveNotices_kinds _ g h))
      · exact hm g h
  · rw [hone.ulp rfl]; exact hq
  · rintro t ⟨hd, hpass⟩
    rw [hone.dlc rfl] at hd
    rw [hone.fbf rfl, dockMove_passdown, if_pos he] at hpass
    exact ⟨hd, hpass⟩

/-! ### The settle timer -/

/-- The record of a base that has settled. -/
def Dlc.settled (w : Option Walk) (d : Dlc) : Dlc := { d.moved .present with base := none, walk := w }

theorem dockSettled_signals {w : Option Walk} (s : State)
    (hw : (if s.par.attachPolicy = 1 then some ⟨.attach, .policy⟩ else s.dlc.walk) = w) :
    (dockSettled s).1 = (dockMove (s.dlc.settled w) s).1 ∧
      ∃ f, (dockSettled s).2 = (dockMove (s.dlc.settled w) s).2 ++ [.report .dock f, .walkNext] := by
  subst hw
  refine ⟨rfl, ?_⟩
  simp only [dockSettled, Act.andThen, reportDock, emit, List.append_assoc, dockReport]
  exact ⟨_, rfl⟩

theorem Dlc.settled_rest {d : Dlc} (h : d.step = none) : (d.settled none).AtRest := ⟨.inr (.inl rfl), h, rfl, rfl, rfl⟩

/-- The fault of a dock in RUN leaves the other blocks' records. -/
theorem Ends.dockFaultedRun {c : DockCause} {b : Bool} (hq : s.ulp.queue = []) (hp : s.psc.power = .run) :
    Ends (k + 1) ((dockFault c b s).2 ++ []) (dockFault c b s).1 fun t =>
      DockMoved (s.dlc.faulted c) s t ∧ t.psc.power = .run := by
  obtain ⟨he, r, hr, hl⟩ := dockFault_signals c b s
  rw [he, hl, List.append_assoc]
  refine Ends.dockMoved (fun g hg => ?_) hq hp
  rcases List.mem_append.mp hg with h | h
  · rcases List.mem_cons.mp h with rfl | h
    · exact quiets_of_notice (by rw [hr]; decide) (by rw [hr]; simp)
    · obtain ⟨hk, hw⟩ := plain_all (l := stepEnd) (K := restKinds) rfl g h
      exact ⟨hk, hw, (s.dlc.faulted_rest c).rests g⟩
  · exact nomatch h

theorem awake_of_run (h : s.psc.power = .run) : s.awake = true := by simp [State.awake, h]

/-- Settles O29. -/
theorem dockSettleAndReadyTimers : Obligations.DockSettleAndReadyTimers := by
  have hev : ∀ (r : Nat) (s : State) (w : Option Walk) (Q : State → Prop), s.dlc.settle = some r → s.ulp.queue = [] →
      (if s.par.attachPolicy = 1 then some ⟨.attach, .policy⟩ else s.dlc.walk) = w →
      (∀ f, Ends 1000 ((dockMove ((elapse r s).dlc.settled w) (elapse r s)).2 ++ [.report .dock f, .walkNext])
        (dockMove ((elapse r s).dlc.settled w) (elapse r s)).1 Q) →
      ∃ t, exec .settleTimerDockExpiry s = .next t ∧ Q t ∧ s.SameConfig t ∧ t.sib = (elapse r s).sib := by
    intro r s w Q hset hq hw h
    obtain ⟨h1, f, h2⟩ := dockSettled_signals (elapse r s) hw
    have hsome : (elapse r s).dlc.settle.isSome = true := by
      rw [show (elapse r s).dlc.settle = s.dlc.settle.pass r from rfl, hset]; rfl
    obtain ⟨t, ht, hQ, hc, hs, -⟩ := exec_event (c := .settleTimerDockExpiry) (s := s) (u := elapse r s) (Q := Q) rfl
      (State.SameConfig.refl s) hq (finish_expiry hset) (if_pos hsome) rfl rfl (by rw [h1, h2]; exact h f)
    exact ⟨t, ht, hQ, hc, hs⟩
  have hnoticed : ∀ {r : Nat} {s : State} {Q : State → Prop}, s.psc.power = .run → s.igt.head = .idle → s.hau.cond = .absent →
      s.pcl.cond = .detached → s.ulp.queue = [] → s.dlc.step = none → ∀ f,
      (∀ v : State, v.ulp.queue = [] → ((elapse r s).dlc.settled (some ⟨.attach, .policy⟩)).Stands v.dlc → v.psc.power = .run →
        v.par = s.par → Ends 3 [.walkNext] v Q) →
      Ends 119 ((dockMove ((elapse r s).dlc.settled (some ⟨.attach, .policy⟩)) (elapse r s)).2 ++ [.report .dock f, .walkNext])
        (dockMove ((elapse r s).dlc.settled (some ⟨.attach, .policy⟩)) (elapse r s)).1 Q := by
    intro r s Q hp hh hc hcond hq hstep f h
    refine Ends.dockMovedStill (k := 14) (s := elapse r s) ⟨hq, .inl hh⟩ hp ?_ hc (hcond.symm.trans rfl) fun t ht => ?_
    · simp [Dlc.tiltAvailable, Dlc.settled, Dlc.moved]
    · refine Ends.upstream (k := 3) rfl ht.still fun v hv => ?_
      have hv := ht.upstream hv
      exact h v hv.still.1 hv.dlc ((congrArg Psc.power (hv.only.psc rfl)).trans hp) (hv.only.par rfl)
  refine ⟨fun r s hp hset hstep hq => ⟨fun h0 hw => ?_, fun h1 hh hc hcond => ⟨fun hb => ?_, fun hb => ?_⟩⟩,
    fun r s ha hset hstep hq hpol => ?_, fun r s hrdy hp hq => ?_⟩
  · obtain ⟨t, ht, hQ, hc, hs⟩ := hev r s none (DockRested ((elapse r s).dlc.settled none)) hset hq (by simp [h0, hw])
      fun f => Ends.dockMovedRest (Dlc.settled_rest (by exact hstep)) (kinds_all rfl) (by exact hq)
    exact ⟨t, ht, hQ.dlc.state, hQ.dlc.base, hQ.dlc.walk, hQ.grant, hQ.passdown, hc, hs⟩
  · have hends : ∀ f, Ends 1000
        ((dockMove ((elapse r s).dlc.settled (some ⟨.attach, .policy⟩)) (elapse r s)).2 ++ [.report .dock f, .walkNext])
        (dockMove ((elapse r s).dlc.settled (some ⟨.attach, .policy⟩)) (elapse r s)).1 fun t =>
          ∃ d : Dlc, d.identifies.Stands t.dlc ∧ d.walk = some ⟨.attach, .policy⟩ ∧ t.sbu.requested = 50 := by
      intro f
      refine Ends.le (hnoticed hp hh hc hcond hq hstep f fun v hv hd hps hpar => ?_) (by omega)
      refine Ends.step (k := 2) (walkNext_begins hd.walk (awake_of_run hps) (hd.step.trans hstep) (by rw [hd.state]; rfl))
        (by simp) ?_
      refine Ends.mono (Ends.begun (m := []) (beginStep_identify hd.state (by rw [hpar]; exact hb)) nofun hv hps) ?_
      rintro t ⟨ht, -⟩
      exact ⟨v.dlc, ht.dlc, hd.walk, ht.requested⟩
    obtain ⟨t, ht, ⟨d, hd, hw, hreq⟩, hcf, hs⟩ := hev r s (some ⟨.attach, .policy⟩) _ hset hq (if_pos h1) hends
    exact ⟨t, ht, hd.state, hd.recov, hd.step, hd.walk.trans hw, hd.basePower, hreq, hcf, hs⟩
  · have hends : ∀ f, Ends 1000
        ((dockMove ((elapse r s).dlc.settled (some ⟨.attach, .policy⟩)) (elapse r s)).2 ++ [.report .dock f, .walkNext])
        (dockMove ((elapse r s).dlc.settled (some ⟨.attach, .policy⟩)) (elapse r s)).1 fun t =>
          ∃ d : Dlc, DockRested ((d.started .identify).faulted .budget) t ∧ d.base = none := by
      intro f
      refine Ends.le (hnoticed hp hh hc hcond hq hstep f fun v hv hd hps hpar => ?_) (by omega)
      refine Ends.step (k := 2) (walkNext_begins hd.walk (awake_of_run hps) (hd.step.trans hstep) (by rw [hd.state]; rfl))
        (by simp) ?_
      refine Ends.mono (Ends.begunFaulted (m := []) (beginStep_identify_fault hd.state (by rw [hpar]; exact hb)) nofun hv) ?_
      exact fun t ht => ⟨v.dlc, ht, hd.base⟩
    obtain ⟨t, ht, ⟨d, hd, hb⟩, hcf, hs⟩ := hev r s (some ⟨.attach, .policy⟩) _ hset hq (if_pos h1) hends
    exact ⟨t, ht, hd.dlc.state, hd.dlc.cause, hd.dlc.step, hd.dlc.walk, hd.dlc.base.trans hb, hd.grant, hcf, hs⟩
  · have hends : ∀ f, Ends 1000
        ((dockMove ((elapse r s).dlc.settled (some ⟨.attach, .policy⟩)) (elapse r s)).2 ++ [.report .dock f, .walkNext])
        (dockMove ((elapse r s).dlc.settled (some ⟨.attach, .policy⟩)) (elapse r s)).1 fun t =>
          ((elapse r s).dlc.settled (some ⟨.attach, .policy⟩)).Stands t.dlc ∧ t.fbf.passdown = [] := by
      intro f
      exact Ends.movedAsleep (k := 999) (s := elapse r s) (by exact ha) (fun g hg => by
        rcases List.mem_cons.mp hg with rfl | hg
        · exact ⟨show Kind.report ∈ restKinds by decide, fun _ => trivial⟩
        · rw [List.mem_singleton.mp hg]; exact ⟨by decide, fun h => (h rfl).elim⟩) (by exact hq) rfl
    obtain ⟨t, ht, ⟨hd, hpass⟩, hc, hs⟩ := hev r s (some ⟨.attach, .policy⟩) _ hset hq (if_pos hpol) hends
    exact ⟨t, ht, hd.state, hd.base, hd.step.trans hstep, hd.walk, hpass, hc, hs⟩
  · obtain ⟨t, ht, ⟨hQ, -⟩, hc, hs, -⟩ := exec_event (c := .readyTimerExpiry) (s := s) (u := elapse r s)
      (Q := fun t => DockMoved ((elapse r s).dlc.faulted .power) (elapse r s) t ∧ t.psc.power = .run) rfl
      (State.SameConfig.refl s) hq (finish_expiry hrdy) rfl rfl rfl (by
        have := Ends.dockFaultedRun (k := 999) (s := elapse r s) (c := .power) (b := true) hq hp
        rw [List.append_nil] at this
        exact this)
    exact ⟨t, ht, hQ.dlc.state, hQ.dlc.cause, hQ.dlc.step, hQ.dlc.walk, hQ.dlc.basePower, hQ.dlc.base, hQ.grant rfl,
      hQ.passdown, hc, hs, hQ.only.oru rfl⟩

end

end Sys2Proof.Machine
end

section
/-! PROOFS. The answers of a base: the close of a slot, the tests of a STAT, the end of POWERING and WAKING. -/

namespace Sys2Proof.Machine

open Sys2Proof

section
variable {new : Dlc} {s t : State} {k n : Nat} {l m : List Signal} {Q : State → Prop} {f : DockFrame}
  {gate : Answer → State → Act} {ans : Option Answer} {o : Outcome}

/-! ### The close of a slot -/

/-- The slot in progress is closed. -/
def State.slotClosed (s : State) : State := { s with dlc := { s.dlc with slot := none } }

/-- The states and frames of a POLL or PASSDOWN slot. -/
def Dlc.Polls (d : Dlc) (f : DockFrame) : Prop := d.state = .active ∧ f.head ≠ headQuiesce ∨ d.state = .quiesced

/-- The states of a RUN slot. -/
def Dlc.Runs (d : Dlc) : Prop := d.state = .powering ∨ d.state = .waking

theorem Dlc.Polls.ne {d : Dlc} (h : d.Polls f) : d.state ≠ .identifying := by rcases h with h | h <;> simp [h]
theorem Dlc.Runs.ne {d : Dlc} (h : d.Runs) : d.state ≠ .identifying := by rcases h with h | h <;> simp [h]

theorem closeSlot_none (h : s.dlc.slot = none) : closeSlot gate ans o s = quiet s := by rw [closeSlot, h]

theorem closeSlot_poll (h : s.dlc.slot = some f) (hst : s.dlc.Polls f) :
    closeSlot gate ans o s = pollClose gate ans s.slotClosed := by
  rw [closeSlot, h]
  dsimp only
  split <;> simp_all [Dlc.Polls, State.slotClosed]

theorem closeSlot_quiesce (h : s.dlc.slot = some f) (hst : s.dlc.state = .active) (hf : f.head = headQuiesce) :
    closeSlot gate ans o s = quiesceClose gate ans s.slotClosed := by
  rw [closeSlot, h]
  dsimp only
  split <;> simp_all [State.slotClosed]

theorem closeSlot_run (h : s.dlc.slot = some f) (hst : s.dlc.Runs) :
    closeSlot gate ans o s = runClose gate ans s.slotClosed := by
  rw [closeSlot, h]
  dsimp only
  split <;> simp_all [Dlc.Runs, State.slotClosed]

theorem closeSlot_ident (h : s.dlc.slot = some f) (hst : s.dlc.state = .identifying) :
    closeSlot gate ans o s = identClose ans o s.slotClosed := by
  rw [closeSlot, h]
  dsimp only
  split <;> simp_all [State.slotClosed]

/-- The slot's missed count is cleared by a VALID answer. -/
def State.slotAnswered (s : State) : State := { s with dlc := { s.dlc with slot := none, missed := 0 } }

/-- The overdraw run after a STAT. -/
def State.drawn (s : State) (ma : Nat) : State :=
  { s with dlc := { s.dlc with overdraw := overdrawNext s.sbu.grant ma s.dlc.overdraw } }

section
variable {flags : Byte} {ma : Nat} {c : State → Act}

theorem statTests_base (h : flags.getLsbD 2 = true) : statTests flags ma c s = dockFault .base true s := if_pos h

theorem statTests_overdraw (h : flags.getLsbD 2 = false) (ho : overdrawNext s.sbu.grant ma s.dlc.overdraw = 3) :
    statTests flags ma c s = dockFault .overdraw true (s.drawn ma) :=
  (if_neg (by rw [h]; simp)).trans (if_pos ho)

theorem statTests_passed (h : flags.getLsbD 2 = false) (ho : overdrawNext s.sbu.grant ma s.dlc.overdraw ≠ 3) :
    statTests flags ma c s = c (s.drawn ma) := (if_neg (by rw [h]; simp)).trans (if_neg ho)

/-- A STAT that fails its tests faults the dock. -/
theorem statTests_faults (h : flags.getLsbD 2 = true ∨ overdrawNext s.sbu.grant ma s.dlc.overdraw = 3) :
    ∃ u : State, statTests flags ma c s = dockFault (if flags.getLsbD 2 then .base else .overdraw) true u ∧
      s.SameConfig u ∧ u.ulp = s.ulp ∧ u.sib = s.sib ∧ u.ms = s.ms ∧ u.dlc.base = s.dlc.base := by
  cases hf : flags.getLsbD 2
  · exact ⟨s.drawn ma, statTests_overdraw hf (h.resolve_left (Bool.eq_false_iff.mp hf)), State.SameConfig.refl s, rfl, rfl, rfl, rfl⟩
  · exact ⟨s, statTests_base hf, State.SameConfig.refl s, rfl, rfl, rfl, rfl⟩

end

/-- A closed slot after which none is due. -/
theorem finish_openDue (h : t.dlc.NotDue) : finish (t, [.openDue]) = .next t := by
  refine finish_of_settle (Ends.settle_eq (a := (t, [.openDue])) ?_)
  exact Ends.le (Ends.skip (k := 0) (openDue_of_notDue h) (by simp) (Ends.nil rfl)) (by omega)

theorem notDue_of_slotTimer {d : Dlc} (hs : d.state ≠ .identifying) (h : d.slotTimer ≠ some 0) : d.NotDue :=
  .inr (by rw [if_neg hs]; exact h)

/-! ### The end of a step in a state -/

theorem stepDone_signals {st : DockStep} {o : Option Origin} :
    (stepDone st new o s).1 = (dockMove new s).1 ∧
      (stepDone st new o s).2 = (dockMove new s).2 ++ (dockReport new .stepDone (some st) o none :: stepEnd) := by
  refine ⟨rfl, ?_⟩
  simp only [stepDone, Act.andThen, reportDock, emit, List.append_assoc]
  rfl

/-- A report of the dock rests. -/
theorem quiets_dockReport {d : Dlc} {e : DockEvent} {st : Option DockStep} {o : Option Origin} {c : Option DockCause} :
    new.Quiets (dockReport d e st o c) := quiets_of_notice (by simp [dockReport, Signal.kind]) (by simp [dockReport, Signal.kind])

/-- What follows the end of a step rests where no walk goes on and no request finds its state. -/
theorem quiets_stepEnd (hw : new.walk = none) (hr : new.Rests .servePower) : ∀ g ∈ stepEnd, new.Quiets g := by
  intro g hg
  obtain ⟨hk, hwake⟩ := plain_all (l := stepEnd) (K := restKinds) rfl g hg
  refine ⟨hk, hwake, ?_⟩
  rcases List.mem_cons.mp hg with rfl | hg
  · exact .inl hw
  · rcases List.mem_cons.mp hg with rfl | hg
    · trivial
    · rw [List.mem_singleton.mp hg]; exact hr

theorem quiets_openDue (h : new.Fixed ∧ new.NotDue ∨ new.state = .quiesced) : new.Quiets .openDue :=
  ⟨by decide, wakes_of_kind (by decide), h⟩

theorem Dlc.granted_none {d : Dlc} (h : d.await = none) : d.granted false n = d := by
  unfold Dlc.granted
  simp [h]

/-- Step by step, where the level is the grant and the dock's listeners have nothing to do. -/
theorem Ends.dockMovedLevel (hp : s.psc.power = .run) (hg : s.sbu.grant = new.level) (ha : new.await = none)
    (htilt : new.tiltAvailable = false) (hcond : s.hau.cond = .absent) (hbase : new.baseCond = s.pcl.cond)
    (hdep : (s.dlc.state.delivers && !new.state.delivers) = false)
    (h : Ends k m { s.asked new with sbu := { s.sbu with requested := new.level, pending := false } } Q) :
    Ends (k + 5) ((dockMove new s).2 ++ m) (dockMove new s).1 Q := by
  have hreq : dockRequest new.level (dockMove new s).1 =
      ({ s.asked new with sbu := { s.sbu with requested := new.level, pending := false } }, [.grantApplied false]) := by
    have happ : applyRequest (s.asked new) =
        ({ s.asked new with sbu := { s.sbu with requested := new.level, pending := false } }, [.grantApplied false]) :=
      if_pos hg.symm
    refine (budgetEvent_eq applyRequest (s.asked new)).trans ?_
    rw [happ]
    simp only [budgetTail]
    simp [State.asked, dockMove]
  have hquiet : grantApplied false { s.asked new with sbu := { s.sbu with requested := new.level, pending := false } } =
      quiet { s.asked new with sbu := { s.sbu with requested := new.level, pending := false } } := by
    rw [grantApplied_eq, Dlc.granted_none (by exact ha)]
  rw [dockMove_signals, hdep]
  refine Ends.step (k := k + 4) hreq (by simp) (Ends.skip (k := k + 3) hquiet (by simp) ?_)
  refine Ends.skip (k := k + 2) (hauDockNotice_of_absent htilt hcond) (by simp) ?_
  refine Ends.skip (k := k + 1) (pclDockNotice_of_same hbase) (by simp) ?_
  exact Ends.skip (k := k) (standbyRecheck_of_run hp) (by simp) h

/-- A report that fits behind no lost ones, on a busy line. -/
theorem Ends.reportStored {r : ReportKind} {f : List Byte} (he : reportEnabled s.ulp.mask r = true) (hl : s.ulp.lost = 0)
    (hfit : f.length + 9 ≤ s.fbf.reportFree) (hbusy : s.ulp.lineFree = false)
    (h : Ends k l { s with fbf := { s.fbf with report := s.fbf.report ++ [⟨.report, reportPayload r s.ms f⟩] } } Q) :
    Ends (k + 2) (.report r f :: l) s Q := by
  refine Ends.step (k := k + 1) ((composeReport_of_alone he (.inl hl)).trans (offerReport_of_fits r hfit)) (by simp) ?_
  exact Ends.arbiter_busy (k := k) (by exact hbusy) h

/-- The fields of a DOCK report. -/
def dockFields (d : Dlc) (e : DockEvent) (st : Option DockStep) (o : Option Origin) (c : Option DockCause) : List Byte :=
  num1 e.code ++ optField (fun x => num1 (DockStep.code x)) st ++ optField (fun x => num1 (Origin.code x)) o ++
    num1 d.state.code ++ optField (fun x => num1 (DockCause.code x)) c ++
    optField (fun b => num1 (BaseRecord.classCode b)) d.base

theorem dockReport_eq (d : Dlc) (e : DockEvent) (st : Option DockStep) (o : Option Origin) (c : Option DockCause) :
    dockReport d e st o c = .report .dock (dockFields d e st o c) := rfl

theorem length_optField_one {α : Type} (g : α → Nat) (a : Option α) : (optField (fun x => num1 (g x)) a).length ≤ 2 := by
  cases a <;> simp [optField, num1]

theorem length_dockFields (d : Dlc) (e : DockEvent) (st : Option DockStep) (o : Option Origin) :
    (dockFields d e st o none).length ≤ 9 := by
  have h1 := length_optField_one DockStep.code st
  have h2 := length_optField_one Origin.code o
  have h3 := length_optField_one BaseRecord.classCode d.base
  simp only [dockFields, List.length_append, length_num1]
  have : (optField (fun x => num1 (DockCause.code x)) none).length = 1 := rfl
  omega

/-- The report at the end of a step on a busy line, and nothing that goes on. -/
theorem Ends.stepReported {d : Dlc} {e : DockEvent} {st : Option DockStep} {o : Option Origin} (hp : s.psc.power = .run)
    (hen : reportEnabled s.ulp.mask .dock = true) (hl : s.ulp.lost = 0) (hfree : 18 ≤ s.fbf.reportFree)
    (hbusy : s.ulp.lineFree = false) (hw : s.dlc.walk = none) (hr : s.dlc.powerReq = none)
    (h : Ends k m { s with fbf := { s.fbf with
      report := s.fbf.report ++ [⟨.report, reportPayload .dock s.ms (dockFields d e st o none)⟩] } } Q) :
    Ends (k + 5) (dockReport d e st o none :: (stepEnd ++ m)) s Q := by
  have hlen := length_dockFields d e st o
  refine Ends.reportStored (k := k + 3) (f := dockFields d e st o none) hen hl (by omega) hbusy ?_
  refine Ends.skip (k := k + 2) (walkNext_of_rests (by exact .inl hw)) (by simp) ?_
  refine Ends.skip (k := k + 1) (deferredRecheck_of_run (by exact hp)) (by simp) ?_
  refine Ends.skip (k := k) ?_ (by simp) h
  change servePower _ = _
  unfold servePower
  dsimp only
  rw [hr]

/-! ### Answers in the powered states -/

theorem exec_answer {bytes : List Byte} {a : Answer} (h : parseAnswer bytes = some a) :
    exec (.dockAnswer bytes) s = finish (closeSlot gateArrival (some a) .valid s) := by
  change finish (dockAnswer bytes s) = _
  rw [dockAnswer, h]
  rfl

/-- A POLL or PASSDOWN slot closed by a VALID answer, the next one not due. -/
theorem exec_pollAnswer {bytes : List Byte} {a : Answer} {u : State} (h : parseAnswer bytes = some a) (hs : s.dlc.slot = some f)
    (hst : s.dlc.Polls f) (hu : pollClose gateArrival (some a) s.slotClosed = (u, [.openDue])) (hd : u.dlc.NotDue) :
    exec (.dockAnswer bytes) s = .next u := by
  rw [exec_answer h, closeSlot_poll hs hst, hu, finish_openDue hd]

/-- A RUN slot closed, the next one not due. -/
theorem exec_runAnswer {bytes : List Byte} {a : Answer} {u : State} (h : parseAnswer bytes = some a) (hs : s.dlc.slot = some f)
    (hst : s.dlc.Runs) (hu : runClose gateArrival (some a) s.slotClosed = (u, [.openDue])) (hd : u.dlc.NotDue) :
    exec (.dockAnswer bytes) s = .next u := by
  rw [exec_answer h, closeSlot_run hs hst, hu, finish_openDue hd]

theorem answer_of_isIdent {a : Option Answer} (h : a.any Answer.isIdent = true) : ∃ i, a = some (.ident i) := by
  match a, h with
  | some (.ident i), _ => exact ⟨i, rfl⟩

theorem answer_of_isInput {a : Option Answer} (h : a.any Answer.isInput = true) :
    ∃ x, a = some x ∧
      ∀ {u : State}, u.dlc.state.delivers = false → runClose gate (some x) u = (quiet u).andThen (emit [.openDue]) := by
  have hroute : ∀ {x : Answer} {u : State}, u.dlc.state.delivers = false →
      (if u.dlc.state.delivers then gate x u else quiet u) = quiet u := fun h => if_neg (by rw [h]; simp)
  match a, h with
  | some (.key code r), _ => exact ⟨_, rfl, fun h => congrArg (fun a : Act => a.andThen (emit [.openDue])) (hroute h)⟩
  | some (.point p), _ => exact ⟨_, rfl, fun h => congrArg (fun a : Act => a.andThen (emit [.openDue])) (hroute h)⟩

theorem acceptTilt_dlc (x y z : Int) (s : State) : (acceptTilt x y z s).dlc = s.dlc :=
  (acceptTilt_only x y z s (T := [.hau]) rfl).dlc rfl

/-- The ready flag ends POWERING and WAKING. -/
theorem runClose_ready {flags : Byte} {ma : Nat} {st : DockStep} (hf : flags.getLsbD 2 = false) (hr : flags.getLsbD 0 = true)
    (ho : overdrawNext s.sbu.grant ma s.dlc.overdraw ≠ 3) (hst : s.dlc.step = some st) :
    runClose gate (some (.stat flags ma)) s =
      (stepDone st
        { s.dlc.moved .active with
          step := none, walk := none, missed := 0, overdraw := 0, slotTimer := if s.awake then s.dlc.slotTimer else none }
        s.dlc.origin (s.drawn ma)).andThen (emit [.openDue]) := by
  rw [runClose, statTests_passed hf ho, if_pos hr, readyReached, show (s.drawn ma).dlc.step = some st from hst]
  rfl

theorem runClose_waits {flags : Byte} {ma : Nat} (hf : flags.getLsbD 2 = false) (hr : flags.getLsbD 0 = false)
    (ho : overdrawNext s.sbu.grant ma s.dlc.overdraw ≠ 3) :
    runClose gate (some (.stat flags ma)) s = (s.drawn ma, [.openDue]) := by
  rw [runClose, statTests_passed hf ho, if_neg (by rw [hr]; simp)]
  rfl

/-- The record that the ready flag leaves. -/
def Dlc.readied (d : Dlc) : Dlc :=
  { d.moved .active with step := none, walk := none, missed := 0, overdraw := 0, slotTimer := d.slotTimer }

theorem Dlc.level_readied (d : Dlc) : d.readied.level = d.activeDemand := by
  cases h : d.base with
  | none => simp [Dlc.level, Dlc.activeDemand, Dlc.readied, Dlc.moved, h]
  | some b => cases b <;> simp [Dlc.level, Dlc.activeDemand, Dlc.readied, Dlc.moved, h]

/-- What a fault of the dock leaves after the answer that shows it. -/
theorem exec_answerFault {bytes : List Byte} {flags : Byte} {ma : Nat} {v : State}
    (hq : s.ulp.queue = [])
    (he : ∃ c, closeSlot gateArrival (parseAnswer bytes) .valid s = (statTests flags ma c v).andThen (emit m))
    (hm : ∀ g ∈ m, g = .openDue) (hp : parseAnswer bytes = some (.stat flags ma))
    (hulp : v.ulp = s.ulp) (hbase : v.dlc.base = s.dlc.base)
    (h : flags.getLsbD 2 = true ∨ overdrawNext v.sbu.grant ma v.dlc.overdraw = 3) :
    ∃ t, exec (.dockAnswer bytes) s = .next t ∧ t.dlc.state = .faulted ∧
      t.dlc.cause = some (if flags.getLsbD 2 then .base else .overdraw) ∧ t.dlc.step = none ∧ t.dlc.walk = none ∧
      t.dlc.slot = none ∧ t.dlc.basePower = false ∧ t.dlc.base = s.dlc.base ∧ t.sbu.requested = 0 ∧ t.sbu.grant = 0 ∧
      s.SameConfig t ∧ t.sib = s.sib ∧ t.ms = s.ms := by
  obtain ⟨c, he⟩ := he
  obtain ⟨u, hu, -, hul, -, -, hub⟩ := statTests_faults (c := c) h
  have he' : exec (.dockAnswer bytes) s =
      finish ((dockFault (if flags.getLsbD 2 then .base else .overdraw) true u).andThen (emit m)) := by
    change finish (dockAnswer bytes s) = _
    rw [← hu, ← he, dockAnswer, hp]
    rfl
  have hcore : (Instr.dockAnswer bytes).core s =
      (dockFault (if flags.getLsbD 2 then .base else .overdraw) true u).andThen (emit m) := by
    change dockAnswer bytes s = _
    rw [← hu, ← he, dockAnswer, hp]
    rfl
  obtain ⟨t, ht, hQ, hc, hs, hms⟩ := exec_event rfl (State.SameConfig.refl s) hq he' hcore rfl rfl
    (Ends.dockFaulted (k := 999) (m := m) hm (by rw [hul, hulp]; exact hq))
  have hfix := (u.dlc.faulted_rest (if flags.getLsbD 2 then DockCause.base else .overdraw)).fixed
  exact ⟨t, ht, hQ.dlc.state, hQ.dlc.cause, hQ.dlc.step, hQ.dlc.walk, hQ.dlc.slot hfix, hQ.dlc.basePower,
    hQ.dlc.base.trans (hub.trans hbase), hQ.requested, hQ.grant, hc, hs, hms⟩

/-- The signals of the end of POWERING and WAKING. -/
theorem dlcReady_signals {flags : Byte} {ma : Nat} {st : DockStep} (hf : flags.getLsbD 2 = false) (hr : flags.getLsbD 0 = true)
    (ho : overdrawNext s.sbu.grant ma s.dlc.overdraw ≠ 3) (hst : s.dlc.step = some st) (ha : s.awake = true) :
    runClose gate (some (.stat flags ma)) s =
      ((dockMove s.dlc.readied (s.drawn ma)).1,
        (dockMove s.dlc.readied (s.drawn ma)).2 ++
          (dockReport s.dlc.readied .stepDone (some st) s.dlc.origin none :: (stepEnd ++ [.openDue]))) := by
  rw [runClose_ready hf hr ho hst, ha]
  have he := stepDone_signals (new := s.dlc.readied) (s := s.drawn ma) (st := st) (o := s.dlc.origin)
  refine Prod.ext he.1 ?_
  change (stepDone st s.dlc.readied s.dlc.origin (s.drawn ma)).2 ++ [.openDue] = _
  rw [he.2, List.append_assoc, List.cons_append]

theorem dockAnswer_core {bytes : List Byte} {a : Answer} (h : parseAnswer bytes = some a) :
    (Instr.dockAnswer bytes).core s = closeSlot gateArrival (some a) .valid s := by
  change dockAnswer bytes s = _
  rw [dockAnswer, h]
  rfl

/-- The end of POWERING and WAKING in RUN. -/
theorem exec_ready {bytes : List Byte} {flags : Byte} {ma : Nat} {st : DockStep} (h : parseAnswer bytes = some (.stat flags ma))
    (hs : s.dlc.slot = some f) (hst : s.dlc.Runs) (hd : s.dlc.slotTimer ≠ some 0) (hf : flags.getLsbD 2 = false)
    (ho : overdrawNext s.sbu.grant ma s.dlc.overdraw ≠ 3) (hstep : s.dlc.step = some st) (hr : flags.getLsbD 0 = true)
    (hreq : s.dlc.powerReq = none) (hp : s.psc.power = .run) (hq : s.ulp.queue = []) :
    ∃ t, exec (.dockAnswer bytes) s = .next t ∧ t.dlc.state = .active ∧ t.dlc.step = none ∧ t.dlc.walk = none ∧
      t.dlc.ready = none ∧ t.dlc.slot = none ∧ t.dlc.slotTimer = s.dlc.slotTimer ∧ t.dlc.missed = 0 ∧
      t.dlc.overdraw = 0 ∧ t.dlc.base = s.dlc.base ∧ t.dlc.basePower = s.dlc.basePower ∧
      t.sbu.requested = s.dlc.activeDemand ∧ t.fbf.passdown = s.fbf.passdown ∧ s.SameConfig t ∧ t.sib = s.sib ∧
      t.ms = s.ms ∧
      (s.Unruled ∧ s.ulp.lineFree = false ∧ s.pcl.cond = .keyboard ∧ s.dlc.tilt = none ∧ s.hau.cond = .absent ∧
        s.sbu.grant = s.dlc.activeDemand ∧ reportEnabled s.ulp.mask .dock = true ∧ s.ulp.lost = 0 ∧ 18 ≤ s.fbf.reportFree →
        t.fbf.report = s.fbf.report ++
          [⟨.report, reportPayload .dock s.ms (dockFields s.dlc.readied .stepDone (some st) s.dlc.origin none)⟩]) := by
  have hrun := dlcReady_signals (s := s.slotClosed) (gate := gateArrival) hf hr ho hstep (awake_of_run hp)
  have hfix : s.slotClosed.dlc.readied.Fixed := ⟨rfl, nofun⟩
  have hdue : s.slotClosed.dlc.readied.NotDue := notDue_of_slotTimer nofun hd
  have hclose := (exec_answer (s := s) h).trans ((congrArg finish (closeSlot_run hs hst)).trans (congrArg finish hrun))
  have hmoved := Ends.dockMoved (k := 999) (s := s.slotClosed.drawn ma) (new := s.slotClosed.dlc.readied)
    (m := dockReport s.slotClosed.dlc.readied .stepDone (some st) s.dlc.origin none :: (stepEnd ++ [.openDue])) (by
      intro g hg
      rcases List.mem_cons.mp hg with rfl | hg
      · exact quiets_dockReport
      · rcases List.mem_append.mp hg with hg | hg
        · exact quiets_stepEnd (new := s.slotClosed.dlc.readied) rfl (.inl hreq) g hg
        · rw [List.mem_singleton.mp hg]
          exact quiets_openDue (.inl ⟨hfix, hdue⟩)) hq hp
  have hreported : (s.Unruled ∧ s.ulp.lineFree = false ∧ s.pcl.cond = .keyboard ∧ s.dlc.tilt = none ∧ s.hau.cond = .absent ∧
      s.sbu.grant = s.dlc.activeDemand ∧ reportEnabled s.ulp.mask .dock = true ∧ s.ulp.lost = 0 ∧ 18 ≤ s.fbf.reportFree) →
      Ends 1000 ((dockMove s.slotClosed.dlc.readied (s.slotClosed.drawn ma)).2 ++
        dockReport s.slotClosed.dlc.readied .stepDone (some st) s.dlc.origin none :: (stepEnd ++ [.openDue]))
        (dockMove s.slotClosed.dlc.readied (s.slotClosed.drawn ma)).1
        fun t => t.fbf.report = s.fbf.report ++ [⟨.report, reportPayload .dock s.ms
          (dockFields s.dlc.readied .stepDone (some st) s.dlc.origin none)⟩] := by
    rintro ⟨-, hbusy, hcond, htilt, habs, hgrant, hen, hlost, hfree⟩
    refine Ends.le (Ends.dockMovedLevel (k := 6) hp (hgrant.trans (Dlc.level_readied _).symm) rfl ?_ habs hcond.symm ?_ ?_) (by omega)
    · rw [Dlc.tiltAvailable, show s.slotClosed.dlc.readied.tilt = none from htilt]; rfl
    · exact Bool.and_false _
    refine Ends.stepReported (k := 1) (by exact hp) (by exact hen) (by exact hlost) (by exact hfree) (by exact hbusy) rfl
      (by exact hreq) ?_
    exact Ends.skip (k := 0) (openDue_of_notDue (by exact hdue)) (by simp) (Ends.nil rfl)
  obtain ⟨t, ht, ⟨⟨hQ, -⟩, hrep⟩, hc, hsib, hms⟩ := exec_event (c := .dockAnswer bytes) rfl (State.SameConfig.refl s) hq hclose
    ((dockAnswer_core h).trans ((closeSlot_run hs hst).trans hrun)) rfl rfl (Ends.and (R := fun t => _ → t.fbf.report = _) hmoved fun n hn hall => hreported hall n hn)
  exact ⟨t, ht, hQ.dlc.state, hQ.dlc.step, hQ.dlc.walk, hQ.dlc.ready hfix, hQ.dlc.slot hfix, hQ.dlc.slotTimer hfix,
    hQ.dlc.missed, hQ.dlc.run.elim id id, hQ.dlc.base, hQ.dlc.basePower,
    hQ.requested.trans (Dlc.level_readied _), hQ.passdown, hc, hsib, hms, hrep⟩

/-- Settles O31: a slot that closes with the next one not due moves nothing more; the end of POWERING and WAKING and the
faults are changes of the dock state. -/
theorem activeAnswersAreRouted : Obligations.ActiveAnswersAreRouted := by
  intro bytes f s
  refine ⟨fun h => ?none, fun (hst : s.dlc.Polls f) hs hd => ⟨?plain, ?tilt, ?stat⟩,
    fun (hst : s.dlc.Runs) hs hd => ⟨?closes, ?runTilt, ?runStat⟩, ?faults⟩
  case none =>
    change finish (dockAnswer bytes s) = _
    rw [dockAnswer, closeSlot_none h, finish_quiet]
  case plain =>
    have hdue : s.slotAnswered.dlc.NotDue :=
      notDue_of_slotTimer (by exact hst.ne) hd
    rintro (h | h)
    · exact exec_pollAnswer h hs hst rfl hdue
    · obtain ⟨i, hi⟩ := answer_of_isIdent h
      exact exec_pollAnswer hi hs hst rfl hdue
  case tilt =>
    intro x y z h
    refine exec_pollAnswer h hs hst rfl ?_
    rw [acceptTilt_dlc]
    exact notDue_of_slotTimer (by exact hst.ne) hd
  case stat =>
    intro flags ma h hf ho
    have hdue : (s.slotAnswered.drawn ma).dlc.NotDue :=
      notDue_of_slotTimer (by exact hst.ne) hd
    refine exec_pollAnswer h hs hst ?_ hdue
    have hpass : statTests flags ma quiet s.slotAnswered = quiet (s.slotAnswered.drawn ma) := statTests_passed hf ho
    exact congrArg (fun a : Act => a.andThen (emit [.openDue])) hpass
  case closes =>
    have hdue : s.slotClosed.dlc.NotDue := notDue_of_slotTimer (by exact hst.ne) hd
    have hmiss : ∀ o, finish (closeSlot gateArrival none o s) = .next s.slotClosed := fun o => by
      rw [closeSlot_run hs hst]
      exact finish_openDue hdue
    intro c hc h
    simp only [List.mem_cons, List.not_mem_nil, or_false] at hc
    rcases hc with rfl | rfl | rfl
    · exact hmiss _
    · exact hmiss _
    · rcases h with h | h | h | h | ⟨hpow, h⟩
      · exact (h rfl).elim
      · change finish (dockAnswer bytes s) = _
        rw [dockAnswer, h]
        exact hmiss _
      · exact exec_runAnswer h hs hst rfl hdue
      · obtain ⟨i, hi⟩ := answer_of_isIdent h
        exact exec_runAnswer hi hs hst rfl hdue
      · obtain ⟨a, ha, hroute⟩ := answer_of_isInput h
        refine exec_runAnswer ha hs hst ?_ hdue
        rw [hroute (by simp [State.slotClosed, hpow, DockState.delivers])]
        rfl
  case runTilt => 
    intro x y z h
    refine exec_runAnswer h hs hst rfl ?_
    rw [acceptTilt_dlc]
    exact notDue_of_slotTimer (by exact hst.ne) hd
  case runStat =>
    intro flags ma h hf ho
    refine ⟨fun hr => ?_, fun st hstep hr hreq hp hq => ?_⟩
    · exact exec_runAnswer h hs hst (runClose_waits (s := s.slotClosed) hf hr ho)
        (notDue_of_slotTimer (by exact hst.ne) hd)
    · obtain ⟨t, ht, h1, h2, h3, h4, h5, h6, h7, h8, h9, h10, h11, h12, h13, h14, h15, hrep⟩ :=
        exec_ready h hs hst hd hf ho hstep hr hreq hp hq
      refine ⟨t, ht, h1, h2, h3, h4, h5, h6, h7, h8, h9, h10, h11, h12, h13, h14, h15,
        fun a1 a2 a3 a4 a5 a6 a7 a8 a9 => (hrep ⟨a1, a2, a3, a4, a5, a6, a7, a8, a9⟩).trans ?_⟩
      simp only [dockFields, Dlc.readied, Dlc.moved, Dlc.origin]
      cases s.dlc.walk <;> cases s.dlc.base <;> rfl
  case faults =>
    intro hst hs hq flags ma h hf
    rcases or_assoc.mpr hst with hpoll | hrun
    · refine exec_answerFault (m := [.openDue]) (v := s.slotAnswered) hq ?_ (by simp) h rfl rfl hf
      exact ⟨quiet, by rw [h, closeSlot_poll hs hpoll]; rfl⟩
    · refine exec_answerFault (m := [.openDue]) (v := s.slotClosed) hq ?_ (by simp) h rfl rfl hf
      exact ⟨_, by rw [h, closeSlot_run hs hrun]; rfl⟩

end

end Sys2Proof.Machine
end

section
/-! PROOFS. Missed responses, the recovery, the answer to a QUIESCE frame. -/

namespace Sys2Proof.Machine

open Sys2Proof

section
variable {s t : State} {k : Nat} {l m : List Signal} {f : DockFrame} {c : Instr} {bytes : List Byte}
  {gate : Answer → State → Act} {ans : Option Answer} {o : Outcome}

/-! ### The three ways in which a slot closes without its answer -/

/-- The commands that close a slot. -/
abbrev closers (bytes : List Byte) : List Instr := [.answerWindowExpiry, .answerStoppedShort, .dockAnswer bytes]

/-- What a command that closes a slot closes it with. -/
theorem closer_cases (hc : c ∈ closers bytes) :
    ∃ ans o, (∀ s, exec c s = finish (closeSlot gateArrival ans o s)) ∧ (∀ s, c.core s = closeSlot gateArrival ans o s) ∧
      isPlainEvent c = true ∧ c.blocks.contains .sib = false ∧ c.blocks.contains .ms = false ∧
      (ans = none ∨ ans = parseAnswer bytes ∧ c = .dockAnswer bytes) ∧
      (c = .dockAnswer bytes → ans = parseAnswer bytes) ∧
      (ans = none → o = if c = .answerWindowExpiry then .missing else .garbled) ∧ (o = .valid → ans ≠ none) := by
  simp only [List.mem_cons, List.not_mem_nil, or_false] at hc
  rcases hc with rfl | rfl | rfl
  · exact ⟨none, .missing, fun _ => rfl, fun _ => rfl, rfl, rfl, rfl, .inl rfl, nofun, fun _ => rfl, nofun⟩
  · exact ⟨none, .garbled, fun _ => rfl, fun _ => rfl, rfl, rfl, rfl, .inl rfl, nofun, fun _ => rfl, nofun⟩
  · refine ⟨parseAnswer bytes, if (parseAnswer bytes).isSome then .valid else .garbled, fun _ => rfl, fun _ => rfl, rfl, rfl, rfl,
      .inr ⟨rfl, rfl⟩, fun _ => rfl, fun h => ?_, fun h => ?_⟩
    · rw [h]; rfl
    · intro h'
      rw [h'] at h
      exact nomatch h

/-- The slot is closed and its miss counted. -/
def State.slotMissed (s : State) : State := { s with dlc := { s.dlc with slot := none, missed := min (s.dlc.missed + 1) 3 } }

theorem pollClose_miss (h : s.dlc.missed < 2) : pollClose gate none s.slotClosed = (s.slotMissed, [.openDue]) :=
  if_pos (show min (s.dlc.missed + 1) 3 < 3 by omega)

theorem pollClose_third (h : s.dlc.missed = 2) :
    pollClose gate none s.slotClosed =
      if s.dlc.state = .active then (s.slotMissed, [.dlcRecover]) else dockFault .link false s.slotMissed :=
  if_neg (show ¬min (s.dlc.missed + 1) 3 < 3 by omega)

theorem slotMissed_eq (h : s.dlc.missed < 2) :
    s.slotMissed = { s with dlc := { s.dlc with slot := none, missed := s.dlc.missed + 1 } } := by
  unfold State.slotMissed
  rw [Nat.min_eq_left (by omega)]

/-! ### The recovery -/

/-- The record in which a recovery begins (04 R67). -/
def Dlc.recovers (d : Dlc) : Dlc :=
  ({ d.moved .identifying with
      recov := true, step := some .recover, quiesceSent := false, walk := none, attempts := 0, outcomes := [] } : Dlc).attempt

theorem beginRecovery_signals (hst : s.dlc.state = .active) (hm : 3 ≤ s.dlc.missed) :
    ∃ r : List Signal, (∀ g ∈ r, s.dlc.recovers.Quiets g) ∧
      beginRecovery s = ((dockMove s.dlc.recovers s).1, (dockMove s.dlc.recovers s).2 ++ r) := by
  refine ⟨(if s.dlc.step = some .quiesce then [dockReport s.dlc.recovers .stepFailed (some .quiesce) s.dlc.origin (some .noAck)]
    else []) ++ [dockReport s.dlc.recovers .recovery none none none], fun g hg => ?_, ?_⟩
  · rcases List.mem_append.mp hg with h | h
    · split at h
      · rw [List.mem_singleton.mp h]; exact quiets_dockReport
      · exact nomatch h
    · rw [List.mem_singleton.mp h]; exact quiets_dockReport
  · rw [beginRecovery, if_pos ⟨hst, hm⟩]
    simp only [Act.andThen, reportDock, emit, List.append_assoc]
    rfl

/-- What a recovery that begins leaves. -/
theorem Ends.recovers (hst : s.dlc.state = .active) (hmiss : 3 ≤ s.dlc.missed) (hm : ∀ g ∈ m, s.dlc.recovers.Quiets g)
    (hq : s.ulp.queue = []) (hp : s.psc.power = .run) :
    Ends (k + 2) (.dlcRecover :: m) s fun t => DockMoved s.dlc.recovers s t ∧ t.psc.power = .run := by
  obtain ⟨r, hr, he⟩ := beginRecovery_signals hst hmiss
  refine Ends.step (k := k + 1) he (by simp) ?_
  rw [List.append_assoc]
  exact Ends.dockMoved (fun g hg => (List.mem_append.mp hg).elim (hr g) (hm g)) hq hp

theorem Dlc.recovers_fixed (d : Dlc) : d.recovers.Fixed := ⟨rfl, nofun⟩

theorem Dlc.recovers_notDue (d : Dlc) : d.recovers.NotDue := .inl nofun

/-! ### The answer to a QUIESCE frame -/

/-- The QUIESCE step has failed and its miss counts. -/
def Dlc.unacked (d : Dlc) : Dlc := { d with step := none, quiesceSent := false, walk := none, missed := min (d.missed + 1) 3 }

/-- What a frame that is no acknowledgement still does. -/
def routed (ans : Option Answer) (s : State) : Act :=
  match ans with
  | some x => routeAnswer gateArrival x s
  | none => quiet s

theorem routed_only (ans : Option Answer) (s : State) : Only [.hau, .igt, .fbf] s (routed ans s).1 := by
  cases ans with
  | none => exact Only.refl _ _
  | some x => exact routeAnswer_only x s rfl

theorem hands_routed (ans : Option Answer) (s : State) : Act.Hands gateKinds (routed ans s) := by
  cases ans with
  | none => exact hands_quiet s
  | some x => exact hands_routeAnswer x s

theorem quiesceFailed_eq (ans : Option Answer) (s : State) :
    quiesceFailed gateArrival ans s =
      ((routed ans { s with dlc := s.dlc.unacked }).1,
        dockReport s.dlc.unacked .stepFailed (some .quiesce) s.dlc.origin (some .noAck) ::
          ((routed ans { s with dlc := s.dlc.unacked }).2 ++ ([.dlcRecover] ++ stepEnd ++ [.openDue]))) := by
  cases ans <;> rfl

theorem beginRecovery_of_few (h : s.dlc.missed < 3) : beginRecovery s = quiet s := if_neg fun hc => absurd hc.2 (by omega)

/-- The handovers that can follow a failed QUIESCE step. -/
abbrev stayKinds : List Signal := [.dlcRecover, .walkNext, .servePower, .openDue, .pscDeferred] ++ headKinds

/-- A record at which the handovers of a failed step do nothing. -/
structure Dlc.Idles (d : Dlc) : Prop where
  missed : d.missed < 3
  walk : d.walk = none
  request : d.powerReq = none
  due : d.NotDue

theorem servePower_of_none (h : s.dlc.powerReq = none) : servePower s = quiet s := by
  unfold servePower
  rw [h]

/-- Such a record stands in RUN, and the base vector with it. -/
theorem Ends.idles (hd : s.dlc.Idles) (hl : ∀ g ∈ l, g.kind ∈ stayKinds ∧ g.Wakes) (hq : s.ulp.queue = [])
    (hp : s.psc.power = .run) : Ends k l s fun t => t.dlc = s.dlc ∧ t.hau = s.hau := by
  have hquiet : ∀ (g : Signal) (t : State), g ∈ [Signal.dlcRecover, .walkNext, .servePower, .openDue] → t.dlc = s.dlc →
      handle g t = quiet t := by
    intro g t hg ht
    rw [← ht] at hd
    simp only [List.mem_cons, List.not_mem_nil, or_false] at hg
    rcases hg with rfl | rfl | rfl | rfl
    · exact beginRecovery_of_few hd.missed
    · exact walkNext_of_rests (.inl hd.walk)
    · exact servePower_of_none hd.request
    · exact openDue_of_notDue hd.due
  have hsplit : ∀ g : Signal, g.kind ∈ stayKinds →
      g ∈ [Signal.dlcRecover, .walkNext, .servePower, .openDue] ∨ g.kind ∈ .pscDeferred :: headKinds := by
    intro g hg
    rcases List.mem_append.mp hg with h | h
    · cases g
      case report r f => by_cases hr : r = .forceCut <;> simp [Signal.kind, hr] at h
      all_goals simp [Signal.kind] at h ⊢
    · exact .inr (List.mem_cons_of_mem _ h)
  refine Ends.mono (Ends.runKeeps stayKinds (fun t => t.dlc = s.dlc ∧ t.hau = s.hau) (by decide) ?_ ?_ hl hq hp ⟨rfl, rfl⟩)
    fun t ht => ht.1
  · rintro g t hg hw hqt hpt ⟨h1, h2⟩
    rcases hsplit g hg with h | h
    · rw [hquiet g t h h1]
      exact ⟨h1, h2⟩
    · have hb := (handle_run (calm := false) hqt hpt hw nofun).2.mono (U := [.igt, .fbf, .spu, .psc, .ulp]) (by
        rw [← runBlocks_kind]
        exact List.all_eq_true.mp (show ((.pscDeferred :: headKinds : List Signal).all fun k => (k.runBlocks false).all
          [Block.igt, .fbf, .spu, .psc, .ulp].contains) = true by decide) _ h)
      exact ⟨(hb.dlc rfl).trans h1, (hb.hau rfl).trans h2⟩
  · rintro g t hg - - ⟨h1, -⟩
    rcases hsplit g hg with h | h
    · exact .inr (hquiet g t h h1)
    · left
      rw [← runFollows_kind]
      exact List.all_eq_true.mp (show ((.pscDeferred :: headKinds : List Signal).all fun k => (k.runFollows false).all
        stayKinds.contains) = true by decide) _ h

/-- A failed QUIESCE step below the third miss. -/
theorem Ends.unacked (hm : s.dlc.missed < 2) (hr : s.dlc.powerReq = none) (hd : s.dlc.NotDue) (hq : s.ulp.queue = [])
    (hp : s.psc.power = .run) :
    Ends k (quiesceFailed gateArrival ans s).2 (quiesceFailed gateArrival ans s).1 fun t =>
      t.dlc = s.dlc.unacked ∧ t.hau = (routed ans { s with dlc := s.dlc.unacked }).1.hau := by
  have ho := routed_only ans { s with dlc := s.dlc.unacked }
  have hdlc : (routed ans { s with dlc := s.dlc.unacked }).1.dlc = s.dlc.unacked := ho.dlc rfl
  rw [quiesceFailed_eq]
  refine Ends.mono (Ends.idles ?_ ?_ ?_ ?_) fun t ht => ⟨ht.1.trans hdlc, ht.2⟩
  · rw [hdlc]
    exact ⟨show min (s.dlc.missed + 1) 3 < 3 by omega, rfl, hr, hd⟩
  · intro g hg
    rcases List.mem_cons.mp hg with rfl | hg
    · exact ⟨by simp [dockReport, Signal.kind], wakes_of_kind (by simp [dockReport, Signal.kind])⟩
    · rcases List.mem_append.mp hg with h | h
      · have hk := hands_routed ans _ g h
        exact ⟨(show ∀ k ∈ gateKinds, k ∈ stayKinds by decide) _ hk,
          wakes_of_kind ((show ∀ k ∈ gateKinds, k ≠ Kind.pscHost by decide) _ hk)⟩
      · exact plain_all rfl g h
  · exact (congrArg Ulp.queue (ho.ulp rfl)).trans hq
  · exact (congrArg Psc.power (ho.psc rfl)).trans hp

/-- A failed QUIESCE step at the third miss: the recovery begins. -/
theorem Ends.unackedThird (hst : s.dlc.state = .active) (hm : s.dlc.missed = 2) (hr : s.dlc.powerReq = none) (hs : s.Still)
    (hp : s.psc.power = .run) (hans : ∀ u, routed ans u = quiet u) :
    Ends (k + 13) (quiesceFailed gateArrival ans s).2 (quiesceFailed gateArrival ans s).1 fun t =>
      s.dlc.unacked.recovers.Stands t.dlc := by
  rw [quiesceFailed_eq, hans]
  refine Ends.upstream (k := k + 2) rfl hs fun u hu => ?_
  have hdlc : u.dlc = s.dlc.unacked := hu.dlc
  refine Ends.mono (Ends.recovers (s := u) (m := stepEnd ++ [.openDue]) ?_ ?_ ?_ (hu.still hs).1 ?_) fun t ht => ?_
  · rw [hdlc]; exact hst
  · rw [hdlc]; exact show 3 ≤ min (s.dlc.missed + 1) 3 by omega
  · rw [hdlc]
    intro g hg
    rcases List.mem_append.mp hg with h | h
    · exact quiets_stepEnd (new := s.dlc.unacked.recovers) rfl (.inl hr) g h
    · rw [List.mem_singleton.mp h]
      exact quiets_openDue (.inl ⟨Dlc.recovers_fixed _, Dlc.recovers_notDue _⟩)
  · exact (congrArg Psc.power hu.psc).trans hp
  · rw [← hdlc]; exact ht.1.dlc

/-- The record that an acknowledged QUIESCE step leaves. -/
def Dlc.quiets (left : Timer) (d : Dlc) : Dlc :=
  { d.moved .quiesced with step := none, quiesceSent := false, walk := none, missed := 0, slotTimer := left }

theorem quiesceClose_stat {flags : Byte} {ma : Nat} (hf : flags.getLsbD 2 = false)
    (ho : overdrawNext s.sbu.grant ma s.dlc.overdraw ≠ 3) :
    quiesceClose gate (some (.stat flags ma)) s =
      if flags.getLsbD 1 then quiesceDone (s.drawn ma) else quiesceFailed gate (some (.stat flags ma)) (s.drawn ma) := by
  rw [quiesceClose, statTests_passed hf ho]

/-- The acknowledgement of a QUIESCE frame. -/
theorem Ends.acked (hr : s.dlc.powerReq = none) (hq : s.ulp.queue = []) (hp : s.psc.power = .run) :
    Ends (k + 1) (quiesceDone s).2 (quiesceDone s).1 fun t =>
      DockMoved (s.dlc.quiets (slotLeft s.par.quiescedPeriod s)) s t ∧ t.psc.power = .run := by
  have he := stepDone_signals (new := s.dlc.quiets (slotLeft s.par.quiescedPeriod s)) (s := s) (st := .quiesce) (o := s.dlc.origin)
  have h1 : (quiesceDone s).1 = (dockMove (s.dlc.quiets (slotLeft s.par.quiescedPeriod s)) s).1 := he.1
  have h2 : (quiesceDone s).2 = (stepDone .quiesce (s.dlc.quiets (slotLeft s.par.quiescedPeriod s)) s.dlc.origin s).2 ++ [.openDue] :=
    rfl
  rw [h1, h2, he.2, List.append_assoc, List.cons_append]
  refine Ends.dockMoved (fun g hg => ?_) hq hp
  rcases List.mem_cons.mp hg with rfl | hg
  · exact quiets_dockReport
  · rcases List.mem_append.mp hg with hg | hg
    · exact quiets_stepEnd (new := s.dlc.quiets (slotLeft s.par.quiescedPeriod s)) rfl (.inl hr) g hg
    · rw [List.mem_singleton.mp hg]
      exact quiets_openDue (.inr rfl)

theorem andThen_emit_nil (a : Act) : a.andThen (emit []) = a := Prod.ext rfl (List.append_nil _)

/-- The base vector that a TILT sample loads does not depend on the step. -/
theorem acceptTilt_unacked (x y z : Int) (s : State) :
    (acceptTilt x y z { s.slotClosed with dlc := s.slotClosed.dlc.unacked }).hau = (acceptTilt x y z s).hau := by
  unfold acceptTilt
  rw [apply_ite State.hau, apply_ite State.hau]
  rfl

theorem quiesceClose_other (h : ans.any Answer.isStat = false) : quiesceClose gate ans s = quiesceFailed gate ans s := by
  match ans, h with
  | none, _ | some (.ident _), _ | some (.key _ _), _ | some (.point _), _ | some (.tilt _ _ _), _ | some .nil, _ => rfl

theorem level_quiesced {d : Dlc} {j : Ident} (hs : d.state = .quiesced) (hb : d.base = some (.keyboard j)) :
    d.level = j.quiesced := by
  rw [Dlc.level, hs]
  dsimp only
  rw [hb]

/-- Settles O33: the misses below the third are counted; the third begins a recovery, which is a change of the dock state,
or faults a QUIESCED base; the answer to a QUIESCE frame ends the step in QUIESCED or leaves the record in ACTIVE. -/
theorem missedResponsesCountToRecovery : Obligations.MissedResponsesCountToRecovery := by
  have hexact : ∀ {bytes f s c}, s.dlc.Polls f → s.dlc.slot = some f → s.dlc.slotTimer ≠ some 0 → parseAnswer bytes = none →
      s.dlc.missed < 2 → c ∈ closers bytes →
      exec c s = .next { s with dlc := { s.dlc with slot := none, missed := s.dlc.missed + 1 } } := by
    intro bytes f s c hst hs hd hb hm hc
    obtain ⟨ans, o, he, -, -, -, -, hans, -, -⟩ := closer_cases hc
    have hnone : ans = none := hans.elim id fun h => h.1.trans hb
    subst hnone
    rw [he, closeSlot_poll hs hst, pollClose_miss hm, ← slotMissed_eq hm]
    exact finish_openDue (notDue_of_slotTimer (by exact hst.ne) (by exact hd))
  refine ⟨fun bytes f s hst hs hf hd hb => ⟨fun hm => ?few, fun hm hp hq c hc => ?third⟩,
    fun bytes f s hst hs hf hr hp hq => ⟨fun flags ma ha => ⟨fun hfault => ?acFault, fun h2 ho => ⟨fun h1 => ?acked, fun h1 hm hd => ?nack⟩⟩,
      fun c hc hstat => ⟨fun hm hd => ?other, fun hm hh hans' => ?otherThird⟩⟩,
    fun bytes f s hst hs hb c hc => ⟨fun hm hd => ?quiesced, fun hm hq => ?link⟩⟩
  case few =>
    have h := fun c (hc : c ∈ closers bytes) => hexact (f := f) (.inl ⟨hst, hf⟩) hs hd hb hm hc
    exact ⟨h _ (by simp), h _ (by simp), h _ (by simp)⟩
  case third =>
    obtain ⟨ans, o, he, hcore, hplain, hsib, hms, hans, -, -⟩ := closer_cases hc
    have hnone : ans = none := hans.elim id fun h => h.1.trans hb
    subst hnone
    have hclose : closeSlot gateArrival none o s = (s.slotMissed, [.dlcRecover]) :=
      (closeSlot_poll hs (.inl ⟨hst, hf⟩)).trans ((pollClose_third hm).trans (if_pos hst))
    obtain ⟨t, ht, ⟨hQ, -⟩, hcf, hsb, -⟩ := exec_event hplain (State.SameConfig.refl s) hq ((he s).trans (congrArg finish hclose))
      ((hcore s).trans hclose) hsib hms
      (Ends.recovers (k := 998) (m := []) hst (show 3 ≤ min (s.dlc.missed + 1) 3 by omega) nofun hq hp)
    exact ⟨t, ht, hQ.dlc.state, hQ.dlc.recov, hQ.dlc.step, hQ.dlc.walk, hQ.dlc.slot (Dlc.recovers_fixed _), hQ.dlc.base,
      hQ.dlc.basePower, hcf, hsb⟩
  case acFault =>
    obtain ⟨t, ht, h1, h2, h3, h4, -, h6, -, -, h9, h10, h11, -⟩ := exec_answerFault (m := []) (v := s.slotClosed) hq
      ⟨fun s => if flags.getLsbD 1 then quiesceDone s else quiesceFailed gateArrival (some (.stat flags ma)) s,
        by rw [ha, closeSlot_quiesce hs hst hf, andThen_emit_nil]; rfl⟩ nofun ha rfl rfl hfault
    exact ⟨t, ht, h1, h2, h3, h4, h6, h9, h10, h11⟩
  case acked =>
    have hclose : closeSlot gateArrival (some (.stat flags ma)) .valid s = quiesceDone (s.slotClosed.drawn ma) := by
      rw [closeSlot_quiesce hs hst hf, quiesceClose_stat (s := s.slotClosed) h2 ho, if_pos h1]
    obtain ⟨t, ht, ⟨hQ, -⟩, hcf, hsb, -⟩ := exec_event (c := .dockAnswer bytes) rfl (State.SameConfig.refl s) hq
      ((exec_answer ha).trans (congrArg finish hclose)) ((dockAnswer_core ha).trans hclose) rfl rfl
      (Ends.acked (k := 999) hr hq hp)
    exact ⟨t, ht, hQ.dlc.state, hQ.dlc.step, hQ.dlc.walk, hQ.dlc.missed, hQ.dlc.base, hQ.passdown,
      fun j hj => hQ.requested.trans (level_quiesced rfl hj), hcf, hsb⟩
  case nack =>
    have hclose : closeSlot gateArrival (some (.stat flags ma)) .valid s =
        quiesceFailed gateArrival (some (.stat flags ma)) (s.slotClosed.drawn ma) := by
      rw [closeSlot_quiesce hs hst hf, quiesceClose_stat (s := s.slotClosed) h2 ho, if_neg (by rw [h1]; simp)]
    obtain ⟨t, ht, hQ, hcf, hsb, -⟩ := exec_event (c := .dockAnswer bytes) rfl (State.SameConfig.refl s) hq
      ((exec_answer ha).trans (congrArg finish hclose)) ((dockAnswer_core ha).trans hclose) rfl rfl
      (Ends.unacked (k := 1000) (s := s.slotClosed.drawn ma) hm hr (notDue_of_slotTimer (fun h => nomatch hst.symm.trans h) hd) hq hp)
    refine ⟨t, ht, hQ.1.trans ?_, hcf, hsb⟩
    rw [Dlc.unacked, show (s.slotClosed.drawn ma).dlc.missed = s.dlc.missed from rfl, Nat.min_eq_left (by omega)]
    rfl
  case other =>
    obtain ⟨ans, o, he, hcore, hplain, hsib, hms, hans, hdock, -⟩ := closer_cases hc
    have hclose : closeSlot gateArrival ans o s = quiesceFailed gateArrival ans s.slotClosed :=
      (closeSlot_quiesce hs hst hf).trans (quiesceClose_other (by rcases hans with rfl | ⟨rfl, -⟩ <;> first | rfl | exact hstat))
    obtain ⟨t, ht, hQ, hcf, hsb, -⟩ := exec_event hplain (State.SameConfig.refl s) hq ((he s).trans (congrArg finish hclose))
      ((hcore s).trans hclose) hsib hms
      (Ends.unacked (k := 1000) (s := s.slotClosed) hm hr (notDue_of_slotTimer (fun h => nomatch hst.symm.trans h) hd) hq hp)
    refine ⟨t, ht, hQ.1.trans ?_, fun x y z hx hcd => hQ.2.trans ?_, hcf, hsb⟩
    · rw [Dlc.unacked, show s.slotClosed.dlc.missed = s.dlc.missed from rfl, Nat.min_eq_left (by omega)]
      rfl
    · rw [(hdock hcd).trans hx]
      exact acceptTilt_unacked x y z s
  case otherThird =>
    obtain ⟨ans, o, he, hcore, hplain, hsib, hms, hans, -, -⟩ := closer_cases hc
    have hclose : closeSlot gateArrival ans o s = quiesceFailed gateArrival ans s.slotClosed :=
      (closeSlot_quiesce hs hst hf).trans (quiesceClose_other (by rcases hans with rfl | ⟨rfl, -⟩ <;> first | rfl | exact hstat))
    have hroute : ∀ u, routed ans u = quiet u := by
      rcases hans with rfl | ⟨rfl, rfl⟩
      · exact fun _ => rfl
      · rcases hans' with h | h | h
        · exact (h rfl).elim
        · rw [h]; exact fun _ => rfl
        · rw [h]; exact fun _ => rfl
    obtain ⟨t, ht, hQ, hcf, hsb, -⟩ := exec_event hplain (State.SameConfig.refl s) hq ((he s).trans (congrArg finish hclose))
      ((hcore s).trans hclose) hsib hms (Ends.unackedThird (k := 987) hst hm hr ⟨hq, .inl hh⟩ hp hroute)
    exact ⟨t, ht, hQ.state, hQ.recov, hQ.step, hQ.walk, hQ.slot (Dlc.recovers_fixed _), hQ.base, hQ.basePower, hcf, hsb⟩
  case quiesced => exact hexact (.inr hst) hs hd hb hm hc
  case link =>
    obtain ⟨ans, o, he, hcore, hplain, hsib, hms, hans, -, -⟩ := closer_cases hc
    have hnone : ans = none := hans.elim id fun h => h.1.trans hb
    subst hnone
    have hclose : closeSlot gateArrival none o s = dockFault .link false s.slotMissed :=
      (closeSlot_poll hs (.inr hst)).trans ((pollClose_third hm).trans (if_neg (by rw [hst]; simp)))
    have hfault := Ends.dockFaulted (k := 999) (s := s.slotMissed) (c := .link) (b := false) (m := []) nofun hq
    rw [List.append_nil] at hfault
    obtain ⟨t, ht, hQ, hcf, hsb, hmst⟩ := exec_event hplain (State.SameConfig.refl s) hq ((he s).trans (congrArg finish hclose))
      ((hcore s).trans hclose) hsib hms hfault
    have hfix := (s.slotMissed.dlc.faulted_rest .link).fixed
    exact ⟨t, ht, hQ.dlc.state, hQ.dlc.cause, hQ.dlc.step, hQ.dlc.walk, hQ.dlc.slot hfix, hQ.dlc.base, hQ.dlc.basePower,
      hQ.requested, hQ.grant, hQ.passdown, hcf, hsb, hmst⟩

end

end Sys2Proof.Machine
end

section
/-! PROOFS. The dock's commands: DOCK_STEP and DOCK_AUTO. -/

namespace Sys2Proof.Machine

open Sys2Proof

section
variable {new : Dlc} {s t u : State} {ct : Byte} {p : List Byte} {k n : Nat} {l m : List Signal} {Q : State → Prop}

/-! ### A command of the host with its configuration -/

/-- A command of the host ends where its handovers end, with the configuration that its own effect leaves. -/
theorem exec_host {c : Instr} {r : CmdResult} {need : Option (Group × Bool)} (hc : c.frame = some (ct, p)) (hp : s.Receptive)
    (hs : s.Allowed ct need) (hf : Spells p need) (h18 : commandCode p ≠ 18)
    (hr : runCommand (channelOf ct == 0) (s.spu.rxSeq + 1) s.ms p s.running = r) (hcfg : s.SameConfig r.act.1)
    (hq : r.act.1.ulp.queue = []) (hl : ∀ g ∈ r.handovers ct p, g.kind ∈ eventKinds)
    (h : Ends 990 (r.handovers ct p) r.act.1 Q) :
    ∃ t, exec c s = .next t ∧ Q t ∧ s.SameConfig t ∧ t.sib = r.act.1.sib ∧ t.ms = r.act.1.ms := by
  obtain ⟨t, ht, hQ, h1, h2, -, h4⟩ := exec_frame_ends hc (State.Receptive.prompt hp) hf.short
    ((commandResult_of_permitted hf h18 hs).trans hr) (Ends.and h (Ends.sameConfig hl hq hcfg))
  exact ⟨t, ht, hQ, h1, h2, h4⟩

/-- A command that is answered OK and hands one thing on. -/
theorem exec_dock {c : Instr} {g : Signal} {need : Option (Group × Bool)} (hc : c.frame = some (ct, p)) (hp : s.Receptive)
    (hs : s.Allowed ct need) (hf : Spells p need) (h18 : commandCode p ≠ 18)
    (hr : runCommand (channelOf ct == 0) (s.spu.rxSeq + 1) s.ms p s.running = ⟨.ok, [], (u, [g]), [], none⟩)
    (hcfg : s.SameConfig u) (hq : u.ulp.queue = []) (hg : g.kind ∈ eventKinds)
    (h : Ends 990 [g, .reply (replyTo ct (commandCode p) .ok []), .serve] u Q) :
    ∃ t, exec c s = .next t ∧ Q t ∧ s.SameConfig t ∧ t.sib = u.sib ∧ t.ms = u.ms := by
  refine exec_host hc hp hs hf h18 hr hcfg hq (fun x hx => ?_) h
  rcases List.mem_cons.mp hx with rfl | hx
  · exact hg
  · exact kinds_all (l := [.reply (replyTo ct (commandCode p) .ok []), .serve]) rfl x hx

/-- One that leaves nothing but a record behind the reply. -/
theorem exec_dock_exact {c : Instr} {g : Signal} {x : State} {need : Option (Group × Bool)} (hc : c.frame = some (ct, p))
    (hp : s.Receptive) (hs : s.Allowed ct need) (hf : Spells p need) (h18 : commandCode p ≠ 18)
    (hr : runCommand (channelOf ct == 0) (s.spu.rxSeq + 1) s.ms p s.running = ⟨.ok, [], (u, [g]), [], none⟩)
    (h : ∀ (l : List Signal) (Q : State → Prop), Ends 5 l t Q → Ends 10 (g :: l) u Q) (hv : t.Vacant) (hheld : t.held = false)
    (hx : t.ended = x) : exec c s = .next (x.answered (replyTo ct (commandCode p) .ok [])) := by
  obtain ⟨y, hy, rfl⟩ := exec_frame_ends (Q := (· = x.answered (replyTo ct (commandCode p) .ok []))) hc
    (State.Receptive.prompt hp) hf.short ((commandResult_of_permitted hf h18 hs).trans hr)
    (Ends.le (h _ _ (Ends.answers hv hheld (by rw [hx]; rfl))) (by omega))
  exact hy

theorem quiets_reply {r : Reply} : ∀ g ∈ [Signal.reply r, .serve], new.Quiets g := by
  intro g hg
  obtain ⟨hk, hw⟩ := plain_all (l := [.reply r, .serve]) (K := noticeKinds) rfl g hg
  exact ⟨List.mem_append_right _ hk, hw, rests_of_notice hk⟩

/-! ### Steps in their states -/

/-- A step that its state accepts is begun. -/
theorem runCommand_dockStep {v : Byte} {st : DockStep} {ds : DockState} (hv : dockStepOf v.toNat = some st) (hne : st ≠ .release)
    (hstep : s.dlc.step = none) (hwalk : s.dlc.walk = none) (hst : stepState st = some ds) (h : s.dlc.state = ds) {b : Bool} {q : Nat}
    {w : Stamp} : runCommand b q w [9, v] s.running = ⟨.ok, [], (s.running, [.dlcBegin st]), [], none⟩ := by
  change dockStepResult v.toNat s.running = _
  have hcmd : dockStepCommand st s.running = (.ok, (s.running, [.dlcBegin st])) := by
    rw [dockStepCommand, if_neg hne, if_neg (by exact Bool.eq_false_iff.mp (busy_eq_false hstep hwalk)),
      if_pos (show stepState st = some s.running.dlc.state from hst.trans (congrArg some h.symm))]
  rw [dockStepResult_of hv, hcmd]
  rfl

/-- A step that begins by DOCK_STEP. -/
theorem exec_dockStep {c : Instr} {v : Byte} {st : DockStep} {ds : DockState} (hc : c.frame = some (ct, [9, v]))
    (hr : s.Receptive) (hs : s.Permitted ct .dock true) (hv : dockStepOf v.toNat = some st) (hne : st ≠ .release)
    (hstep : s.dlc.step = none) (hwalk : s.dlc.walk = none) (hst : stepState st = some ds) (h : s.dlc.state = ds)
    (hQ : Ends 990 [.dlcBegin st, .reply (replyTo ct 9 .ok []), .serve] s.running Q) :
    ∃ t, exec c s = .next t ∧ Q t ∧ s.SameConfig t ∧ t.sib = s.sib ∧ t.ms = s.ms :=
  exec_dock (u := s.running) (g := .dlcBegin st) hc hr hs (spells_dockStep v) (by simp [commandCode]) (runCommand_dockStep hv hne hstep hwalk hst h) (State.SameConfig.refl s)
    hr.2.2.2.2.2.1 (show Kind.dlcBegin ∈ eventKinds by decide) hQ

theorem level_demand {d : Dlc} (h : d.state = .powering ∨ d.state = .waking) : d.level = d.activeDemand := by
  cases hb : d.base with
  | none => rcases h with h | h <;> simp [Dlc.level, Dlc.activeDemand, h, hb]
  | some b => cases b <;> rcases h with h | h <;> simp [Dlc.level, Dlc.activeDemand, h, hb]

/-- A step that fails for the budget, in RUN. -/
theorem Ends.faulted {st : DockStep} {c : DockCause} {b : Bool} (he : beginStep st s = dockFault c b (s.started st))
    (hm : ∀ g ∈ m, ((s.dlc.started st).faulted c).Quiets g) (hq : s.ulp.queue = []) (hp : s.psc.power = .run) :
    Ends (k + 2) (.dlcBegin st :: m) s fun t =>
      DockMoved ((s.dlc.started st).faulted c) (s.started st) t ∧ t.psc.power = .run := by
  obtain ⟨h1, r, hr, h2⟩ := dockFault_signals c b (s.started st)
  refine Ends.cons (k := k + 1) (by simp) ?_
  change Ends (k + 1) ((beginStep st s).2 ++ m) (beginStep st s).1 _
  rw [he, h1, h2, List.append_assoc]
  refine Ends.dockMoved (s := s.started st) (fun g hg => ?_) hq hp
  rcases List.mem_append.mp hg with hg | hg
  · rcases List.mem_cons.mp hg with rfl | hg
    · exact quiets_of_notice (by rw [hr]; decide) (by rw [hr]; decide)
    · exact quiets_stepEnd (new := (s.dlc.started st).faulted c) rfl (.inr (.inr ⟨nofun, nofun⟩)) g hg
  · exact hm g hg

/-! ### The release -/

/-- The record that a release leaves. -/
theorem Dlc.cleared_rest {d : Dlc} {st : DockState} (h : st = .absent ∨ st = .present) : (d.cleared st).AtRest :=
  ⟨h.imp id .inl, rfl, rfl, rfl, rfl⟩

/-- A change of the dock state over a state that holds the record already. -/
theorem dockMove_self (hd : s.dlc = new) (hp : new.state.empties = true → s.fbf.passdown = []) : (dockMove new s).1 = s := by
  subst hd
  unfold dockMove
  dsimp only
  split
  · rename_i h
    rw [← hp h]
  · rfl

/-- At rest, with the level's requests as well. -/
theorem Ends.atRestLevels (h : s.dlc.AtRest) (hl : ∀ g ∈ l, g.kind ∈ Kind.dockLevel :: ([.walkNext, .servePower, .openDue] ++ anyKinds))
    (hq : s.ulp.queue = []) : Ends k l s fun t => s.dlc.Stands t.dlc ∧ t.fbf.passdown = s.fbf.passdown := by
  refine Ends.of_keeps (fun g => g.kind ∈ Kind.dockLevel :: ([.walkNext, .servePower, .openDue] ++ anyKinds))
    (fun t => (s.dlc.Stands t.dlc ∧ t.fbf.passdown = s.fbf.passdown) ∧ t.ulp.queue = []) ?_ hl
    ⟨⟨.refl _, rfl⟩, hq⟩ fun _ h => h.1
  rintro g t hg ⟨⟨hd, hp⟩, hqt⟩
  have hqueue : (handle g t).1.ulp.queue = [] := handle_queue (fun e => by rw [e] at hg; simp at hg) hqt
  rcases List.mem_cons.mp hg with hk | hk
  · cases g
    case dockLevel n =>
      have ho : Only [.sbu, .pcc] t (handle (.dockLevel n) t).1 := dockRequest_only n t rfl
      refine ⟨⟨⟨by rw [ho.dlc rfl]; exact hd, by rw [ho.fbf rfl]; exact hp⟩, hqueue⟩, fun x hx => List.mem_cons_of_mem _ ?_⟩
      exact (show ∀ k ∈ [Kind.report, Kind.grantApplied], k ∈ [.walkNext, .servePower, .openDue] ++ anyKinds by decide) _
        (dockRequest_kinds n t x hx)
    case report r f => by_cases hr : r = .forceCut <;> simp [Signal.kind, hr] at hk
    all_goals simp [Signal.kind] at hk
  · obtain ⟨hsame, hfol⟩ := dockSame_handle hk hqt (h.of_stands hd)
    exact ⟨⟨⟨hd.trans hsame.dlc, hsame.passdown.trans hp⟩, hqueue⟩,
      fun x hx => List.mem_cons_of_mem _ (List.mem_append_right _ (hfol x hx))⟩

/-- What the reports of an abandoned step are. -/
theorem abandonReport_kinds (c : DockCause) (after d : Dlc) : ∀ g ∈ abandonReport c after d, g.kind = Kind.report := by
  unfold abandonReport
  split
  · intro g hg
    rw [List.mem_singleton.mp hg]
    simp [dockReport, Signal.kind]
  · nofun

theorem dockRelease_signals (o : Option Origin) (h : s.dlc.state.releasable = true) :
    dockRelease o s = ((dockMove (s.dlc.cleared .present) s).1,
      abandonReport .released (s.dlc.cleared .present) s.dlc ++ ((dockMove (s.dlc.cleared .present) s).2 ++
        (dockReport (s.dlc.cleared .present) .stepDone (some .release) o none :: stepEnd))) := by
  rw [dockRelease, if_pos h]
  simp only [Act.andThen, reportDock, emit, List.append_assoc]
  rfl

/-- A change of the dock state to one at rest behind the report of an abandoned step: the record and the Passdown area
always, the grant too where the report moves nothing else. -/
theorem Ends.abandoned {c : DockCause} {d : Dlc} (h : new.AtRest)
    (hm : ∀ g ∈ m, g.kind ∈ [.walkNext, .servePower, .openDue] ++ anyKinds) (hq : s.ulp.queue = []) :
    Ends (k + 12) (abandonReport c new d ++ ((dockMove new s).2 ++ m)) (dockMove new s).1 fun t =>
      new.Stands t.dlc ∧ t.fbf.passdown = [] ∧ (d.step = none ∨ s.igt.head = .idle → t.sbu.requested = 0 ∧ t.sbu.grant = 0) := by
  have hpass : (dockMove new s).1.fbf.passdown = [] := (dockMove_passdown new s).trans (if_pos h.empties)
  have hall : Ends (k + 12) (abandonReport c new d ++ ((dockMove new s).2 ++ m)) (dockMove new s).1 fun t =>
      new.Stands t.dlc ∧ t.fbf.passdown = (dockMove new s).1.fbf.passdown := by
    refine Ends.atRestLevels (s := (dockMove new s).1) h (fun g hg => ?_) hq
    rcases List.mem_append.mp hg with hg | hg
    · rw [abandonReport_kinds c new d g hg]; decide
    · rcases List.mem_append.mp hg with hg | hg
      · rw [dockMove_signals] at hg
        rcases List.mem_cons.mp hg with rfl | hg
        · exact List.mem_cons_self
        · exact List.mem_cons_of_mem _ ((show ∀ k ∈ [Kind.hauDock, .pclDock, .igtDeparture, .pscRecheck],
            k ∈ [.walkNext, .servePower, .openDue] ++ anyKinds by decide) _ (moveNotices_kinds _ g hg))
      · exact List.mem_cons_of_mem _ (hm g hg)
  have hgrant : d.step = none ∨ s.igt.head = .idle →
      Ends (k + 12) (abandonReport c new d ++ ((dockMove new s).2 ++ m)) (dockMove new s).1 fun t =>
        t.sbu.requested = 0 ∧ t.sbu.grant = 0 := by
    intro hcase
    cases hstep : d.step with
    | none =>
      rw [abandonReport, hstep]
      exact Ends.mono (Ends.le (Ends.dockMovedRest (k := 0) h hm hq) (by omega)) fun t ht => ⟨ht.requested, ht.grant⟩
    | some st =>
      have hidle := hcase.resolve_left (by rw [hstep]; simp)
      rw [abandonReport, hstep]
      refine Ends.upstream (k := k + 1) rfl ⟨hq, .inl ?_⟩ fun v hv => ?_
      · exact (congrArg Igt.head (show (dockMove new s).1.igt = s.igt from rfl)).trans hidle
      · have hself : (dockMove new v).1 = v := dockMove_self hv.dlc fun _ => hv.passdown.trans hpass
        rw [dockMove_signals, h.level]
        have := Ends.movedToRest (k := k) (s := v) (l := moveNotices (s.dlc.state.delivers && !new.state.delivers) ++ m)
          (by rw [hv.dlc]; exact h) (fun g hg => ?_) (hv.queue.trans hq)
        · exact Ends.mono this fun t ht => ⟨ht.2.2.1, ht.2.2.2⟩
        · rcases List.mem_append.mp hg with hg | hg
          · exact (show ∀ k ∈ [Kind.hauDock, .pclDock, .igtDeparture, .pscRecheck],
              k ∈ [.walkNext, .servePower, .openDue] ++ anyKinds by decide) _ (moveNotices_kinds _ g hg)
          · exact hm g hg
  intro n hn
  obtain ⟨h1, h2⟩ := hall n hn
  exact ⟨h1, h2.trans hpass, fun hc => hgrant hc n hn⟩

/-- Settles O51: a step's beginning and a release are changes of the dock state; the reply follows them. -/
theorem dockStepsBeginInTheirStates : Obligations.DockStepsBeginInTheirStates := by
  intro ct s hr hs hp
  have hq : s.running.ulp.queue = [] := hr.2.2.2.2.2.1
  have hbegun : ∀ {st : DockStep} {d : Dlc}, beginStep st s.running = dockMove d (s.running.started st) →
      Ends 990 [.dlcBegin st, .reply (replyTo ct 9 .ok []), .serve] s.running fun t =>
        DockMoved d (s.running.started st) t ∧ t.psc.power = .run := fun he =>
    Ends.begun (k := 988) he quiets_reply hq hp
  refine ⟨fun hstep hwalk => ⟨fun h hb => ?_, fun h hb => ?_, fun h hb => ?_, fun h => ?_, fun h hb => ?_⟩, fun hrel => ?_⟩
  · obtain ⟨t, ht, ⟨hQ, -⟩, h1, h2, h3⟩ := exec_dockStep (c := .dockStepIdentify ct) (v := 0) rfl hr hs rfl (by simp) hstep hwalk rfl h
      (hbegun (beginStep_identify (s := s.running) h hb))
    exact ⟨t, ht, hQ.dlc.state, hQ.dlc.step, hQ.dlc.basePower, hQ.dlc.walk.trans hwalk, hQ.requested, h1, h2, h3⟩
  · obtain ⟨t, ht, ⟨hQ, -⟩, h1, h2, h3⟩ := exec_dockStep (c := .dockStepPower ct) (v := 1) rfl hr hs rfl (by simp) hstep hwalk rfl h
      (hbegun (beginStep_power (s := s.running) (.inl h) hb))
    exact ⟨t, ht, hQ.dlc.state, hQ.dlc.step, hQ.dlc.base, hQ.requested.trans (level_demand (.inl rfl)), h1, h2, h3⟩
  · obtain ⟨t, ht, ⟨hQ, -⟩, h1, h2, -⟩ := exec_dockStep (c := .dockStepPower ct) (v := 1) rfl hr hs rfl (by simp) hstep hwalk rfl h
      (Ends.faulted (beginStep_power_fault (s := s.running) (.inl h) hb) quiets_reply hq hp)
    exact ⟨t, ht, hQ.dlc.state, hQ.dlc.cause, hQ.dlc.step, hQ.dlc.basePower, hQ.grant rfl, h1, h2⟩
  · refine exec_dock_exact (c := .dockStepQuiesce ct) (p := [9, 2]) rfl hr hs (spells_dockStep 2) (by simp [commandCode])
      (runCommand_dockStep (v := 2) rfl (by simp) hstep hwalk rfl h)
      (fun l Q hl => Ends.le (Ends.step (k := 5) (beginStep_quiesce (s := s.running) h) (by simp) hl) (by omega))
      (State.Prompt.vacant (State.Receptive.prompt hr)) hr.2.1 ?_
    exact congrArg (fun x : State => { x with dlc := { s.dlc with step := some .quiesce, quiesceSent := false } })
      (running_ended hr.2.2.1)
  · obtain ⟨t, ht, ⟨hQ, -⟩, h1, h2, h3⟩ := exec_dockStep (c := .dockStepWake ct) (v := 3) rfl hr hs rfl (by simp) hstep hwalk rfl h
      (hbegun (beginStep_wake (s := s.running) h hb))
    exact ⟨t, ht, hQ.dlc.state, hQ.dlc.step, hQ.dlc.base, hQ.requested.trans (level_demand (.inr rfl)), h1, h2, h3⟩
  · have hrun : runCommand (channelOf ct == 0) (s.spu.rxSeq + 1) s.ms [9, 4] s.running =
        ⟨.ok, [], (s.running, [.dlcRelease none]), [], none⟩ := by
      change plainResult (dockStepCommand .release s.running) = _
      rw [dockStepCommand, if_pos rfl, if_pos (by exact hrel)]
      rfl
    obtain ⟨t, ht, hQ, h1, h2, h3⟩ := exec_dock (c := .dockStepRelease ct) (g := .dlcRelease none) rfl hr hs (spells_dockStep 4)
      (by simp [commandCode]) hrun (State.SameConfig.refl s) hq (show Kind.dlcRelease ∈ eventKinds by decide)
      (Q := fun t => (s.dlc.cleared .present).Stands t.dlc ∧ t.fbf.passdown = [] ∧
        (s.dlc.step = none ∨ s.igt.head = .idle → t.sbu.requested = 0 ∧ t.sbu.grant = 0)) (by
        refine Ends.step (k := 989) (dockRelease_signals (s := s.running) none hrel) (by simp) ?_
        rw [List.append_assoc, List.append_assoc]
        exact Ends.abandoned (k := 977) (s := s.running) (d := s.dlc) (Dlc.cleared_rest (.inr rfl)) (kinds_all rfl) hq)
    exact ⟨t, ht, hQ.1.state, hQ.1.base, hQ.1.step, hQ.1.walk, hQ.1.basePower, hQ.1.cause, hQ.2.1, hQ.2.2, h1, h2, h3⟩

/-! ### Refusals and walks -/

theorem dockStepCommand_busy {st : DockStep} (hne : st ≠ .release) (h : s.dlc.step ≠ none ∨ s.dlc.walk ≠ none) :
    dockStepCommand st s.running = (.busy, quiet s.running) := by
  rw [dockStepCommand, if_neg hne]
  exact if_pos (busy_iff.mpr h)

theorem dockStepCommand_state {st : DockStep} {ds : DockState} (hne : st ≠ .release) (hstep : s.dlc.step = none)
    (hwalk : s.dlc.walk = none) (hst : stepState st = some ds) (h : s.dlc.state ≠ ds) :
    dockStepCommand st s.running = (.state, quiet s.running) := by
  rw [dockStepCommand, if_neg hne]
  refine (if_neg (by exact Bool.eq_false_iff.mp (busy_eq_false hstep hwalk))).trans (if_neg ?_)
  rw [hst]
  exact fun e => h (Option.some.inj e).symm

theorem dockAuto_busy {w : WalkTarget} {o : Origin} (h : s.dlc.step ≠ none ∨ s.dlc.walk ≠ none) :
    dockAuto w o s = (.busy, quiet s) := if_pos (busy_iff.mpr h)

theorem dockAuto_reached {w : WalkTarget} {o : Origin} (hstep : s.dlc.step = none) (hwalk : s.dlc.walk = none)
    (h : walkStep w s.dlc.state = none) (hr : walkReached w s.dlc.state = true) : dockAuto w o s = (.ok, quiet s) := by
  rw [dockAuto, if_neg (Bool.eq_false_iff.mp (busy_eq_false hstep hwalk)), h, hr]
  rfl

theorem dockAuto_state {w : WalkTarget} {o : Origin} (hstep : s.dlc.step = none) (hwalk : s.dlc.walk = none)
    (h : walkStep w s.dlc.state = none) (hr : walkReached w s.dlc.state = false) : dockAuto w o s = (.state, quiet s) := by
  rw [dockAuto, if_neg (Bool.eq_false_iff.mp (busy_eq_false hstep hwalk)), h, hr]
  rfl

theorem dockAuto_starts {w : WalkTarget} {o : Origin} {st : DockStep} (hstep : s.dlc.step = none) (hwalk : s.dlc.walk = none)
    (h : walkStep w s.dlc.state = some st) : dockAuto w o s = (.ok, startWalk w o s) := by
  rw [dockAuto, if_neg (Bool.eq_false_iff.mp (busy_eq_false hstep hwalk)), h]
  rfl

/-- A walk of the host has been accepted. -/
def State.walking (w : WalkTarget) (s : State) : State := { s with dlc := { s.dlc with walk := some ⟨w, .host⟩ } }

theorem runCommand_dockAuto {v : Byte} {w : WalkTarget} {st : DockStep} {b : Bool} {q : Nat} {x : Stamp}
    (hv : walkTargetOf v.toNat = some w) (hstep : s.dlc.step = none) (hwalk : s.dlc.walk = none)
    (h : walkStep w s.dlc.state = some st) :
    runCommand b q x [10, v] s.running = ⟨.ok, [], (s.running.walking w, [.walkNext]), [], none⟩ := by
  change dockAutoResult v.toNat s.running = _
  rw [dockAutoResult, hv]
  exact congrArg plainResult (dockAuto_starts (s := s.running) hstep hwalk h)

/-- A walk that begins its first step. -/
theorem exec_dockAuto {v : Byte} {w : WalkTarget} {st : DockStep} {d : Dlc} (hr : s.Receptive)
    (hs : s.Permitted ct .dock true) (hp : s.psc.power = .run) (hv : walkTargetOf v.toNat = some w) (hstep : s.dlc.step = none)
    (hwalk : s.dlc.walk = none) (h : walkStep w s.dlc.state = some st)
    (he : beginStep st (s.running.walking w) = dockMove d ((s.running.walking w).started st)) :
    ∃ t, exec (.dockAuto ct v) s = .next t ∧ DockMoved d ((s.running.walking w).started st) t ∧ s.SameConfig t ∧
      t.sib = s.sib ∧ t.ms = s.ms := by
  obtain ⟨t, ht, ⟨hQ, -⟩, hrest⟩ := exec_dock (c := .dockAuto ct v) (g := .walkNext) rfl hr hs (spells_dockAuto v)
    (by simp [commandCode]) (runCommand_dockAuto hv hstep hwalk h) (State.SameConfig.refl s) (by exact hr.2.2.2.2.2.1)
    (by decide)
    (Ends.step (k := 989) (walkNext_begins (s := s.running.walking w) (w := ⟨w, .host⟩) (st := st) rfl (awake_of_run hp) hstep h) (by simp)
      (Ends.begun (k := 987) he quiets_reply (by exact hr.2.2.2.2.2.1) (by exact hp)))
  exact ⟨t, ht, hQ, hrest⟩

theorem walkStep_attach {d : DockState} (h : d ∉ [DockState.present, .identified, .active, .covered]) :
    walkStep .attach d = none ∧ walkReached .attach d = false := by
  cases d <;> first | exact ⟨rfl, rfl⟩ | simp at h

theorem walkStep_wake {d : DockState} (h : d ∉ [DockState.quiesced, .active]) :
    walkStep .wake d = none ∧ walkReached .wake d = false := by
  cases d <;> first | exact ⟨rfl, rfl⟩ | simp at h

theorem walkStep_quiesce {d : DockState} (h : d ∉ [DockState.active, .quiesced]) :
    walkStep .quiesce d = none ∧ walkReached .quiesce d = false := by
  cases d <;> first | exact ⟨rfl, rfl⟩ | simp at h

/-- Settles O52. -/
theorem dockAutoWalksAndRefusals : Obligations.DockAutoWalksAndRefusals := by
  refine ⟨fun ct v s hr hs => ⟨fun h => ?busy, fun hstep hwalk => ?state, fun h => ?release, fun h => ?range⟩,
    fun ct s hr hs hstep hwalk => ?walks⟩
  case busy =>
    refine ⟨?_, ?_, ?_, ?_, fun hv => ?_⟩
    · exact exec_dockStep_refused (c := .dockStepIdentify ct) (v := 0) rfl rfl hr hs (dockStepCommand_busy (by simp) h)
    · exact exec_dockStep_refused (c := .dockStepPower ct) (v := 1) rfl rfl hr hs (dockStepCommand_busy (by simp) h)
    · exact exec_dockStep_refused (c := .dockStepQuiesce ct) (v := 2) rfl rfl hr hs (dockStepCommand_busy (by simp) h)
    · exact exec_dockStep_refused (c := .dockStepWake ct) (v := 3) rfl rfl hr hs (dockStepCommand_busy (by simp) h)
    · obtain ⟨w, hw⟩ := walkTargetOf_isSome hv
      exact exec_dockAuto_unmoved hw hr hs (dockAuto_busy (by exact h))
  case state =>
    refine ⟨fun h => ?_, fun h => ?_, fun h => ?_, fun h => ?_⟩
    · exact exec_dockStep_refused (c := .dockStepIdentify ct) (v := 0) rfl rfl hr hs
        (dockStepCommand_state (by simp) hstep hwalk rfl h)
    · exact exec_dockStep_refused (c := .dockStepPower ct) (v := 1) rfl rfl hr hs
        (dockStepCommand_state (by simp) hstep hwalk rfl h)
    · exact exec_dockStep_refused (c := .dockStepQuiesce ct) (v := 2) rfl rfl hr hs
        (dockStepCommand_state (by simp) hstep hwalk rfl h)
    · exact exec_dockStep_refused (c := .dockStepWake ct) (v := 3) rfl rfl hr hs
        (dockStepCommand_state (by simp) hstep hwalk rfl h)
  case release =>
    refine exec_dockStep_refused (c := .dockStepRelease ct) (v := 4) rfl rfl hr hs ?_
    rw [dockStepCommand, if_pos rfl]
    exact if_neg (Bool.eq_false_iff.mp h)
  case range =>
    refine exec_unmoved (c := .dockAuto ct v) (st := .range) (fs := []) rfl hr hs (spells_dockAuto v) (by simp [commandCode]) ?_
    change dockAutoResult v.toNat s.running = _
    have hnone : walkTargetOf v.toNat = none := by
      obtain ⟨n, hn⟩ : ∃ n, v.toNat = n + 3 := ⟨v.toNat - 3, by omega⟩
      rw [hn]
      rfl
    rw [dockAutoResult, hnone]
    rfl
  case walks =>
    have hreached : ∀ {v : Byte} {w : WalkTarget}, walkTargetOf v.toNat = some w → walkStep w s.dlc.state = none →
        walkReached w s.dlc.state = true → exec (.dockAuto ct v) s = .next (s.afterFrame.answered (replyTo ct 10 .ok [])) :=
      fun hv h1 h2 => exec_dockAuto_unmoved hv hr hs (dockAuto_reached (s := s.running) hstep hwalk h1 h2)
    have hrefused : ∀ {v : Byte} {w : WalkTarget}, walkTargetOf v.toNat = some w →
        walkStep w s.dlc.state = none ∧ walkReached w s.dlc.state = false →
        exec (.dockAuto ct v) s = .next (s.afterFrame.answered (replyTo ct 10 .state [])) :=
      fun hv h => exec_dockAuto_unmoved hv hr hs (dockAuto_state (s := s.running) hstep hwalk h.1 h.2)
    refine ⟨fun h => ?_, fun h => ?_, fun h => ?_, fun h => ?_, fun h hp hb => ?_, fun h hp hb => ?_, fun h hp hb => ?_,
      fun h => hrefused rfl (walkStep_attach h), fun h => hrefused rfl (walkStep_wake h), fun h => hrefused rfl (walkStep_quiesce h)⟩
    · exact exec_dock_exact (c := .dockAuto ct 2) rfl hr hs (spells_dockAuto 2) (by simp [commandCode])
        (runCommand_dockAuto (v := 2) rfl hstep hwalk (by rw [h]; rfl))
        (fun l Q hl => Ends.le (Ends.walkQuiesce (k := 5) (s := s.running.walking .quiesce) (o := .host) h hr.1 hstep rfl hl)
          (by omega))
        (State.Prompt.vacant (State.Receptive.prompt hr)) hr.2.1
        (congrArg (fun x : State => { x with
          dlc := { s.dlc with step := some .quiesce, quiesceSent := false, walk := some ⟨.quiesce, .host⟩ } })
          (running_ended hr.2.2.1))
    · rcases h with h | h <;> exact hreached (v := 0) rfl (by rw [h]; rfl) (by rw [h]; rfl)
    · exact hreached (v := 1) rfl (by rw [h]; rfl) (by rw [h]; rfl)
    · exact hreached (v := 2) rfl (by rw [h]; rfl) (by rw [h]; rfl)
    · obtain ⟨t, ht, hQ, hrest⟩ := exec_dockAuto (v := 0) hr hs hp rfl hstep hwalk (by rw [h]; rfl)
        (beginStep_identify (s := s.running.walking .attach) h hb)
      exact ⟨t, ht, hQ.dlc.state, hQ.dlc.step, hQ.dlc.walk, hQ.dlc.basePower, hrest⟩
    · obtain ⟨t, ht, hQ, hrest⟩ := exec_dockAuto (v := 0) hr hs hp rfl hstep hwalk (by rw [h]; rfl)
        (beginStep_power (s := s.running.walking .attach) (.inl h) hb)
      exact ⟨t, ht, hQ.dlc.state, hQ.dlc.step, hQ.dlc.walk, hQ.dlc.base, hQ.requested.trans (level_demand (.inl rfl)), hrest⟩
    · obtain ⟨t, ht, hQ, hrest⟩ := exec_dockAuto (v := 1) hr hs hp rfl hstep hwalk (by rw [h]; rfl)
        (beginStep_wake (s := s.running.walking .wake) h hb)
      exact ⟨t, ht, hQ.dlc.state, hQ.dlc.step, hQ.dlc.walk, hQ.dlc.base, hQ.requested.trans (level_demand (.inr rfl)), hrest⟩

end

end Sys2Proof.Machine
end

section
/-! PROOFS. The revocation of the dock grant. -/

namespace Sys2Proof.Machine

open Sys2Proof

section
variable {s t u : State} {k : Nat} {l m : List Signal} {Q : State → Prop}

/-- The state in which the SBU has revoked the grant, before the pen takes the room. -/
def State.unsupplied (s : State) : State :=
  { s with
    sbu := { s.sbu with requested := 0, grant := 0, pending := false, capped := false, shed := none }
    dlc := { s.dlc with basePower := false, overdraw := if s.sbu.grant = 0 then s.dlc.overdraw else 0 } }

theorem revokeGrant_eq (s : State) :
    revokeGrant s = ((recompute true s.unsupplied).1, (recompute true s.unsupplied).2 ++ [.dlcRevoked]) := rfl

/-- A fault in RUN, with the handovers behind it. -/
theorem Ends.dockFaultMoved {c : DockCause} {b : Bool} (hm : ∀ g ∈ m, (s.dlc.faulted c).Quiets g) (hq : s.ulp.queue = [])
    (hp : s.psc.power = .run) :
    Ends (k + 1) ((dockFault c b s).2 ++ m) (dockFault c b s).1 fun t => DockMoved (s.dlc.faulted c) s t ∧ t.psc.power = .run := by
  obtain ⟨h1, r, hr, h2⟩ := dockFault_signals c b s
  rw [h1, h2, List.append_assoc]
  refine Ends.dockMoved (fun g hg => ?_) hq hp
  rcases List.mem_append.mp hg with hg | hg
  · rcases List.mem_cons.mp hg with rfl | hg
    · exact quiets_of_notice (by rw [hr]; decide) (by rw [hr]; decide)
    · exact quiets_stepEnd (new := s.dlc.faulted c) rfl (.inr (.inr ⟨nofun, nofun⟩)) g hg
  · exact hm g hg

/-- A request of 0 with no grant clears the pending mark only. -/
theorem dockRequest_zero (h : s.sbu.grant = 0) :
    (dockRequest 0 s).1.sbu = { s.sbu with requested := 0, pending := false } := by
  have happ : applyRequest { s with sbu := { s.sbu with requested := 0 } } =
      ({ s with sbu := { s.sbu with requested := 0, pending := false } }, [.grantApplied false]) := if_pos h.symm
  rw [dockRequest, budgetEvent_eq, happ]

/-- What the DLC makes of a revocation. -/
structure Revoked (s t : State) : Prop where
  sbu : t.sbu = { s.sbu with requested := 0, pending := false }
  basePower : t.dlc.basePower = false
  supplied : s.dlc.state.supplied = true →
    t.dlc.state = .faulted ∧ t.dlc.cause = some .supply ∧ t.dlc.step = none ∧ t.dlc.walk = none
  other : s.dlc.state.supplied = false → t.dlc.state = s.dlc.state
  oru : t.oru = s.oru

theorem Ends.revoked (hm : ∀ g ∈ m, g.isUpstream = true) (hlen : m.length ≤ 4) (hreq : s.sbu.requested = 0)
    (hg : s.sbu.grant = 0) (hpend : s.sbu.pending = false) (hpow : s.dlc.basePower = false) (hc : s.Calm)
    (hp : s.psc.power = .run) (hrep : ∀ g ∈ m, g.kind = Kind.report) : Ends (k + 45) (.dlcRevoked :: m) s (Revoked s) := by
  cases hs : s.dlc.state.supplied
  · refine Ends.skip (k := k + 44) (if_neg (by rw [hs]; simp)) (by simp) ?_
    rw [← List.append_nil m]
    refine Ends.noises hm hlen hc fun t ht _ => Ends.nil ?_
    have ho := only_of_offLine ht
    refine ⟨?_, ?_, fun h => ?_, fun _ => congrArg Dlc.state (ho.dlc rfl), ho.oru rfl⟩
    · rw [ho.sbu rfl, ← hreq, ← hpend]
    · rw [ho.dlc rfl, hpow]
    · rw [hs] at h; exact nomatch h
  · refine Ends.cons (k := k + 44) (by simp) ?_
    change Ends (k + 44) ((dockRevoked s).2 ++ m) (dockRevoked s).1 _
    rw [dockRevoked, if_pos hs]
    refine Ends.mono (Ends.dockFaultMoved (fun g h => ?_) hc.1 hp) ?_
    · exact quiets_of_notice (by rw [hrep g h]; decide) (by rw [hrep g h]; decide)
    · rintro t ⟨ht, -⟩
      refine ⟨ht.sbu.trans ?_, ht.dlc.basePower, fun _ => ⟨ht.dlc.state, ht.dlc.cause, ht.dlc.step, ht.dlc.walk⟩, fun h => ?_,
        ht.only.oru rfl⟩
      · exact dockRequest_zero (s := (dockMove (s.dlc.faulted .supply) s).1) hg
      · rw [hs] at h; exact nomatch h

theorem budgetTail_reports (s t : State) : ∀ g ∈ budgetTail s t, g.kind = Kind.report := by
  unfold budgetTail
  split_ifs <;> simp [budgetReport, Signal.kind]

theorem Revoked.of_offLine (h : u.offLine = s.offLine) (ht : Revoked u t) : Revoked s t := by
  have ho := only_of_offLine h
  obtain ⟨h1, h2, h3, h4, h5⟩ := ht
  have hd := ho.dlc rfl
  exact ⟨by rw [h1, ho.sbu rfl], h2, hd ▸ h3, hd ▸ h4, h5.trans (ho.oru rfl)⟩

/-- The revocation of the grant, with all it hands on. -/
theorem Ends.revokedGrant (hc : s.Calm) (hp : s.psc.power = .run) :
    Ends (k + 89) (budgetEvent revokeGrant s).2 (budgetEvent revokeGrant s).1 (Revoked (recompute true s.unsupplied).1) := by
  have hone : Only [.sbu, .pcc] s.unsupplied (recompute true s.unsupplied).1 := recompute_only _ _ rfl
  obtain ⟨hpens, hpl⟩ := applyPen_upstream true (penSetpoint (s.unsupplied.par.bTotal - s.unsupplied.sbu.grant) s.unsupplied)
    s.unsupplied
  obtain ⟨htail, htl⟩ := budgetTail_upstream s (revokeGrant s).1
  have hcalm : (recompute true s.unsupplied).1.Calm := hc
  rw [budgetEvent_eq, revokeGrant_eq, List.append_assoc]
  refine Ends.noises (k := k + 45) hpens (hpl.trans (by omega)) hcalm fun v hv hcv => ?_
  have ho := only_of_offLine hv
  refine Ends.mono (Ends.revoked (m := budgetTail s (revokeGrant s).1) htail (by omega) ?_ ?_ ?_ ?_ hcv ?_ (budgetTail_reports _ _))
    fun t ht => ht.of_offLine hv
  · rw [ho.sbu rfl]; rfl
  · rw [ho.sbu rfl]; rfl
  · rw [ho.sbu rfl]; rfl
  · rw [ho.dlc rfl]; rfl
  · rw [ho.psc rfl]; exact hp

/-- Settles O39: the SBU's record is the revocation's, the DLC faults a supplied dock, the reports move nothing else. -/
theorem shedTimerRevokesGrant : Obligations.ShedTimerRevokesGrant := by
  intro r s hs hc hp
  obtain ⟨t, ht, hQ, hcfg, hsib, -⟩ := exec_event (c := .shedTimerExpiry) (s := s) (u := elapse r s)
    (a := budgetEvent revokeGrant (elapse r s)) rfl (State.SameConfig.refl s) hc.1 (finish_expiry hs) rfl rfl rfl
    (Ends.revokedGrant (k := 911) (s := elapse r s) hc hp)
  refine ⟨t, ht, ?_, ?_, ?_, ?_, hQ.basePower, hQ.supplied, hQ.other, hcfg, hsib, hQ.oru⟩
  · rw [hQ.sbu]; rfl
  · rw [hQ.sbu]
  · rw [hQ.sbu]
  · rw [hQ.sbu]; rfl

end

end Sys2Proof.Machine
end

section
/-! SUPPORT. What runs on a busy line in any power state, once a dock is at rest and no sleep rule stands. -/

namespace Sys2Proof.Machine

open Sys2Proof

section
variable {s t u : State} {T : List Block} {k n : Nat} {l m : List Signal} {Q : State → Prop}

/-- The line is busy, no command waits, no sleep rule stands, no posture is committed without its dwell, the dock is at
rest. -/
structure State.Asleep (s : State) : Prop where
  queue : s.ulp.queue = []
  busy : s.ulp.lineFree = false
  unruled : s.Unruled
  dwell : 0 < s.par.postureDwell
  rest : s.dlc.AtRest

/-- The fields of a dock at rest and the line's, without the gate's and the policy's. -/
abbrev restingBlocks : List Block := [.hau, .oru, .pcl, .dlc, .fbf, .sbu, .pcc, .psc, .ulp]

/-- The areas but for the Report area are left, and the base vector's and the base condition; the dock's record stands. -/
structure Quietly (T : List Block) (s t : State) : Prop where
  only : Only T s t
  dlc : s.dlc.Stands t.dlc
  hold : t.fbf.hold = s.fbf.hold
  input : t.fbf.input = s.fbf.input
  map : t.fbf.map = s.fbf.map
  cond : t.hau.cond = s.hau.cond
  base : t.pcl.cond = s.pcl.cond
  queue : t.ulp.queue = s.ulp.queue
  lineFree : t.ulp.lineFree = s.ulp.lineFree

theorem Quietly.refl (s : State) : Quietly T s s := ⟨Only.refl _ _, .refl _, rfl, rfl, rfl, rfl, rfl, rfl, rfl⟩

theorem Quietly.trans (h : Quietly T s t) (h' : Quietly T t u) : Quietly T s u :=
  ⟨h.only.trans h'.only, h.dlc.trans h'.dlc, h'.hold.trans h.hold, h'.input.trans h.input, h'.map.trans h.map,
    h'.cond.trans h.cond, h'.base.trans h.base, h'.queue.trans h.queue, h'.lineFree.trans h.lineFree⟩

theorem Quietly.mono {U : List Block} (h : Quietly T s t) (hT : T.all U.contains = true) : Quietly U s t :=
  ⟨h.only.mono hT, h.dlc, h.hold, h.input, h.map, h.cond, h.base, h.queue, h.lineFree⟩

/-- A handover that leaves the areas, the base vector's and the base condition and the line. -/
theorem Quietly.of_eq {U : List Block} (h : Only U s t) (hd : s.dlc.Stands t.dlc) (hc : t.hau.cond = s.hau.cond)
    (hb : t.pcl.cond = s.pcl.cond) (hU : U.all [Block.hau, .oru, .pcl, .dlc, .sbu, .pcc, .psc].contains = true)
    (hT : U.all T.contains = true) : Quietly T s t := by
  have h' := h.mono hU
  exact ⟨h.mono hT, hd, by rw [h'.fbf rfl], by rw [h'.fbf rfl], by rw [h'.fbf rfl], hc, hb, by rw [h'.ulp rfl], by rw [h'.ulp rfl]⟩

theorem State.Asleep.quietly (h : s.Asleep) (h' : Quietly restingBlocks s t) : t.Asleep where
  queue := h'.queue.trans h.queue
  busy := h'.lineFree.trans h.busy
  unruled := by rw [State.Unruled, h'.only.spu rfl]; exact h.unruled
  dwell := by rw [h'.only.par rfl]; exact h.dwell
  rest := h.rest.of_stands h'.dlc

/-! ### Single handovers -/

/-- What a report stores or counts. -/
theorem composeReport_quietly {r : ReportKind} (hr : r ≠ .forceCut) (f : List Byte) (s : State) :
    Quietly [.dlc, .fbf, .ulp] s (composeReport r f s).1 ∧ ((composeReport r f s).2 = [] ∨ (composeReport r f s).2 = [.arbiter] ∨
      (composeReport r f s).2 = [.arbiter, .arbiter]) := by
  have hover : Quietly [.dlc, .fbf, .ulp] s (offerOverflow s).1 ∧ ((offerOverflow s).2 = [] ∨ (offerOverflow s).2 = [.arbiter]) := by
    unfold offerOverflow
    dsimp only
    split
    · exact ⟨⟨rfl, .refl _, rfl, rfl, rfl, rfl, rfl, rfl, rfl⟩, .inr rfl⟩
    · exact ⟨.refl s, .inl rfl⟩
  have hoffer : ∀ u : State, Quietly [.dlc, .fbf, .ulp] u (offerReport r f u).1 ∧
      ((offerReport r f u).2 = [] ∨ (offerReport r f u).2 = [.arbiter]) := by
    intro u
    unfold offerReport
    simp only [if_neg hr]
    split
    · exact ⟨⟨rfl, .refl _, rfl, rfl, rfl, rfl, rfl, rfl, rfl⟩, .inr rfl⟩
    · exact ⟨⟨rfl, .refl _, rfl, rfl, rfl, rfl, rfl, rfl, rfl⟩, .inl rfl⟩
  unfold composeReport
  split
  · obtain ⟨h1, h2⟩ := hover
    obtain ⟨h3, h4⟩ := hoffer (offerOverflow s).1
    refine ⟨h1.trans h3, ?_⟩
    rw [Act.andThen]
    rcases h2 with h2 | h2 <;> rcases h4 with h4 | h4 <;> simp [h2, h4]
  · exact ⟨.refl s, .inl rfl⟩

/-- A report or the SBU's answer on a busy line. -/
theorem Ends.leaf {g : Signal} (hg : g.kind ∈ [Kind.report, Kind.grantApplied]) (hb : s.ulp.lineFree = false)
    (h : ∀ t, Quietly [.dlc, .fbf, .ulp] s t → Ends k l t Q) : Ends (k + 3) (g :: l) s Q := by
  cases g
  case report r f =>
    have hr : r ≠ .forceCut := fun e => by simp [Signal.kind, e] at hg
    obtain ⟨hq, hl⟩ := composeReport_quietly hr f s
    have hbusy : (composeReport r f s).1.ulp.lineFree = false := hq.lineFree.trans hb
    rcases hl with hl | hl | hl
    · have he : handle (.report r f) s = ((composeReport r f s).1, []) := Prod.ext (Eq.refl (composeReport r f s).1) hl
      exact Ends.le (Ends.step he (by simp) (h _ hq)) (by omega)
    · have he : handle (.report r f) s = ((composeReport r f s).1, [.arbiter]) :=
        Prod.ext (Eq.refl (composeReport r f s).1) hl
      exact Ends.le (Ends.step he (by simp) (Ends.arbiter_busy hbusy (h _ hq))) (by omega)
    · have he : handle (.report r f) s = ((composeReport r f s).1, [.arbiter, .arbiter]) :=
        Prod.ext (Eq.refl (composeReport r f s).1) hl
      exact Ends.step he (by simp) (Ends.arbiter_busy (k := k + 1) hbusy (Ends.arbiter_busy hbusy (h _ hq)))
  case grantApplied b =>
    refine Ends.le (Ends.step (grantApplied_eq b s) (by simp) (h _ ?_)) (by omega)
    exact Quietly.of_eq (U := [.dlc]) rfl (Dlc.stands_granted _ _ _) rfl rfl rfl rfl
  all_goals simp [Signal.kind] at hg

theorem Ends.leaves (hm : ∀ g ∈ m, g.kind ∈ [Kind.report, Kind.grantApplied]) (hb : s.ulp.lineFree = false)
    (h : ∀ t, Quietly [.dlc, .fbf, .ulp] s t → Ends k l t Q) : Ends (k + 3 * m.length) (m ++ l) s Q := by
  induction m generalizing s with
  | nil => exact h s (.refl s)
  | cons g m ih =>
    refine Ends.leaf (k := k + 3 * m.length) (hm g List.mem_cons_self) hb fun t ht => ?_
    exact ih (fun x hx => hm x (List.mem_cons_of_mem _ hx)) (ht.lineFree.trans hb) fun u hu => h u (ht.trans hu)

/-- An evaluation of the posture with a dwell. -/
theorem postureEvaluate_quietly (hd : 0 < s.par.postureDwell) :
    Quietly [.pcl] s (postureEvaluate s).1 ∧ (postureEvaluate s).2 = [] := by
  have hset : ∀ c, (s.pcl.settled s.par.postureDwell c).2 = false ∧ (s.pcl.settled s.par.postureDwell c).1.cond = s.pcl.cond := by
    intro c
    unfold Pcl.settled
    dsimp only
    rw [if_neg (show ¬ s.par.postureDwell = 0 by omega)]
    split_ifs <;> exact ⟨rfl, rfl⟩
  unfold postureEvaluate
  split
  · refine ⟨Quietly.of_eq (U := [.pcl]) rfl (.refl _) rfl (hset _).2 rfl rfl, ?_⟩
    simp only [postureChoose, (hset _).1]
    rfl
  · exact ⟨.refl s, rfl⟩

/-! ### The class -/

/-- The handovers of a dock at rest on a busy line. -/
abbrev restingKinds : List Signal :=
  [Kind.report, .arbiter, .pclEval, Kind.spuEval, .walkNext, .pscDeferred, .servePower, .pscRecheck, .pscLevels, Kind.pscWake]

theorem quietly_enterStandby (b : Bool) (h : s.dlc.AtRest) : Quietly restingBlocks s (enterStandby b s).1 :=
  ⟨rfl, (dockSame_enterStandby b h).dlc, rfl, rfl, rfl, rfl, rfl, rfl, rfl⟩

theorem quietly_handle {g : Signal} (hg : g.kind ∈ restingKinds) (h : s.Asleep) :
    Quietly restingBlocks s (handle g s).1 ∧ ∀ x ∈ (handle g s).2, x.kind ∈ restingKinds := by
  have hquiet : handle g s = quiet s → Quietly restingBlocks s (handle g s).1 ∧ ∀ x ∈ (handle g s).2, x.kind ∈ restingKinds := fun e => by
    rw [e]; exact ⟨.refl s, nofun⟩
  have hmono : Act.Hands [Kind.report, .pscLevels] (handle g s) → ∀ x ∈ (handle g s).2, x.kind ∈ restingKinds :=
    fun ha x hx => (show ∀ k ∈ [Kind.report, .pscLevels], k ∈ restingKinds by decide) _ (ha x hx)
  cases g
  case report r f =>
    have hr : r ≠ .forceCut := fun e => by simp [Signal.kind, e] at hg
    obtain ⟨hq, hl⟩ := composeReport_quietly hr f s
    refine ⟨hq.mono rfl, fun x hx => ?_⟩
    have : x = .arbiter := by
      change x ∈ (composeReport r f s).2 at hx
      rcases hl with hl | hl | hl <;> rw [hl] at hx <;> simp at hx <;> exact hx
    rw [this]
    decide
  case arbiter => exact hquiet (arbiterChoice_of_busy h.busy)
  case pclEval =>
    obtain ⟨hq, hl⟩ := postureEvaluate_quietly h.dwell
    exact ⟨hq.mono rfl, fun x hx => by rw [handle, hl] at hx; exact nomatch hx⟩
  case spuEval t => exact hquiet (spuEvaluate_of_unruled h.unruled t)
  case walkNext => exact hquiet (walkNext_of_rests (.inl h.rest.walk))
  case pscDeferred =>
    refine ⟨?_, hmono (hands_deferredRecheck_rest h.rest)⟩
    change Quietly restingBlocks s (deferredRecheck s).1
    unfold deferredRecheck
    split
    · exact quietly_enterStandby _ h.rest
    · exact .refl s
  case servePower =>
    rcases servePower_of_rests (h.rest.rests .servePower) with he | he
    · exact hquiet he
    · rw [handle, he]
      exact ⟨Quietly.of_eq (U := [.dlc]) rfl ⟨rfl, .inl rfl, .inr rfl, fun _ => rfl⟩ rfl rfl rfl rfl, nofun⟩
  case pscRecheck =>
    refine ⟨?_, hmono (hands_standbyRecheck_rest h.rest)⟩
    have hdue : Quietly restingBlocks s (standbyDue s).1 := by
      unfold standbyDue
      split
      · exact Quietly.of_eq (U := [.psc]) rfl (.refl _) rfl rfl rfl rfl
      · exact quietly_enterStandby _ h.rest
    change Quietly restingBlocks s (standbyRecheck s).1
    unfold standbyRecheck
    split_ifs
    · exact hdue
    all_goals exact Quietly.of_eq (U := [.psc]) rfl (.refl _) rfl rfl rfl rfl
  case pscLevels =>
    refine ⟨.refl s, fun x hx => ?_⟩
    rw [List.mem_singleton.mp (hands_levelConditions s x hx)]
    decide
  case pscWake src =>
    refine ⟨?_, fun x hx => nomatch hands_wakeEvent (L := []) src s x hx⟩
    change Quietly restingBlocks s (wakeEvent src s).1
    unfold wakeEvent enterSettle
    repeat' split
    all_goals exact Quietly.of_eq (U := [.psc]) rfl (.refl _) rfl rfl rfl rfl
  all_goals simp [Signal.kind] at hg

theorem Ends.quietly (hl : ∀ g ∈ l, g.kind ∈ restingKinds) (h : s.Asleep) : Ends k l s (Quietly restingBlocks s) := by
  refine Ends.of_keeps (fun g => g.kind ∈ restingKinds) (fun t => Quietly restingBlocks s t) (fun g t hg ht => ?_) hl (.refl s) fun _ h => h
  obtain ⟨h1, h2⟩ := quietly_handle hg (h.quietly ht)
  exact ⟨ht.trans h1, h2⟩

end

end Sys2Proof.Machine
end

section
/-! PROOFS. The switch inputs: debounce, the forced hinge, a presence drop. -/

namespace Sys2Proof.Machine

open Sys2Proof

section
variable {new : Dlc} {s t u : State} {k n : Nat} {l m : List Signal} {Q : State → Prop} {c : Instr} {a : Act}

/-! ### The hinge record under a hall -/

/-- A hall forces the hinge record, and it has that value. -/
def State.Forced (h : Hinge) (s : State) : Prop := hallForced s = some h ∧ s.hau.hinge = h

theorem hallForced_of_sib (h : t.sib = s.sib) : hallForced t = hallForced s := by rw [hallForced, hallForced, h]

theorem hingeUpdate_hinge (h : Hinge) (s : State) : (hingeUpdate h s).1.hau.hinge = h := by
  unfold hingeUpdate
  dsimp only
  split <;> rfl

theorem baseLost_of_forced {h : Hinge} (hf : hallForced s = some h) :
    baseLost s = quiet { s with hau := { s.hau with cond := .absent, base := none, age := 0 } } := by
  unfold baseLost
  dsimp only
  exact if_neg fun hc => by
    have : hallForced { s with hau := { s.hau with cond := .absent, base := none, age := 0 } } = some h := hf
    rw [this] at hc
    exact nomatch hc.1

theorem enterStandby_hinge (b : Bool) (s : State) : (enterStandby b s).1.hau.hinge = s.hau.hinge := rfl

theorem standbyDue_hinge (s : State) : (standbyDue s).1.hau.hinge = s.hau.hinge := by
  unfold standbyDue
  split <;> rfl

theorem standbyRecheck_hinge (s : State) : (standbyRecheck s).1.hau.hinge = s.hau.hinge := by
  unfold standbyRecheck
  split_ifs
  · exact standbyDue_hinge s
  all_goals rfl

theorem hostChanged_hinge (old new : HostState) (s : State) : (hostChanged old new s).1.hau.hinge = s.hau.hinge := by
  unfold hostChanged
  split
  · split_ifs
    · rfl
    · exact congrArg Hau.hinge ((startDoze_only s (T := [.oru, .sbu, .pcc, .psc]) rfl).hau rfl)
    · rfl
  · split
    · exact standbyRecheck_hinge s
    · exact congrArg Hau.hinge ((enterRunFromDoze_only s (T := [.oru, .sbu, .pcc, .psc]) rfl).hau rfl)
  · split <;> rfl
  · rfl

theorem mirrorSample_hinge (s : State) : (mirrorSample s).1.hau.hinge = s.hau.hinge := by
  unfold mirrorSample
  repeat' split
  all_goals rfl

/-- While no command waits, no handover moves a forced hinge record. -/
theorem forced_handle {h : Hinge} {g : Signal} (hg : g.kind ∈ eventKinds) (hq : s.ulp.queue = []) (hs : s.Forced h) :
    (handle g s).1.Forced h := by
  obtain ⟨hf, hh⟩ := hs
  refine ⟨(hallForced_of_sib ((handle_idleBlocks hq).sib ?_)).trans hf, ?_⟩
  · rw [← idleBlocks_kind]
    have := List.all_eq_true.mp (show (eventKinds.all fun k => !k.idleBlocks.contains .sib) = true by decide) _ hg
    exact (Bool.not_eq_true' _).mp this
  · by_cases hb : g.idleBlocks.contains .hau = false
    · rw [(handle_idleBlocks hq).hau hb, hh]
    cases g
    case hauHall =>
      change (hallChange s).1.hau.hinge = h
      unfold hallChange
      split
      · rw [hf]; exact hingeUpdate_hinge h s
      · exact hh
    case hinge =>
      change (hingeAtSample s).1.hau.hinge = h
      rw [hingeAtSample, hf]
      exact hingeUpdate_hinge h s
    case hauDock b =>
      change (hauDockNotice b s).1.hau.hinge = h
      unfold hauDockNotice
      rw [baseLost_of_forced hf]
      split_ifs <;> exact hh
    case mirror => exact (mirrorSample_hinge s).trans hh
    case pscRecheck => exact (standbyRecheck_hinge s).trans hh
    case pscHost old new => exact (hostChanged_hinge old new s).trans hh
    case pscDeferred =>
      change (deferredRecheck s).1.hau.hinge = h
      unfold deferredRecheck
      split <;> exact hh
    case report k f => by_cases hk : k = .forceCut <;> exact (hb rfl).elim
    all_goals first
      | exact (hb rfl).elim
      | simp [Signal.kind] at hg

theorem Ends.forced {h : Hinge} (hl : ∀ g ∈ l, g.kind ∈ eventKinds) (hq : s.ulp.queue = []) (hs : s.Forced h) :
    Ends k l s fun t => t.hau.hinge = h :=
  (Ends.closed eventKinds (State.Forced h) (by decide) (fun _ _ hg hq hs => forced_handle hg hq hs) hl hq hs).mono
    fun _ ht => ht.1.2

/-! ### Raw and debounced states -/

theorem input_setInput (b : Sib) (i : Input) (x : SwitchInput) : (b.setInput i x).input i = x := by cases i <;> rfl

theorem setInput_setInput (b : Sib) (i : Input) (x y : SwitchInput) : (b.setInput i x).setInput i y = b.setInput i y := by
  cases i <;> rfl

theorem input_pass (b : Sib) (r : Nat) (i : Input) : (b.pass r).input i = { b.input i with run := (b.input i).run.pass r } := by
  cases i <;> rfl

/-- The debounced state takes the raw state. -/
theorem debouncedChange_sib (i : Input) (s : State) :
    (debouncedChange i s).1 =
      { s with
        sib := s.sib.setInput i
          { s.sib.input i with asserted := rawState (s.par.polarity i) (s.sib.input i).level, run := none } } := by
  unfold debouncedChange
  dsimp only
  split <;> rfl

/-- An event ends where its handovers end; while no command waits it leaves the configuration, and the inputs and the time
as its own effect does. -/
theorem exec_event_sib (hc : isPlainEvent c = true) (hs : s.SameConfig u) (hq : u.ulp.queue = []) (he : exec c s = finish a)
    (ha : c.core u = a) (h : Ends 1000 a.2 a.1 Q) :
    ∃ t, exec c s = .next t ∧ Q t ∧ s.SameConfig t ∧ t.sib = a.1.sib ∧ t.ms = a.1.ms := by
  subst ha
  have hcore := keeps_core hitsKeep_true c (isReset_of_plain hc) (sameConfig_iff_keeps.mpr hs)
  obtain ⟨h1, h2, -, h4, -⟩ := settle_sameConfig (hands_core hc u) ((core_queue hc u).trans hq) (sameConfig_iff_keeps.mp hcore)
  exact ⟨_, he, h.settle, h1, h2, h4⟩

/-! ### The releases that a departure owes -/

theorem inputFree_putInput {f : Stored} (h : f.size = 6) : (s.putInput f).fbf.inputFree = s.fbf.inputFree - 6 := by
  simp only [Fbf.inputFree, State.putInput, occupancy, List.map_append, List.sum_append, List.map_cons, List.map_nil,
    List.sum_cons, List.sum_nil, h]
  omega

/-- A pending release that finds room enters the Input area. -/
def State.released (p : Pending) (ps : List Pending) (s : State) : State :=
  { s with
    fbf := { s.fbf with input := s.fbf.input ++ [⟨.key, [byte p.code, 1]⟩] }
    igt :=
      { s.igt with
        keys := s.igt.keys.erase p.code
        pend := ps
        idle := if p.origin = .base then 0 else s.igt.idle
        idleLeft := if p.origin = .base then 1000 else s.igt.idleLeft } }

theorem queuePending_cons {p : Pending} {ps : List Pending} (h : 6 ≤ s.fbf.inputFree) :
    queuePending (p :: ps) s = queuePending ps (s.released p ps) := by
  refine (if_pos h).trans (congrArg (queuePending ps) ?_)
  unfold State.released
  by_cases ho : p.origin = .base
  · simp only [if_pos ho]
    rfl
  · simp only [if_neg ho]
    rfl

/-- What the queueing of pending releases leaves: as many as find room have entered the Input area. -/
structure Queued (l : List Pending) (n : Nat) (s t : State) : Prop where
  input : t.fbf.input = s.fbf.input ++ (l.take n).map fun p => ⟨.key, [byte p.code, 1]⟩
  pend : t.igt.pend = l.drop n
  keys : t.igt.keys = (l.take n).foldl (fun ks p => ks.erase p.code) s.igt.keys
  hold : t.fbf.hold = s.fbf.hold
  head : t.igt.head = s.igt.head
  displaced : t.igt.displaced = s.igt.displaced
  expired : t.igt.expired = s.igt.expired

theorem queued_of_queuePending (l : List Pending) :
    ∀ (n : Nat) (s : State), s.igt.pend = l → n = min l.length (s.fbf.inputFree / 6) → Queued l n s (queuePending l s) := by
  induction l with
  | nil =>
    intro n s hp hn
    have : n = 0 := by simpa using hn
    subst this
    exact ⟨(List.append_nil _).symm, hp, rfl, rfl, rfl, rfl, rfl⟩
  | cons p ps ih =>
    intro n s hp hn
    by_cases h6 : 6 ≤ s.fbf.inputFree
    · have hfree : (s.released p ps).fbf.inputFree = s.fbf.inputFree - 6 :=
        inputFree_putInput (s := s) (f := releaseFrame p.code) rfl
      obtain ⟨j, rfl⟩ : ∃ j, n = j + 1 := ⟨n - 1, by simp only [List.length_cons] at hn; omega⟩
      have hj : j = min ps.length ((s.released p ps).fbf.inputFree / 6) := by
        rw [hfree]
        simp only [List.length_cons] at hn
        omega
      obtain ⟨h1, h2, h3, h4, h5, h7, h8⟩ := ih j (s.released p ps) rfl hj
      rw [queuePending_cons h6]
      refine ⟨h1.trans ?_, h2, h3, h4, h5, h7, h8⟩
      simp [State.released]
    · have h0 : n = 0 := by
        rw [hn, Nat.div_eq_of_lt (by omega)]
        exact Nat.min_zero _
      have he : queuePending (p :: ps) s = s := if_neg h6
      subst h0
      rw [he]
      exact ⟨(List.append_nil _).symm, hp, rfl, rfl, rfl, rfl, rfl⟩

theorem markAll_pend (g : Igt) : g.markAll.pend = g.owed := by
  have hfilter : (g.keys.filter fun c => !g.pend.any fun p => p.code == c) =
      g.keys.filter fun c => !(g.pend.map Pending.code).contains c := by
    refine List.filter_congr fun c _ => ?_
    rw [List.contains_eq_any_beq, List.any_map]
    refine congrArg (fun f => !g.pend.any f) (funext fun p => ?_)
    exact BEq.comm
  change g.pend ++ _ = g.pend ++ _
  rw [hfilter]

/-- A departure discards the Hold area and owes a release for each key down. -/
theorem gateDeparture_queued {owed : List Pending} (ho : owed = s.igt.owed) (hn : n = min owed.length (s.fbf.inputFree / 6)) :
    (gateDeparture s).1.fbf.input = s.fbf.input ++ (owed.take n).map (fun p => ⟨.key, [byte p.code, 1]⟩) ∧
      (gateDeparture s).1.igt.pend = owed.drop n ∧
      (gateDeparture s).1.igt.keys = (owed.take n).foldl (fun ks p => ks.erase p.code) s.igt.keys ∧
      (gateDeparture s).1.fbf.hold = [] ∧ (gateDeparture s).1.igt.head = .idle ∧ (gateDeparture s).1.igt.displaced = false ∧
      (gateDeparture s).1.igt.expired = false := by
  subst ho
  rw [← markAll_pend] at hn ⊢
  obtain ⟨h1, h2, h3, h4, h5, h6, h7⟩ := queued_of_queuePending s.igt.markAll.pend n
    { s with
      igt := { s.igt.markAll with head := .idle, proc := none, displaced := false, expired := false }
      fbf := { s.fbf with hold := [] } } rfl hn
  exact ⟨h1, h2, h3, h4, h5, h6, h7⟩

/-! ### A departure on a busy line -/

/-- The base vector is lost while the part is awake, and what follows the hinge record. -/
theorem Ends.hauLost {b : Bool} (htilt : s.dlc.tiltAvailable = false) (hs : s.Asleep)
    (h : ∀ (x : Hau) (t : State), (s.awake = true → x.cond = .absent) →
      Quietly [.pcl, .dlc, .fbf, .ulp] { s with hau := x } t → Ends k l t Q) :
    Ends (k + 5) (.hauDock b :: l) s Q := by
  have hquiet : ∀ x : Hau, (s.awake = true → x.cond = .absent) → hauDockNotice b s = quiet { s with hau := x } →
      Ends (k + 5) (.hauDock b :: l) s Q := fun x hx he =>
    Ends.le (Ends.step he (by simp) (h x _ hx (.refl _))) (by omega)
  have heval : ∀ (x : Hau) (m : List Signal), x.cond = .absent → (∀ g ∈ m, g.kind ∈ [Kind.report, Kind.grantApplied]) → m.length ≤ 1 →
      hauDockNotice b s = ({ s with hau := x }, .pclEval :: m) → Ends (k + 5) (.hauDock b :: l) s Q := by
    intro x m hx hm hlen he
    obtain ⟨hq, hl⟩ := postureEvaluate_quietly (s := { s with hau := x }) hs.dwell
    refine Ends.le (Ends.step (k := k + 4) he (by simp) ?_) (by omega)
    have he' : handle .pclEval { s with hau := x } = ((postureEvaluate { s with hau := x }).1, []) := Prod.ext rfl hl
    refine Ends.step (k := k + 3) he' (by simp) ?_
    change Ends (k + 3) (m ++ l) _ _
    refine Ends.le (Ends.leaves hm (hq.lineFree.trans hs.busy) fun t ht => h x t (fun _ => hx) ?_) (by omega)
    exact (hq.mono rfl).trans (ht.mono rfl)
  unfold hauDockNotice at hquiet heval
  by_cases ha : s.awake = true
  · rw [if_pos ha, htilt, if_neg (by simp)] at hquiet heval
    by_cases hc : s.hau.cond = .absent
    · rw [if_pos hc] at hquiet
      exact hquiet s.hau (fun _ => hc) rfl
    · rw [if_neg hc] at hquiet heval
      unfold baseLost hingeUpdate at hquiet heval
      dsimp only at hquiet heval
      split_ifs at hquiet heval with h1 h2
      · exact heval _ _ rfl (by simp [angleReport, Signal.kind]) (by simp) rfl
      · exact heval _ _ rfl (by simp) (by simp) rfl
      · exact hquiet _ (fun _ => rfl) rfl
  · rw [if_neg ha] at hquiet
    exact hquiet s.hau (fun h => (ha h).elim) rfl

/-- The base condition follows the dock. -/
theorem Ends.detached (hs : s.Asleep)
    (h : ∀ t : State, Quietly [.pcl] { s with pcl := { s.pcl with cond := s.dlc.baseCond } } t → Ends k l t Q) :
    Ends (k + 3) (.pclDock :: l) s Q := by
  by_cases hc : s.dlc.baseCond = s.pcl.cond
  · refine Ends.le (Ends.skip (if_pos hc) (by simp) (h s ?_)) (by omega)
    rw [hc]
    exact .refl s
  · obtain ⟨hq, hl⟩ := postureEvaluate_quietly (s := { s with pcl := { s.pcl with cond := s.dlc.baseCond } }) hs.dwell
    refine Ends.step (k := k + 2) (if_neg hc) (by simp) ?_
    have he' : handle .pclEval { s with pcl := { s.pcl with cond := s.dlc.baseCond } } =
      ((postureEvaluate { s with pcl := { s.pcl with cond := s.dlc.baseCond } }).1, []) := Prod.ext rfl hl
    refine Ends.step (k := k + 1) he' (by simp) ?_
    refine Ends.skip (k := k) (spuEvaluate_of_unruled ?_ _) (by simp) (h _ hq)
    rw [State.Unruled, hq.only.spu rfl]
    exact hs.unruled

/-- What a departure leaves on a busy line, with no sleep rule. -/
structure Departed (s t : State) : Prop where
  cond : s.awake = true → t.hau.cond = .absent
  base : t.pcl.cond = .detached
  igt : t.igt = if s.dlc.state.delivers then (gateDeparture s).1.igt else s.igt
  hold : t.fbf.hold = if s.dlc.state.delivers then (gateDeparture s).1.fbf.hold else s.fbf.hold
  input : t.fbf.input = if s.dlc.state.delivers then (gateDeparture s).1.fbf.input else s.fbf.input

theorem queuePending_congr (l : List Pending) : ∀ s t : State, t.igt = s.igt → t.fbf.input = s.fbf.input →
    t.fbf.map = s.fbf.map → t.fbf.hold = s.fbf.hold →
    (queuePending l t).igt = (queuePending l s).igt ∧ (queuePending l t).fbf.input = (queuePending l s).fbf.input ∧
      (queuePending l t).fbf.hold = (queuePending l s).fbf.hold := by
  induction l with
  | nil => exact fun s t h1 h2 _ h4 => ⟨h1, h2, h4⟩
  | cons p ps ih =>
    intro s t h1 h2 h3 h4
    have hfree : t.fbf.inputFree = s.fbf.inputFree := by rw [Fbf.inputFree, Fbf.inputFree, h2, h3]
    by_cases h6 : 6 ≤ s.fbf.inputFree
    · rw [queuePending_cons h6, queuePending_cons (hfree ▸ h6)]
      refine ih _ _ ?_ ?_ h3 h4
      · simp only [State.released, h1]
      · simp only [State.released, h2]
    · rw [show queuePending (p :: ps) s = s from if_neg h6, show queuePending (p :: ps) t = t from if_neg (hfree ▸ h6)]
      exact ⟨h1, h2, h4⟩

theorem gateDeparture_congr (h1 : t.igt = s.igt) (h2 : t.fbf.input = s.fbf.input) (h3 : t.fbf.map = s.fbf.map) :
    (gateDeparture t).1.igt = (gateDeparture s).1.igt ∧ (gateDeparture t).1.fbf.input = (gateDeparture s).1.fbf.input ∧
      (gateDeparture t).1.fbf.hold = (gateDeparture s).1.fbf.hold := by
  unfold gateDeparture
  dsimp only [State.setHold]
  rw [h1]
  exact queuePending_congr _ _ _ rfl h2 h3 rfl

/-- The gate on a busy line where the dock has left the states that deliver. -/
theorem Ends.gateDeparted {b : Bool} (hs : s.Asleep)
    (h : ∀ t, t.Asleep → Only [.igt, .fbf] s t → t.igt = (if b then (gateDeparture s).1.igt else s.igt) →
      t.fbf.hold = (if b then (gateDeparture s).1.fbf.hold else s.fbf.hold) →
      t.fbf.input = (if b then (gateDeparture s).1.fbf.input else s.fbf.input) → Ends k l t Q) :
    Ends (k + 2) ((if b then [.igtDeparture] else []) ++ l) s Q := by
  cases b with
  | false => exact Ends.le (h s hs (Only.refl _ _) rfl rfl rfl) (by omega)
  | true =>
    have ho : Only [.igt, .fbf] s (gateDeparture s).1 := gateDeparture_only s rfl
    have hulp := ho.ulp rfl
    have hs' : (gateDeparture s).1.Asleep := by
      refine ⟨by rw [hulp]; exact hs.queue, by rw [hulp]; exact hs.busy, ?_, by rw [ho.par rfl]; exact hs.dwell,
        by rw [ho.dlc rfl]; exact hs.rest⟩
      rw [State.Unruled, ho.spu rfl]
      exact hs.unruled
    refine Ends.step (k := k + 1) (t := (gateDeparture s).1) (new := [.arbiter]) rfl (by simp) ?_
    exact Ends.arbiter_busy (k := k) hs'.busy (h _ hs' ho rfl rfl rfl)

theorem length_applied (s : State) : (budgetEvent applyRequest s).2.length ≤ 3 := by
  obtain ⟨pens, mid, he, -, hlen, hmid⟩ := applyRequest_shape s
  have htail := (budgetTail_upstream s (applyRequest s).1).2
  rw [budgetEvent_eq, he]
  rcases hmid with ⟨rfl, rfl⟩ | ⟨b, rfl⟩ <;> simp only [List.length_append, List.length_cons, List.length_nil] <;> omega

theorem dockRequest_length (n : Nat) (s : State) : (dockRequest n s).2.length ≤ 3 := length_applied _

theorem moveNotices_append (b : Bool) (m : List Signal) :
    moveNotices b ++ m = .hauDock false :: .pclDock :: ((if b then [.igtDeparture] else []) ++ (.pscRecheck :: m)) := by
  cases b <;> rfl

theorem dockMove_areas (new : Dlc) (s : State) :
    (dockMove new s).1.fbf.input = s.fbf.input ∧ (dockMove new s).1.fbf.hold = s.fbf.hold ∧
      (dockMove new s).1.fbf.map = s.fbf.map := by
  unfold dockMove
  dsimp only
  split <;> exact ⟨rfl, rfl, rfl⟩

/-- A change of the dock state to ABSENT behind the report of an abandoned step, on a busy line. -/
theorem Ends.departs {c : DockCause} {d : Dlc} (hnew : new.AtRest) (ht : new.tiltAvailable = false) (hb : new.baseCond = .detached)
    (hs : (dockMove new s).1.Asleep) (hm : ∀ g ∈ m, g.kind ∈ restingKinds) :
    Ends (k + 31) (abandonReport c new d ++ ((dockMove new s).2 ++ m)) (dockMove new s).1 (Departed s) := by
  have habandon : (abandonReport c new d).length ≤ 1 := by
    unfold abandonReport
    split <;> simp
  refine Ends.le (Ends.leaves (k := k + 20) (fun g hg => ?_) hs.busy fun v hv => ?_) (by omega)
  · rw [abandonReport_kinds c new d g hg]; decide
  have hvs := hs.quietly (hv.mono rfl)
  rw [dockMove_signals, List.cons_append, moveNotices_append]
  have hdel : new.state.delivers = false := by rcases hnew.state with h | h | h <;> rw [h] <;> rfl
  have hlevel : Only [.sbu, .pcc] v (dockRequest new.level v).1 := dockRequest_only _ _ rfl
  have hlq : Quietly restingBlocks v (dockRequest new.level v).1 := Quietly.of_eq hlevel
    (by rw [hlevel.dlc rfl]; exact .refl _) (by rw [hlevel.hau rfl]) (by rw [hlevel.pcl rfl]) rfl rfl
  refine Ends.cons (k := k + 19) (by simp) ?_
  change Ends (k + 19) ((dockRequest new.level v).2 ++ _) (dockRequest new.level v).1 _
  refine Ends.le (Ends.leaves (k := k + 10) (dockRequest_kinds _ _) (hvs.quietly hlq).busy fun w hw => ?_)
    (by have := dockRequest_length new.level v; omega)
  have hsw := ((hv.mono (U := restingBlocks) rfl).trans hlq).trans (hw.mono rfl)
  have hawake : w.awake = s.awake := by
    rw [State.awake, hw.only.psc rfl, hlevel.psc rfl, hv.only.psc rfl]; rfl
  have hw := hs.quietly hsw
  have hwd : new.Stands w.dlc := hsw.dlc
  refine Ends.hauLost (k := k + 5) (hwd.tiltAvailable.trans ht) hw fun x y hx hy => ?_
  have hya : y.Asleep := State.Asleep.quietly (s := { w with hau := x }) ⟨hw.queue, hw.busy, hw.unruled, hw.dwell, hw.rest⟩ (hy.mono rfl)
  have hwy : w.dlc.Stands y.dlc := hy.dlc
  refine Ends.detached (k := k + 2) hya fun z hz => ?_
  have hza : z.Asleep := State.Asleep.quietly (s := { y with pcl := { y.pcl with cond := y.dlc.baseCond } })
    ⟨hya.queue, hya.busy, hya.unruled, hya.dwell, hya.rest⟩ (hz.mono rfl)
  have hdeparts : (s.dlc.state.delivers && !new.state.delivers) = s.dlc.state.delivers := by rw [hdel]; simp
  rw [hdeparts]
  refine Ends.gateDeparted (k := k) hza fun p hp ho h1 h2 h3 => ?_
  have hzi : z.igt = s.igt := (hz.only.igt rfl).trans ((hy.only.igt rfl).trans (hsw.only.igt rfl))
  have hzin : z.fbf.input = s.fbf.input := hz.input.trans (hy.input.trans (hsw.input.trans (dockMove_areas new s).1))
  have hzm : z.fbf.map = s.fbf.map := hz.map.trans (hy.map.trans (hsw.map.trans (dockMove_areas new s).2.2))
  have hzh : z.fbf.hold = s.fbf.hold := hz.hold.trans (hy.hold.trans (hsw.hold.trans (dockMove_areas new s).2.1))
  obtain ⟨g1, g2, g3⟩ := gateDeparture_congr hzi hzin hzm
  refine Ends.mono (Ends.quietly (fun g hg => ?_) hp) fun t htq => ⟨fun ha => ?_, ?_, ?_, ?_, ?_⟩
  · rcases List.mem_cons.mp hg with rfl | hg
    · decide
    · exact hm g hg
  · rw [htq.cond, ho.hau rfl, hz.cond]
    exact hy.cond.trans (hx (hawake.trans ha))
  · rw [htq.base, ho.pcl rfl, hz.base]
    exact (hwd.trans hwy).baseCond.trans hb
  · rw [htq.only.igt rfl, h1, g1, hzi]
  · rw [htq.hold, h2, g3, hzh]
  · rw [htq.input, h3, g2, hzin]

/-! ### The obligation -/

/-- The record of a base that has gone. -/
def Dlc.departed (d : Dlc) : Dlc := { d.cleared .absent with overdraw := 0 }

theorem Dlc.departed_rest (d : Dlc) : d.departed.AtRest := ⟨.inl rfl, rfl, rfl, rfl, rfl⟩

theorem presenceDropped_signals (h : s.dlc.state ≠ .absent) :
    presenceDropped s = ((dockMove s.dlc.departed s).1,
      abandonReport .detached s.dlc.departed s.dlc ++ ((dockMove s.dlc.departed s).2 ++
        (dockReport s.dlc.departed .detached none none none :: stepEnd))) := by
  rw [presenceDropped, if_neg h]
  simp only [Act.andThen, reportDock, emit, List.append_assoc]
  rfl

/-- The handovers of a debounced change. -/
theorem debouncedChange_signals (i : Input) (s : State) (h : rawState (s.par.polarity i) (s.sib.input i).level ≠ (s.sib.input i).asserted) :
    ∃ reps wakes, (debouncedChange i s).2 =
        reps ++ (deliverSwitch i (rawState (s.par.polarity i) (s.sib.input i).level) ++ wakes) ∧
      (∀ g ∈ reps, g.kind = Kind.report ∧ g.isUpstream = true) ∧ reps.length ≤ 1 ∧ (∀ g ∈ wakes, g.kind = Kind.pscWake) ∧
      (s.awake = true → wakes = []) := by
  rw [debouncedChange]
  dsimp only
  rw [if_neg h]
  refine ⟨_, _, List.append_assoc .., ?_, ?_, ?_, fun ha => if_pos (by exact ha)⟩
  · split <;> simp [switchReport, Signal.kind, Signal.isUpstream]
  · split <;> simp
  · unfold switchWake
    split_ifs <;> simp [Signal.kind]

/-- The pin has a new level. -/
def State.pinned (i : Input) (high : Bool) (s : State) : State :=
  { s with sib := s.sib.setInput i { s.sib.input i with level := high } }

theorem rawChange_eq {i : Input} {high : Bool} (h : (s.sib.input i).level ≠ high) :
    rawChange i high s = rejudgeRaw i (s.pinned i high) := if_neg h

theorem rejudgeRaw_pinned (i : Input) (high : Bool) (s : State) :
    rejudgeRaw i (s.pinned i high) =
      if rawState (s.par.polarity i) high = (s.sib.input i).asserted then
        quiet { s with sib := s.sib.setInput i ⟨high, (s.sib.input i).asserted, none⟩ }
      else if s.par.debounce i = 0 then debouncedChange i (s.pinned i high)
      else quiet { s with sib := s.sib.setInput i ⟨high, (s.sib.input i).asserted, some (s.par.debounce i)⟩ } := by
  unfold rejudgeRaw State.pinned
  dsimp only
  rw [input_setInput, setInput_setInput, setInput_setInput]

/-- A presence drop in any power state. -/
theorem Ends.presenceDrop {wakes : List Signal} (h : s.dlc.state ≠ .absent) (hw : ∀ g ∈ wakes, g.kind = Kind.pscWake)
    (hq : s.ulp.queue = []) (hh : s.igt.head = .idle) :
    Ends (k + 33) (.dlcPresence false :: wakes) s fun t =>
      s.dlc.departed.Stands t.dlc ∧ t.fbf.passdown = [] ∧ t.sbu.requested = 0 ∧ t.sbu.grant = 0 ∧
        (s.ulp.lineFree = false → s.Unruled → 0 < s.par.postureDwell → Departed s t) := by
  refine Ends.step (k := k + 32) (presenceDropped_signals h) (by simp) ?_
  rw [List.append_assoc, List.append_assoc]
  have hall : Ends (k + 32) (abandonReport .detached s.dlc.departed s.dlc ++ ((dockMove s.dlc.departed s).2 ++
      ((dockReport s.dlc.departed .detached none none none :: stepEnd) ++ wakes))) (dockMove s.dlc.departed s).1 _ :=
    Ends.abandoned (k := k + 20) s.dlc.departed_rest (fun g hg => by
      rcases List.mem_append.mp hg with hg | hg
      · exact kinds_all (l := dockReport s.dlc.departed .detached none none none :: stepEnd) rfl g hg
      · rw [hw g hg]; decide) hq
  intro n hn
  obtain ⟨h1, h2, h3⟩ := hall n hn
  obtain ⟨h3, h4⟩ := h3 (.inr hh)
  refine ⟨h1, h2, h3, h4, fun hb hu hd => ?_⟩
  refine Ends.departs (k := k + 1) s.dlc.departed_rest ?_ rfl ⟨hq, hb, hu, hd, s.dlc.departed_rest⟩ (fun g hg => ?_) n hn
  · exact Bool.and_false _
  · rcases List.mem_append.mp hg with hg | hg
    · exact kinds_all (l := dockReport s.dlc.departed .detached none none none :: stepEnd) rfl g hg
    · rw [hw g hg]; decide

/-- A lid that closes forces the hinge record. -/
theorem lidCloses {r : Nat} (ha : s.awake = true) (hs : s.Still) (h0 : s.sib.lid.asserted = false)
    (hraw : rawState s.par.lidPolarity s.sib.lid.level = true) :
    Ends 1000 (debouncedChange .lid (elapse r s)).2 (debouncedChange .lid (elapse r s)).1 fun t =>
      t.hau.hinge = ⟨some 0, .hall, 0⟩ := by
  obtain ⟨reps, wakes, hl, hrep, hlen, -, hw⟩ := debouncedChange_signals .lid (elapse r s) (by
    rw [show rawState ((elapse r s).par.polarity .lid) ((elapse r s).sib.input .lid).level = true from hraw]
    exact fun h => nomatch h.trans h0)
  have hsib : (debouncedChange .lid (elapse r s)).1.sib.lid.asserted = true := by
    rw [debouncedChange_sib]
    exact hraw
  have hst : (debouncedChange .lid (elapse r s)).1.Still := by
    rw [debouncedChange_sib]
    exact hs
  have haw : (debouncedChange .lid (elapse r s)).1.awake = true := by
    rw [debouncedChange_sib]
    exact ha
  rw [hl, hw ha]
  refine Ends.le (Ends.upstreams (k := 1) (fun g hg => (hrep g hg).2) (by omega) hst fun v hv => ?_) (by omega)
  have hforced : hallForced v = some ⟨some 0, .hall, 0⟩ := if_pos (by rw [hv.sib]; exact hsib)
  have hstep : handle .hauHall v = hingeUpdate ⟨some 0, .hall, 0⟩ v := by
    change hallChange v = _
    rw [hallChange, if_pos (hv.awake.trans haw), hforced]
  refine Ends.cons (k := 0) (by simp) ?_
  rw [hstep]
  refine Ends.forced (fun g hg => ?_) ?_ ⟨(hallForced_of_sib ?_).trans hforced, hingeUpdate_hinge _ v⟩
  · rcases List.mem_append.mp hg with hg | hg
    · exact (show ∀ k ∈ [Signal.pclEval, Kind.report], k ∈ eventKinds by decide) _ (hands_hingeUpdate _ v g hg)
    · exact kinds_all (l := [Signal.spuEval .other] ++ []) rfl g hg
  · rw [(hingeUpdate_only _ v (T := [.hau]) rfl).ulp rfl]
    exact (hv.still hst).1
  · exact (hingeUpdate_only _ v (T := [.hau]) rfl).sib rfl

/-- The dock's record once time has passed. -/
def State.elapsedDlc (r : Nat) (s : State) : Dlc := (elapse r s).dlc

/-- A presence drop, from the debounced change on: the dock's end, and on a busy line the rest of it. -/
theorem presenceGoes {r : Nat} (ha : s.sib.presence.asserted = true)
    (hraw : rawState s.par.presencePolarity s.sib.presence.level = false) (hst : s.dlc.state ≠ .absent)
    (hh : s.igt.head = .idle) (hq : s.ulp.queue = []) :
    Ends 1000 (debouncedChange .presence (elapse r s)).2 (debouncedChange .presence (elapse r s)).1 fun t =>
      ((s.elapsedDlc r).departed.Stands t.dlc ∧ t.fbf.passdown = [] ∧ t.sbu.requested = 0 ∧ t.sbu.grant = 0) ∧
        (s.ulp.lineFree = false → s.Unruled → 0 < s.par.postureDwell →
          ∃ v, Quietly [.dlc, .fbf, .ulp] (debouncedChange .presence (elapse r s)).1 v ∧ Departed v t) := by
  obtain ⟨reps, wakes, hl, hrep, hlen, hwk, -⟩ := debouncedChange_signals .presence (elapse r s) (by
    rw [show rawState ((elapse r s).par.polarity .presence) ((elapse r s).sib.input .presence).level = false from hraw]
    exact fun h => nomatch h.trans ha)
  have hdel : deliverSwitch .presence (rawState ((elapse r s).par.polarity .presence) ((elapse r s).sib.input .presence).level) =
      [.dlcPresence false] := congrArg (fun b => [Signal.dlcPresence b]) hraw
  rw [hdel] at hl
  have hx : Only [.sib] (elapse r s) (debouncedChange .presence (elapse r s)).1 := by rw [debouncedChange_sib]; rfl
  have hxq : (debouncedChange .presence (elapse r s)).1.ulp.queue = [] := by rw [hx.ulp rfl]; exact hq
  have hxh : (debouncedChange .presence (elapse r s)).1.igt.head = .idle := by rw [hx.igt rfl]; exact hh
  have hxd := hx.dlc rfl
  rw [hl]
  have hdock : Ends 1000 (reps ++ ([.dlcPresence false] ++ wakes)) (debouncedChange .presence (elapse r s)).1 fun t =>
      (s.elapsedDlc r).departed.Stands t.dlc ∧ t.fbf.passdown = [] ∧ t.sbu.requested = 0 ∧ t.sbu.grant = 0 := by
    refine Ends.le (Ends.upstreams (k := 33) (fun g hg => (hrep g hg).2) (by omega) ⟨hxq, .inl hxh⟩ fun v hv => ?_)
      (by omega)
    have hvd : v.dlc = s.elapsedDlc r := hv.dlc.trans hxd
    refine Ends.mono (Ends.presenceDrop (k := 0) ?_ hwk (hv.queue.trans hxq) (hv.head hxh)) fun t ht => ?_
    · rw [hvd]; exact hst
    · obtain ⟨h1, h2, h3, h4, -⟩ := ht
      rw [hvd] at h1
      exact ⟨h1, h2, h3, h4⟩
  have hline : s.ulp.lineFree = false → s.Unruled → 0 < s.par.postureDwell →
      Ends 1000 (reps ++ ([.dlcPresence false] ++ wakes)) (debouncedChange .presence (elapse r s)).1 fun t =>
        ∃ v, Quietly [.dlc, .fbf, .ulp] (debouncedChange .presence (elapse r s)).1 v ∧ Departed v t := by
    intro hb hu hd
    refine Ends.le (Ends.leaves (k := 33) (fun g hg => by rw [(hrep g hg).1]; decide) (by rw [hx.ulp rfl]; exact hb)
      fun v hv => ?_) (show 33 + 3 * reps.length ≤ 1000 by omega)
    refine Ends.mono (Ends.presenceDrop (k := 0) ?_ hwk (hv.queue.trans hxq) ?_) fun t ht => ?_
    · rw [hv.dlc.state, hxd]; exact hst
    · rw [hv.only.igt rfl]; exact hxh
    · obtain ⟨-, -, -, -, h5⟩ := ht
      refine ⟨v, hv, h5 ?_ ?_ ?_⟩
      · rw [hv.lineFree, hx.ulp rfl]; exact hb
      · rw [State.Unruled, hv.only.spu rfl, hx.spu rfl]; exact hu
      · rw [hv.only.par rfl, hx.par rfl]; exact hd
  exact fun n hn => ⟨hdock n hn, fun hb hu hd => hline hb hu hd n hn⟩

/-- Settles O26: a raw change is judged at once; a debounced change forces the hinge record or takes the dock to ABSENT, and
what follows keeps both. -/
theorem switchInputsAreDebounced : Obligations.SwitchInputsAreDebounced := by
  refine ⟨fun i high s => ⟨fun h => ?same, fun h hd => ?run, fun h hd hq => ?once⟩, fun i r s hr hq => ?expiry,
    fun r s hr ha hraw hst hh hq => ?drop⟩
  case same => exact (congrArg finish (if_pos h)).trans (finish_quiet s)
  case run =>
    refine (congrArg finish ((rawChange_eq h).trans (rejudgeRaw_pinned i high s))).trans ?_
    rw [if_neg (show ¬ s.par.debounce i = 0 by omega)]
    split <;> exact finish_quiet _
  case once =>
    have he : exec (.rawChange i high) s = finish (rejudgeRaw i (s.pinned i high)) := congrArg finish (rawChange_eq h)
    rw [rejudgeRaw_pinned, if_pos hd] at he
    by_cases hraw : rawState (s.par.polarity i) high = (s.sib.input i).asserted
    · rw [if_pos hraw] at he
      exact ⟨_, he.trans (finish_quiet _), by rw [hraw]⟩
    · rw [if_neg hraw] at he
      have hk : Act.Hands eventKinds (debouncedChange i (s.pinned i high)) := by
        have := hands_core (c := .rawChange i high) rfl s
        rwa [show (Instr.rawChange i high).core s = rejudgeRaw i (s.pinned i high) from rawChange_eq h, rejudgeRaw_pinned,
          if_neg hraw, if_pos hd] at this
      have hsib := debouncedChange_sib i (s.pinned i high)
      obtain ⟨t, ht, -, hs, -⟩ := exec_ends he (Ends.sameConfig (s₀ := (debouncedChange i (s.pinned i high)).1) hk
        (by rw [hsib]; exact hq) (State.SameConfig.refl _))
      refine ⟨t, ht, hs.trans ?_⟩
      rw [hsib]
      unfold State.pinned
      dsimp only
      rw [input_setInput, setInput_setInput]
  case expiry =>
    obtain ⟨t, ht, hQ, hc, hs, hm⟩ := exec_event_sib (c := .debounceExpiry i) (s := s) (u := elapse r s)
      (a := debouncedChange i (elapse r s)) rfl (State.SameConfig.refl s) hq (finish_expiry hr) rfl
      (Q := fun t => i = .lid ∧ s.awake = true ∧ s.Still ∧ s.sib.lid.asserted = false ∧
        rawState s.par.lidPolarity s.sib.lid.level = true → t.hau.hinge = ⟨some 0, .hall, 0⟩)
      fun n hn ⟨h1, h2, h3, h4, h5⟩ => by subst h1; exact lidCloses h2 h3 h4 h5 n hn
    refine ⟨t, ht, ?_, hc, ?_, fun h1 h2 h3 h4 h5 => hQ ⟨h1, h2, ⟨hq, h3⟩, h4, h5⟩⟩
    · rw [hs, debouncedChange_sib]
      have hpass : (elapse r s).sib.input i = { s.sib.input i with run := (s.sib.input i).run.pass r } := input_pass s.sib r i
      rw [hpass]
      rfl
    · rw [hm, debouncedChange_sib]
      rfl
  case drop =>
    obtain ⟨t, ht, ⟨hQ, hdep⟩, hc, -, -⟩ := exec_event_sib (c := .debounceExpiry .presence) (s := s) (u := elapse r s)
      (a := debouncedChange .presence (elapse r s)) rfl (State.SameConfig.refl s) hq (finish_expiry hr) rfl
      (presenceGoes ha hraw hst hh hq)
    obtain ⟨hd, hpass, hreq, hgrant⟩ := hQ
    have hfix := (s.elapsedDlc r).departed_rest.fixed
    refine ⟨t, ht, hd.state, hd.recov, hd.step, hd.walk, hd.request.elim id id, hd.settle, hd.ready hfix, hd.slot hfix,
      hd.slotTimer hfix, by rw [hd.same hfix]; rfl, by rw [hd.same hfix]; rfl, by rw [hd.same hfix]; rfl, hd.missed,
      hd.run.elim id id, hd.cause, hd.base, hd.basePower, hreq, hgrant, hpass, hc, fun h1 h2 h3 => ?_⟩
    obtain ⟨v, hv, hcond, hbase, hi, hhold, hin⟩ := hdep h3 h2 h1
    have hawake : v.awake = s.awake := by rw [State.awake, hv.only.psc rfl, debouncedChange_sib]; rfl
    have hstate : v.dlc.state = s.dlc.state := by rw [hv.dlc.state, debouncedChange_sib]; rfl
    have hvi : v.igt = (elapse r s).igt := by rw [hv.only.igt rfl, debouncedChange_sib]
    have hvin : v.fbf.input = s.fbf.input := by rw [hv.input, debouncedChange_sib]; rfl
    have hvh : v.fbf.hold = s.fbf.hold := by rw [hv.hold, debouncedChange_sib]; rfl
    have hvm : v.fbf.map = s.fbf.map := by rw [hv.map, debouncedChange_sib]; rfl
    have hfree : v.fbf.inputFree = s.fbf.inputFree := by rw [Fbf.inputFree, Fbf.inputFree, hvin, hvm]
    rw [hstate] at hi hhold hin
    refine ⟨fun h => hcond (hawake.trans h), hbase, fun hdel => ?_, fun hdel => ?_⟩
    · rw [hdel] at hi hhold hin
      exact ⟨hi.trans hvi, hhold.trans hvh, hin.trans hvin⟩
    · rw [if_pos hdel] at hi hhold hin
      have howed : v.igt.owed = s.igt.owed := by rw [hvi]; rfl
      have hkeys : v.igt.keys = s.igt.keys := by rw [hvi]; rfl
      have hgate := fun n (hn : n = min v.igt.owed.length (v.fbf.inputFree / 6)) => gateDeparture_queued (s := v) rfl hn
      rw [howed, hfree, hvin, hkeys] at hgate
      obtain ⟨-, -, -, g4, g5, g6, g7⟩ := hgate _ rfl
      refine ⟨hhold.trans g4, (congrArg Igt.head hi).trans g5, (congrArg Igt.displaced hi).trans g6,
        (congrArg Igt.expired hi).trans g7, fun owed ho n hn => ?_⟩
      subst ho
      obtain ⟨g1, g2, g3, -⟩ := hgate n hn
      exact ⟨hin.trans g1, (congrArg Igt.pend hi).trans g2, (congrArg Igt.keys hi).trans g3⟩

end

end Sys2Proof.Machine
end

section
/-! SUPPORT. From DOZE to RUN within one command: the lid vector and its timer stay. -/

namespace Sys2Proof.Machine

open Sys2Proof

section
variable {s t u : State} {k n : Nat} {l m : List Signal} {Q : State → Prop}

/-! ### Classes that widen as the state moves on -/

/-- What each handover keeps, where the handovers allowed depend on the state and none that waits ceases to be allowed. -/
theorem cascade_phases (J : State → Signal → Prop) (P : State → Prop)
    (h : ∀ g s, J s g → P s →
      P (handle g s).1 ∧ (∀ x ∈ (handle g s).2, J (handle g s).1 x) ∧ ∀ x, J s x → J (handle g s).1 x) :
    ∀ n l s, (∀ g ∈ l, J s g) → P s → P (cascade n l s) := by
  intro n
  induction n with
  | zero => intro l s _ hs; exact hs
  | succ n ih =>
    intro l s hl hs
    cases l with
    | nil => simpa using hs
    | cons g rest =>
      obtain ⟨hp, hnew, hold⟩ := h g s (hl g (by simp)) hs
      refine ih _ _ (fun x hx => ?_) hp
      rcases mem_schedule.mp hx with hx | hx
      · exact hnew x hx
      · exact hold x (hl x (List.mem_cons_of_mem _ hx))

/-! ### The host wakes only -/

/-- An effect that leaves the host and hands no change of it on, or leaves it awake enough for RUN. -/
def Act.Rouses (s : State) (a : Act) : Prop :=
  a.1.spu.host = s.spu.host ∧ (∀ x ∈ a.2, x.kind ≠ Kind.pscHost) ∨ a.1.spu.host.dozes = false

theorem Act.Rouses.of_host {a : Act} (h : a.1.spu.host.dozes = false) : a.Rouses s := .inr h

theorem rouses_beginEpisode (g : Option Nat) (s : State) : Act.Rouses s (beginEpisode g s) := by
  unfold beginEpisode
  split
  · exact .inl ⟨rfl, nofun⟩
  · dsimp only
    split
    · exact .inl ⟨rfl, by simp [Signal.kind]⟩
    · exact .inl ⟨rfl, nofun⟩

theorem beginEpisode_host (g : Option Nat) (s : State) : (beginEpisode g s).1.spu.host = s.spu.host := by
  unfold beginEpisode
  split
  · rfl
  · dsimp only
    split <;> rfl

theorem rouses_spuEvaluate (t : SpuTrigger) (s : State) : Act.Rouses s (spuEvaluate t s) := by
  have hwith : ∀ c g g', Act.Rouses s ((withdraw c g s).andThen (beginEpisode g')) := fun c g g' =>
    .inr (by rw [andThen_fst, beginEpisode_host]; rfl)
  have hplain : ∀ g', Act.Rouses s ((quiet s).andThen (beginEpisode g')) := fun g' => rouses_beginEpisode g' s
  unfold spuEvaluate
  dsimp only
  split_ifs
  · exact hwith _ _ _
  · exact hplain _
  · exact hwith _ _ _
  · exact hplain _
  · exact .inl ⟨rfl, nofun⟩

theorem rouses_wakeRequest (src : WakeSource) (s : State) : Act.Rouses s (wakeRequest src s) := by
  unfold wakeRequest
  split
  · exact .inl ⟨rfl, nofun⟩
  · split
    · exact .inr rfl
    · exact .inr rfl
    · exact .inr rfl
    · exact .inr rfl
    · exact .inl ⟨rfl, nofun⟩
    · exact .inl ⟨rfl, nofun⟩

theorem rouses_spuAction (s : State) : Act.Rouses s (spuAction s) := by
  unfold spuAction
  split
  · exact .inl ⟨rfl, nofun⟩
  · split
    · exact .inl ⟨rfl, nofun⟩
    · dsimp only
      split
      · unfold adviseSleep
        split
        · exact .inr rfl
        · exact .inl ⟨rfl, nofun⟩
      · exact rouses_wakeRequest _ { s with spu := { s.spu with fired := true, dwell := none } }
      · exact .inl ⟨rfl, nofun⟩

/-! ### The two phases -/

/-- What a lid sample hands on in DOZE. -/
abbrev dozingKinds : List Signal := postureKinds ++ [.oruEval, Kind.oruCommit, .hinge, .mirror]

/-- Once RUN has been entered from DOZE, the dock's too. -/
abbrev wakingKinds : List Signal :=
  dozingKinds ++ [Kind.hauDock, .pclDock, .igtDeparture, .pscRecheck, .pscDeferred, Kind.dockLevel, Kind.grantApplied,
    Kind.dlcPowerReq, Kind.dlcBegin, .walkNext, .servePower, .pscDozeCheck]

/-- A handover allowed in DOZE, or after the entry to RUN. -/
def State.Allows (s : State) (g : Signal) : Prop :=
  g.Wakes ∧ (if s.psc.power = .run then g.kind ∈ wakingKinds else g.kind ∈ dozingKinds) ∧
    (g.kind = Kind.pscHost → s.spu.host.dozes = false)

/-- DOZE, or RUN entered from it with the host awake enough; the lid vector and its timer of the beginning. -/
structure Dozed (h : Hau) (s : State) : Prop where
  queue : s.ulp.queue = []
  power : s.psc.power = .doze ∨ s.psc.power = .run ∧ s.spu.host.dozes = false
  lid : s.hau.lid = h.lid
  timer : s.hau.sampleTimer = h.sampleTimer

theorem hingeUpdate_lid (x : Hinge) (s : State) :
    (hingeUpdate x s).1.hau.lid = s.hau.lid ∧ (hingeUpdate x s).1.hau.sampleTimer = s.hau.sampleTimer := by
  unfold hingeUpdate
  dsimp only
  split <;> exact ⟨rfl, rfl⟩

theorem hingeAtSample_lid (s : State) :
    (hingeAtSample s).1.hau.lid = s.hau.lid ∧ (hingeAtSample s).1.hau.sampleTimer = s.hau.sampleTimer := by
  unfold hingeAtSample
  split
  · exact hingeUpdate_lid _ s
  · split
    · exact ⟨rfl, rfl⟩
    · exact hingeUpdate_lid _ s

theorem hauDockNotice_lid (b : Bool) (s : State) :
    (hauDockNotice b s).1.hau.lid = s.hau.lid ∧ (hauDockNotice b s).1.hau.sampleTimer = s.hau.sampleTimer := by
  unfold hauDockNotice
  split_ifs
  · exact ⟨rfl, rfl⟩
  · exact ⟨rfl, rfl⟩
  · exact ⟨rfl, rfl⟩
  · unfold baseLost
    dsimp only
    split_ifs
    · exact hingeUpdate_lid _ { s with hau := { s.hau with cond := .absent, base := none, age := 0 } }
    · exact ⟨rfl, rfl⟩
  · exact ⟨rfl, rfl⟩

theorem mirrorSample_lid (s : State) :
    (mirrorSample s).1.hau.lid = s.hau.lid ∧ (mirrorSample s).1.hau.sampleTimer = s.hau.sampleTimer := by
  unfold mirrorSample
  repeat' split
  all_goals exact ⟨rfl, rfl⟩

/-- A change of host state from DOZE enters RUN. -/
theorem hostChanged_of_doze {old new : HostState} (hp : s.psc.power = .doze) (hn : new.dozes = false) :
    hostChanged old new s = enterRunFromDoze s := by
  unfold hostChanged
  rw [hp]
  exact if_neg (by rw [hn]; simp)

theorem enterRunFromDoze_power (s : State) : (enterRunFromDoze s).1.psc.power = .run := by
  have ho := orientResume_only { s with psc := { s.psc with power := .run, standby := none, deferred := false } } (T := [.oru]) rfl
  exact congrArg Psc.power (ho.psc rfl)

theorem rouses_handle {g : Signal} (hg : g.kind ∈ wakingKinds) (hq : s.ulp.queue = []) : Act.Rouses s (handle g s) := by
  by_cases hb : g.idleBlocks.contains .spu = false ∧ g.kind.idleFollows.contains Kind.pscHost = false
  · obtain ⟨hb, hf⟩ := hb
    refine .inl ⟨congrArg Spu.host ((handle_idleBlocks hq).spu hb), fun x hx h => ?_⟩
    have := handle_idleFollows hq x hx
    rw [h, ← idleFollows_kind, ← List.contains_iff_mem, hf] at this
    exact nomatch this
  cases g
  case spuEval t => exact rouses_spuEvaluate t s
  case spuAction => exact rouses_spuAction s
  case wakeRequest src => exact rouses_wakeRequest src s
  case report r f =>
    by_cases hr : r = .forceCut
    · simp [Signal.kind, hr] at hg
    · refine (hb ⟨rfl, ?_⟩).elim
      rw [show (Signal.report r f).kind = Kind.report by simp [Signal.kind, hr]]
      rfl
  all_goals first
    | exact (hb ⟨rfl, rfl⟩).elim
    | simp [Signal.kind] at hg

/-- The lid vector and its timer in DOZE and RUN. -/
theorem lid_handle {g : Signal} (hg : g.kind ∈ wakingKinds) (hw : g.Wakes) (hq : s.ulp.queue = [])
    (hp : s.psc.power = .doze ∧ g.kind ∈ dozingKinds ∨ s.psc.power = .run) :
    (handle g s).1.hau.lid = s.hau.lid ∧ (handle g s).1.hau.sampleTimer = s.hau.sampleTimer := by
  have hsame : (handle g s).1.hau = s.hau → (handle g s).1.hau.lid = s.hau.lid ∧
      (handle g s).1.hau.sampleTimer = s.hau.sampleTimer := fun h => by rw [h]; exact ⟨rfl, rfl⟩
  by_cases hb : g.idleBlocks.contains .hau = false
  · exact hsame ((handle_idleBlocks hq).hau hb)
  cases g
  case hinge => exact hingeAtSample_lid s
  case hauDock b => exact hauDockNotice_lid b s
  case mirror => exact mirrorSample_lid s
  case pscHost old new =>
    rcases hp with ⟨hp, -⟩ | hp
    · refine hsame ?_
      rw [handle, hostChanged_of_doze hp (hw old new rfl)]
      exact (enterRunFromDoze_only s (T := [.oru, .sbu, .pcc, .psc]) rfl).hau rfl
    · refine hsame ?_
      rw [handle, hostChanged_of_run hp (hw old new rfl)]
      rfl
  case pscRecheck =>
    rcases hp with ⟨-, hp⟩ | hp
    · simp [Signal.kind] at hp
    · exact hsame (by rw [handle, standbyRecheck_of_run hp]; rfl)
  case pscDeferred =>
    rcases hp with ⟨-, hp⟩ | hp
    · simp [Signal.kind] at hp
    · exact hsame (by rw [handle, deferredRecheck_of_run hp]; rfl)
  case report r f => by_cases hr : r = .forceCut <;> exact (hb rfl).elim
  all_goals first
    | exact (hb rfl).elim
    | simp [Signal.kind] at hg

theorem dozeCheck_of_awake (h : s.spu.host.dozes = false) : dozeCheck s = quiet s := if_neg fun hc => by rw [h] at hc; exact nomatch hc.2.1

theorem mem_waking_of_dozing {g : Signal} (h : g ∈ dozingKinds) : g ∈ wakingKinds := List.mem_append_left _ h

/-- The power state, and what is handed on. -/
theorem power_handle {g : Signal} (hw : g.Wakes) (hq : s.ulp.queue = [])
    (hp : s.psc.power = .doze ∧ g.kind ∈ dozingKinds ∨
      s.psc.power = .run ∧ s.spu.host.dozes = false ∧ g.kind ∈ wakingKinds) :
    (s.psc.power = .run → (handle g s).1.psc.power = .run) ∧
      ((handle g s).1.psc.power = .doze ∧ (∀ x ∈ (handle g s).2, x.kind ∈ dozingKinds) ∨
        (handle g s).1.psc.power = .run ∧ (∀ x ∈ (handle g s).2, x.kind ∈ wakingKinds) ∧
          (s.psc.power = .doze → g.kind = Kind.pscHost)) := by
  rcases hp with ⟨hp, hg⟩ | ⟨hp, hdz, hg⟩
  · refine ⟨fun h => (nomatch hp.symm.trans h), ?_⟩
    by_cases hk : g.kind = Kind.pscHost
    · obtain ⟨old, new, rfl⟩ := eq_pscHost_of_kind hk
      rw [handle, hostChanged_of_doze hp (hw old new rfl)]
      exact .inr ⟨enterRunFromDoze_power s, fun x hx =>
        (show ∀ k ∈ [Kind.oruCommit, Kind.report, Kind.dlcPowerReq, .pscDozeCheck], k ∈ wakingKinds by decide) _
          (((hands_enterRunFromDoze s).mono (by simp)) x hx), fun _ => hk⟩
    · refine .inl ⟨?_, fun x hx => ?_⟩
      · have := List.all_eq_true.mp (show (dozingKinds.all fun k => decide (k = Kind.pscHost) || !k.idleBlocks.contains .psc) = true by
          decide) _ hg
        rw [Bool.or_eq_true, decide_eq_true_eq, Bool.not_eq_true', idleBlocks_kind] at this
        rw [(handle_idleBlocks hq).psc (this.resolve_left hk), hp]
      · have := List.all_eq_true.mp (show (dozingKinds.all fun k => decide (k = Kind.pscHost) ||
          k.idleFollows.all dozingKinds.contains) = true by decide) _ hg
        rw [Bool.or_eq_true, decide_eq_true_eq, idleFollows_kind] at this
        exact List.contains_iff_mem.mp (List.all_eq_true.mp (this.resolve_left hk) _ (handle_idleFollows hq x hx))
  · by_cases hk : g.kind = .pscDozeCheck
    · obtain rfl : g = .pscDozeCheck := by
        cases g
        case report r f => by_cases hr : r = .forceCut <;> simp [Signal.kind, hr] at hk
        all_goals simp [Signal.kind] at hk ⊢
      rw [handle, dozeCheck_of_awake hdz]
      exact ⟨fun h => h, .inr ⟨hp, nofun, fun h => nomatch hp.symm.trans h⟩⟩
    · have hstay : (handle g s).1.psc.power = .run := by
        by_cases hh : g.kind = Kind.pscHost
        · obtain ⟨old, new, rfl⟩ := eq_pscHost_of_kind hh
          rw [handle, hostChanged_of_run hp (hw old new rfl)]
          exact hp
        · have := List.all_eq_true.mp (show (wakingKinds.all fun k => decide (k = Kind.pscHost) || decide (k = .pscDozeCheck) ||
            !(k.runBlocks false).contains .psc) = true by decide) _ hg
          rw [Bool.or_eq_true, Bool.or_eq_true, decide_eq_true_eq, decide_eq_true_eq, Bool.not_eq_true', runBlocks_kind] at this
          rw [(handle_run (calm := false) hq hp hw nofun).2.psc (this.resolve_left fun h => h.elim hh hk), hp]
      refine ⟨fun _ => hstay, .inr ⟨hstay, fun x hx => ?_, fun h => nomatch hp.symm.trans h⟩⟩
      have := List.all_eq_true.mp (show (wakingKinds.all fun k => decide (k = .pscDozeCheck) ||
        (k.runFollows false).all wakingKinds.contains) = true by decide) _ hg
      rw [Bool.or_eq_true, decide_eq_true_eq, runFollows_kind] at this
      exact List.contains_iff_mem.mp (List.all_eq_true.mp (this.resolve_left hk) _ ((handle_run (calm := false) hq hp hw nofun).1 x hx))

/-- In DOZE, and after an entry to RUN from it, the lid vector and its timer stay. -/
theorem Ends.dozed (hl : ∀ g ∈ l, g.kind ∈ dozingKinds ∧ g.kind ≠ Kind.pscHost) (hq : s.ulp.queue = [])
    (hp : s.psc.power = .doze) :
    Ends k l s fun t => t.hau.lid = s.hau.lid ∧ t.hau.sampleTimer = s.hau.sampleTimer := by
  intro n _
  have key := cascade_phases State.Allows (Dozed s.hau) (fun g t ⟨hw, hk, hh⟩ ⟨hqt, hpt, h1, h2⟩ => ?_) n l s (fun g hg => ?_)
    ⟨hq, .inl hp, rfl, rfl⟩
  · exact ⟨key.lid, key.timer⟩
  · have hcase : t.psc.power = .doze ∧ g.kind ∈ dozingKinds ∨
        t.psc.power = .run ∧ t.spu.host.dozes = false ∧ g.kind ∈ wakingKinds := by
      rcases hpt with h | ⟨h, hd⟩
      · rw [if_neg (by rw [h]; simp)] at hk; exact .inl ⟨h, hk⟩
      · rw [if_pos h] at hk; exact .inr ⟨h, hd, hk⟩
    have hgk : g.kind ∈ wakingKinds := hcase.elim (fun h => mem_waking_of_dozing h.2) fun h => h.2.2
    have hrec : g.kind ≠ Kind.received := fun e => by rw [e] at hgk; simp at hgk
    obtain ⟨hstay, hpow⟩ := power_handle hw hqt hcase
    obtain ⟨l1, l2⟩ := lid_handle hgk hw hqt (hcase.imp id fun h => h.1)
    have hr := rouses_handle hgk hqt
    have hawake : t.spu.host.dozes = false → (handle g t).1.spu.host.dozes = false := fun h => by
      rcases hr with hr | hr
      · rw [hr.1]; exact h
      · exact hr
    refine ⟨⟨handle_queue hrec hqt, ?_, l1.trans h1, l2.trans h2⟩, fun x hx => ⟨handle_wakes hqt hrec x hx, ?_, fun hx' => ?_⟩,
      fun x ⟨xw, xk, xh⟩ => ⟨xw, ?_, fun h => hawake (xh h)⟩⟩
    · rcases hpow with ⟨h, -⟩ | ⟨h, -, hh'⟩
      · exact .inl h
      · refine .inr ⟨h, hawake ?_⟩
        rcases hpt with hd | ⟨-, hd⟩
        · exact hh (hh' hd)
        · exact hd
    · rcases hpow with ⟨h, hk'⟩ | ⟨h, hk', -⟩
      · rw [if_neg (by rw [h]; simp)]; exact hk' x hx
      · rw [if_pos h]; exact hk' x hx
    · rcases hr with ⟨-, hr⟩ | hr
      · exact (hr x hx hx').elim
      · exact hr
    · by_cases ht : t.psc.power = .run
      · rw [if_pos (hstay ht)]; rw [if_pos ht] at xk; exact xk
      · rw [if_neg ht] at xk
        split
        · exact mem_waking_of_dozing xk
        · exact xk
  · obtain ⟨h1, h2⟩ := hl g hg
    exact ⟨wakes_of_kind h2, by rw [if_neg (by rw [hp]; simp)]; exact h1, fun h => (h2 h).elim⟩

end

end Sys2Proof.Machine
end

section
/-! PROOFS. A lid sample and what it moves; the commit of an orientation and of a posture over an empty Hold area. -/

namespace Sys2Proof.Machine

open Sys2Proof

section
variable {s t u : State} {k : Nat} {l : List Signal} {Q : State → Prop}

/-! ### A commit over an empty Hold area, with no sleep rule -/

/-- `t` is `s` after orientations or postures were committed: nothing is held, the base condition and the Passdown area stay. -/
structure Posed (s t : State) : Prop where
  only : Only [.oru, .pcl, .igt, .fbf, .ulp] s t
  hold : t.fbf.hold = []
  cond : t.pcl.cond = s.pcl.cond
  passdown : t.fbf.passdown = s.fbf.passdown
  queue : t.ulp.queue = s.ulp.queue

theorem Posed.refl (h : s.fbf.hold = []) : Posed s s := ⟨Only.refl _ _, h, rfl, rfl, rfl⟩

theorem Posed.trans (h : Posed s t) (h' : Posed t u) : Posed s u :=
  ⟨h.only.trans h'.only, h'.hold, h'.cond.trans h.cond, h'.passdown.trans h.passdown, h'.queue.trans h.queue⟩

theorem Posed.of_upstream (h : s.fbf.hold = []) (hu : Upstream s t) : Posed s t :=
  ⟨hu.only.mono rfl, hu.hold.trans h, by rw [hu.pcl], hu.passdown, hu.queue⟩

theorem Posed.still (h : Posed s t) (hq : s.ulp.queue = []) : t.Still := ⟨h.queue.trans hq, .inr h.hold⟩

theorem Posed.unruled (h : Posed s t) (hu : s.Unruled) : t.Unruled := by
  rw [State.Unruled, h.only.spu rfl]
  exact hu

/-- A committed posture. -/
def State.posed (c : Nat) (s : State) : State :=
  { s with pcl := { s.pcl with code := c, row := s.pcl.candRow, stamp := s.ms, dwell := none, restart := none } }

theorem postureCommit_of_cand {c : Nat} (h : s.pcl.cand = some c) :
    postureCommit s = (s.posed c, [postureReport s.pcl.code (s.posed c), .igtCommit c, .spuEval .other]) := by
  rw [postureCommit, h]
  rfl

theorem synthesize_upstream (h : s.fbf.hold = []) : Posed s (synthesize s) := by
  have hhold : ({ s with igt := s.igt.markAll }.setHold
      (s.fbf.hold.filter fun f => !(f.loneRelease && f.decided))).fbf.hold = [] := by
    rw [h]
    rfl
  refine ⟨(synthesize_only s (T := [.igt, .fbf]) rfl).mono rfl, ?_, ?_, passdown_queuePending _ _, ?_⟩
  · exact (upstream_queuePending _ _ rfl).hold.trans hhold
  · rw [(synthesize_only s (T := [.igt, .fbf]) rfl).pcl rfl]
  · rw [(synthesize_only s (T := [.igt, .fbf]) rfl).ulp rfl]

/-- The gate at a commit over an empty Hold area: synthesis at most, then a rescan that ends at once. -/
theorem Ends.gateCommitted {c : Nat} (hold : s.fbf.hold = []) (hq : s.ulp.queue = [])
    (h : ∀ t, Posed s t → Ends k l t Q) : Ends (k + 15) (.igtCommit c :: l) s Q := by
  have hrescan : ∀ t, Posed s t → Ends (k + 2) (.headStep :: l) (startHead .rescan t).1 Q := fun t ht =>
    Ends.headStep_empty (p := .rescan) (s := (startHead .rescan t).1) ht.hold rfl (h _ (ht.trans
      ⟨rfl, ht.hold, rfl, rfl, rfl⟩))
  have hcheck : ∀ b t, Posed s t → Ends (k + 1) (.holdCheck b :: l) t Q := fun b t ht =>
    Ends.step (t := { t with igt := { t.igt with displaced := false, expired := false } }) (new := [])
      (by simp only [handle, holdCheck, ht.hold, quiet]) (by simp)
      (h _ (ht.trans ⟨rfl, ht.hold, rfl, rfl, rfl⟩))
  have h0 : Posed s { s with igt := { s.igt with missing := false } } := ⟨rfl, hold, rfl, rfl, rfl⟩
  have h1 : Posed s (synthesize { s with igt := { s.igt with missing := false } }) := h0.trans (synthesize_upstream hold)
  have hstart : ∀ t, Posed s t → Posed s (startHead .rescan t).1 := fun t ht =>
    ht.trans ⟨rfl, ht.hold, rfl, rfl, rfl⟩
  by_cases hr : (s.igt.dir.getD c defaultDir).releaseOnEntry = true <;>
    by_cases hp : (s.igt.dir.getD c defaultDir).present = true
  · refine Ends.le (Ends.step (k := k + 2 + 11) (t := (startHead .rescan (synthesize { s with igt := { s.igt with missing := false } })).1)
      (new := [.arbiter, .headStep]) ?_ (by simp) ?_) (by omega)
    · simp only [handle, gateCommit, hr, hp, if_true]; rfl
    · have hs := hstart _ h1
      refine Ends.upstream (g := .arbiter) rfl (hs.still hq) fun t ht => ?_
      exact Ends.headStep_empty (p := .rescan) (ht.hold.trans hs.hold) (ht.proc rfl) (h _
        ((hs.trans (.of_upstream hs.hold ht)).trans ⟨rfl, ht.hold.trans hs.hold, rfl, rfl, rfl⟩))
  · refine Ends.le (Ends.step (k := k + 1 + 11) (t := synthesize { s with igt := { s.igt with missing := false } })
      (new := .arbiter :: [.holdCheck (match s.fbf.hold with | [] => false | f :: _ => f.loneRelease && f.decided)]) ?_ (by simp) ?_)
      (by omega)
    · simp only [handle, gateCommit, hr, if_true, hp]; rfl
    · exact Ends.upstream (g := .arbiter) rfl (h1.still hq) fun t ht => hcheck _ t (h1.trans (.of_upstream h1.hold ht))
  · refine Ends.le (Ends.step (k := k + 2) (t := (startHead .rescan { s with igt := { s.igt with missing := false } }).1)
      (new := [.headStep]) ?_ (by simp) (hrescan _ h0)) (by omega)
    simp only [handle, gateCommit, hr, hp, if_true]; rfl
  · refine Ends.le (Ends.step (k := k) (t := { s with igt := { s.igt with missing := false } }) (new := []) ?_ (by simp) (h _ h0))
      (by omega)
    simp only [handle, gateCommit, hr, hp]; rfl

/-- An evaluation of the posture in RUN or DOZE over an empty Hold area, up to the evaluation of the rules that a commit triggers. -/
theorem Ends.posturedThen (hold : s.fbf.hold = []) (hq : s.ulp.queue = []) (h : ∀ t, Posed s t → Ends k l t Q)
    (h' : ∀ t, Posed s t → Ends k (.spuEval .other :: l) t Q) : Ends (k + 28) (.pclEval :: l) s Q := by
  have hset : ∀ c, (s.pcl.settled s.par.postureDwell c).1.cond = s.pcl.cond := by
    intro c
    unfold Pcl.settled
    dsimp only
    split_ifs <;> rfl
  by_cases ha : s.awake = true
  · have h1 : ∀ c, Posed s { s with pcl := (s.pcl.settled s.par.postureDwell c).1 } := fun c => ⟨rfl, hold, hset c, rfl, rfl⟩
    have he : handle .pclEval s = postureChoose s := if_pos ha
    cases hc : (s.pcl.settled s.par.postureDwell (choosePosture s)).2
    · refine Ends.le (Ends.step (k := k) (new := []) (he.trans ?_) (by simp) (h _ (h1 (choosePosture s)))) (by omega)
      simp only [postureChoose, hc]
      rfl
    · refine Ends.step (k := k + 27) (new := [.pclCommit]) (t := { s with pcl := (s.pcl.settled s.par.postureDwell (choosePosture s)).1 })
        (he.trans ?_) (by simp) ?_
      · simp only [postureChoose, hc]
        rfl
      have hs1 := h1 (choosePosture s)
      cases hcand : (s.pcl.settled s.par.postureDwell (choosePosture s)).1.cand with
      | none =>
        refine Ends.le (Ends.skip (k := k) ?_ (by simp) (h _ hs1)) (by omega)
        simp only [handle, postureCommit, hcand]
      | some c =>
        refine Ends.le (Ends.step (k := k + 26) (postureCommit_of_cand hcand) (by simp) ?_) (by omega)
        have hs2 : Posed s (State.posed c { s with pcl := (s.pcl.settled s.par.postureDwell (choosePosture s)).1 }) :=
          hs1.trans ⟨rfl, hold, rfl, rfl, rfl⟩
        refine Ends.upstream (k := k + 15) rfl (hs2.still hq) fun v hv => ?_
        have hs3 := hs2.trans (.of_upstream hs2.hold hv)
        exact Ends.gateCommitted (k := k) hs3.hold (hs3.queue.trans hq) fun w hw => h' _ (hs3.trans hw)
  · exact Ends.le (Ends.skip (k := k) (if_neg ha) (by simp) (h s (.refl hold))) (by omega)

/-- An evaluation of the posture in RUN or DOZE over an empty Hold area, with no sleep rule. -/
theorem Ends.postured (hold : s.fbf.hold = []) (hq : s.ulp.queue = []) (hu : s.Unruled)
    (h : ∀ t, Posed s t → Ends k l t Q) : Ends (k + 29) (.pclEval :: l) s Q :=
  Ends.posturedThen (k := k + 1) hold hq (fun t ht => Ends.le (h t ht) (by omega)) fun t ht =>
    Ends.spuEval_unruled (ht.unruled hu) (h t ht)

/-! ### The orientation of a lid sample -/

theorem evaluated_of_dwell {p : Params} {b : Bool} (v : Vec) (o : Oru) (h : b = false ∨ 0 < p.orientDwell) :
    (o.evaluated p b v).2 = false := by
  unfold Oru.evaluated
  dsimp only
  by_cases hr : o.lock = true ∨ (!b) = true
  · rw [if_pos hr]
    split_ifs <;> rfl
  · have hd : ¬ p.orientDwell = 0 := fun h0 => h.elim (fun h => hr (.inr (by rw [h]; rfl))) (by omega)
    rw [if_neg hr, if_neg hd]
    split_ifs <;> rfl

/-- The record takes the sample's orientation; a commit follows at once with a dwell of 0 in RUN only. -/
theorem orientEvaluate_cases (s : State) :
    ∃ o, orientEvaluate s = quiet { s with oru := o } ∨
      s.psc.power = .run ∧ s.par.orientDwell = 0 ∧ orientEvaluate s = ({ s with oru := o }, [.oruCommit false]) := by
  cases hl : s.hau.lid with
  | none => exact ⟨s.oru, .inl (by rw [orientEvaluate, hl])⟩
  | some v =>
    have he : orientEvaluate s = ({ s with oru := (s.oru.evaluated s.par (s.psc.power == .run) v).1 },
        if (s.oru.evaluated s.par (s.psc.power == .run) v).2 then [.oruCommit false] else []) := by
      rw [orientEvaluate, hl]
    by_cases hd : (s.psc.power == .run) = false ∨ 0 < s.par.orientDwell
    · refine ⟨(s.oru.evaluated s.par (s.psc.power == .run) v).1, .inl (he.trans ?_)⟩
      rw [evaluated_of_dwell v s.oru hd]
      rfl
    · obtain ⟨h1, h2⟩ := not_or.mp hd
      refine ⟨(s.oru.evaluated s.par (s.psc.power == .run) v).1, ?_⟩
      cases h3 : (s.oru.evaluated s.par (s.psc.power == .run) v).2
      · exact .inl (he.trans (by rw [h3]; rfl))
      · exact .inr ⟨by simpa using h1, by omega, he.trans (by rw [h3]; rfl)⟩

/-- The commit of an orientation over an empty Hold area, with no sleep rule. -/
theorem Ends.oriented {b : Bool} (hold : s.fbf.hold = []) (hq : s.ulp.queue = []) (hu : s.Unruled)
    (h : ∀ t, Posed s t → Ends k l t Q) : Ends (k + 41) (.oruCommit b :: l) s Q := by
  cases hc : s.oru.candidate with
  | none => exact Ends.le (Ends.skip (k := k) (by rw [handle, orientCommit, hc]) (by simp) (h s (.refl hold))) (by omega)
  | some c =>
    have hs : Posed s { s with oru := { s.oru with committed := c, dwell := none } } := ⟨rfl, hold, rfl, rfl, rfl⟩
    have heval : ∀ t, Posed s t → Ends (k + 29) (.pclEval :: l) t Q := fun t ht =>
      Ends.postured ht.hold (ht.queue.trans hq) (ht.unruled hu) fun u hu => h u (ht.trans hu)
    by_cases hl : s.oru.lock = true
    · refine Ends.le (Ends.step (k := k + 29) (t := { s with oru := { s.oru with committed := c, dwell := none } })
        (new := [.pclEval]) ?_ (by simp) (heval _ hs)) (by omega)
      simp only [handle, orientCommit, hc, hl, if_true]
      rfl
    · refine Ends.step (k := k + 29 + 11) (t := { s with oru := { s.oru with committed := c, dwell := none } })
        (new := [orientReport s.oru.committed (if b then .unlock else .dwell) { s.oru with committed := c, dwell := none }, .pclEval])
        ?_ (by simp) ?_
      · simp only [handle, orientCommit, hc, if_neg hl]
        rfl
      · exact Ends.upstream rfl (hs.still hq) fun t ht => heval t (hs.trans (.of_upstream hs.hold ht))

/-- The orientation of a lid sample is stepped over. -/
theorem Ends.orientSampled (hq : s.ulp.queue = [])
    (hd : s.psc.power = .doze ∨ 0 < s.par.orientDwell ∨ s.fbf.hold = [] ∧ s.Unruled)
    (h : ∀ t, Only [.oru, .pcl, .igt, .fbf, .ulp] s t → t.ulp.queue = [] → (s.psc.power = .doze → t.igt = s.igt) → Ends k l t Q) :
    Ends (k + 42) (.oruEval :: l) s Q := by
  obtain ⟨o, he | ⟨hp, h0, he⟩⟩ := orientEvaluate_cases s
  · exact Ends.le (Ends.step (k := k) he (by simp) (h _ rfl hq fun _ => rfl)) (by omega)
  · have hempty : s.fbf.hold = [] ∧ s.Unruled := (hd.resolve_left (by rw [hp]; simp)).resolve_left (by omega)
    refine Ends.step (k := k + 41) he (by simp) ?_
    exact Ends.oriented (by exact hempty.1) (by exact hq) (by exact hempty.2) fun t ht =>
      h t (Only.trans (t := { s with oru := o }) rfl ht.only) (ht.queue.trans hq) fun hdz =>
        (nomatch hp.symm.trans hdz)

/-! ### The hinge record of a lid sample -/

/-- The hinge record after a lid sample. -/
def State.hinged (s : State) : Hinge :=
  (hallForced s).getD (if s.hau.cond = .absent then s.hau.hinge else s.hau.hinge.next s.par.holdLimit (hingeSample s))

theorem hinged_congr (hs : t.sib = s.sib) (hh : t.hau = s.hau) (hp : t.par = s.par) : t.hinged = s.hinged := by
  have hsample : hingeSample t = hingeSample s := by rw [hingeSample, hingeSample, hh, hp]
  rw [State.hinged, State.hinged, hallForced_of_sib hs, hsample, hh, hp]

/-- What a lid sample does with the hinge record. -/
theorem hingeAtSample_cases (s : State) :
    hingeAtSample s = (s, [.mirror]) ∧ s.hau.hinge = s.hinged ∨
      hingeAtSample s = (hingeUpdate s.hinged s).andThen fun s => (s, [.mirror]) := by
  unfold hingeAtSample State.hinged
  cases hallForced s with
  | some h => exact .inr rfl
  | none =>
    by_cases hc : s.hau.cond = .absent
    · rw [if_pos hc]
      simp only [Option.getD_none, if_pos hc]
      exact .inl ⟨trivial, trivial⟩
    · rw [if_neg hc]
      simp only [Option.getD_none, if_neg hc]
      exact .inr trivial

theorem hingeAtSample_hinge (s : State) : (hingeAtSample s).1.hau.hinge = s.hinged := by
  rcases hingeAtSample_cases s with ⟨he, hh⟩ | he
  · rw [he]; exact hh
  · rw [he]; exact hingeUpdate_hinge _ s

/-- What follows the hinge record in RUN leaves it. -/
theorem Ends.hingedRun (hq : s.ulp.queue = []) (hp : s.psc.power = .run) :
    Ends (k + 1) [.hinge] s fun t => t.hau.hinge = s.hinged := by
  refine Ends.cons (by simp) (Ends.mono (Ends.runKeeps (postureKinds ++ [Signal.mirror]) (fun t => t.hau.hinge = s.hinged) (by decide)
    (fun g t hg hw hqt hpt ht => ?_) (fun g t hg _ _ _ => .inl ?_) (fun g hg => ?_) ?_ ?_ (hingeAtSample_hinge s)) fun _ ht => ht.1)
  · by_cases hb : (g.runBlocks false).contains .hau = false
    · rw [(handle_run (calm := false) hqt hpt hw nofun).2.hau hb, ht]
    cases g
    case mirror => exact (mirrorSample_hinge t).trans ht
    case report r f => by_cases hr : r = .forceCut <;> exact (hb rfl).elim
    all_goals first
      | exact (hb rfl).elim
      | simp [Signal.kind] at hg
  · rw [← runFollows_kind]
    exact List.all_eq_true.mp (show ((postureKinds ++ [Signal.mirror]).all fun k => (k.runFollows false).all
      (postureKinds ++ [Signal.mirror]).contains) = true by decide) _ hg
  · rw [List.append_nil] at hg
    have hk := hands_hingeAtSample s g hg
    refine ⟨(show ∀ k ∈ [Signal.pclEval, Kind.report, .mirror], k ∈ postureKinds ++ [Signal.mirror] by decide) _ hk, wakes_of_kind fun e => ?_⟩
    rw [e] at hk
    simp at hk
  · rw [handle, (hingeAtSample_only s (T := [.hau]) rfl).ulp rfl]
    exact hq
  · rw [handle, (hingeAtSample_only s (T := [.hau]) rfl).psc rfl]
    exact hp

/-- The sample mirror on the line. -/
theorem Ends.mirrored {h : Hinge} (hs : s.Still) (hh : s.hau.hinge = h) :
    Ends (k + 12) [.mirror] s fun t => t.hau.hinge = h := by
  have hlast := (mirrorSample_hinge s).trans hh
  have hsig : (mirrorSample s).2 = [] ∨ (mirrorSample s).2 = [.arbiter] := by
    unfold mirrorSample
    split_ifs
    · exact .inl rfl
    · exact .inl rfl
    · exact .inr rfl
  refine Ends.cons (k := k + 11) (by simp) ?_
  rw [List.append_nil]
  have ho := mirrorSample_only s (T := [.hau, .fbf]) rfl
  rcases hsig with he | he
  · rw [handle, he]
    exact Ends.nil hlast
  · rw [handle, he]
    have hstill : (mirrorSample s).1.Still := by
      refine ⟨by rw [ho.ulp rfl]; exact hs.1, hs.2.imp (fun h => by rw [ho.igt rfl]; exact h) fun h => ?_⟩
      have hput : ∀ f : Fbf, ∀ b, (f.putMirror b).hold = f.hold := fun f b => by
        unfold Fbf.putMirror
        dsimp only
        split <;> rfl
      unfold mirrorSample
      split_ifs
      · exact h
      · exact h
      · exact (hput _ _).trans h
    exact Ends.upstream rfl hstill fun t ht => Ends.nil (by rw [ht.hau]; exact hlast)

/-- What follows the hinge record leaves it, where no posture is committed without a dwell. -/
theorem Ends.hingedStill (hs : s.Still) (hd : 0 < s.par.postureDwell) :
    Ends (k + 30) [.hinge] s fun t => t.hau.hinge = s.hinged := by
  rcases hingeAtSample_cases s with ⟨he, hh⟩ | he
  · exact Ends.le (Ends.step (k := k + 12) he (by simp) (Ends.mirrored hs hh)) (by omega)
  · have hval := hingeUpdate_hinge s.hinged s
    have ho : Only [.hau] s (hingeUpdate s.hinged s).1 := hingeUpdate_only _ s rfl
    have hstill : (hingeUpdate s.hinged s).1.Still := by
      refine ⟨by rw [ho.ulp rfl]; exact hs.1, ?_⟩
      rw [ho.igt rfl, ho.fbf rfl]
      exact hs.2
    obtain ⟨hpose, hnone⟩ := postureEvaluate_quietly (s := (hingeUpdate s.hinged s).1) (by rw [ho.par rfl]; exact hd)
    have hposed : (postureEvaluate (hingeUpdate s.hinged s).1).1.Still := by
      refine ⟨hpose.queue.trans hstill.1, ?_⟩
      rw [hpose.only.igt rfl, hpose.hold]
      exact hstill.2
    have hposedHinge : (postureEvaluate (hingeUpdate s.hinged s).1).1.hau.hinge = s.hinged := by
      rw [hpose.only.hau rfl, hval]
    have heval : handle .pclEval (hingeUpdate s.hinged s).1 = ((postureEvaluate (hingeUpdate s.hinged s).1).1, []) :=
      Prod.ext rfl hnone
    have hsig : (hingeUpdate s.hinged s).2 = [.pclEval] ∨ (hingeUpdate s.hinged s).2 = [.pclEval, angleReport s.hinged s.hau.hinge.quality] := by
      unfold hingeUpdate
      dsimp only
      split
      · exact .inr rfl
      · exact .inl rfl
    have hall : handle .hinge s = ((hingeUpdate s.hinged s).1, (hingeUpdate s.hinged s).2 ++ [.mirror]) := he
    rcases hsig with hsig | hsig
    · refine Ends.le (Ends.step (k := k + 13) (hall.trans (by rw [hsig])) (by simp) ?_) (by omega)
      exact Ends.step (k := k + 12) heval (by simp) (Ends.mirrored hposed hposedHinge)
    · refine Ends.le (Ends.step (k := k + 24) (hall.trans (by rw [hsig])) (by simp) ?_) (by omega)
      refine Ends.step (k := k + 23) heval (by simp) ?_
      exact Ends.upstream (k := k + 12) rfl hposed fun t ht => Ends.mirrored (ht.still hposed) (by rw [ht.hau]; exact hposedHinge)

/-! ### The event -/

theorem judgeStale_fields (n : Nat) (h : Hau) :
    (judgeStale n h).lid = h.lid ∧ (judgeStale n h).sampleTimer = h.sampleTimer ∧ (judgeStale n h).hinge = h.hinge ∧
      ((judgeStale n h).cond = .absent ↔ h.cond = .absent) := by
  unfold judgeStale
  split
  · next hc => exact ⟨rfl, rfl, rfl, by simp [hc.1]⟩
  · exact ⟨rfl, rfl, rfl, .rfl⟩

/-- The hinge record that a lid sample leaves. -/
theorem Ends.sampled (x y z : Int) (hq : s.ulp.queue = [])
    (h : s.psc.power = .run ∧ (0 < s.par.orientDwell ∨ s.fbf.hold = [] ∧ s.Unruled) ∨
      s.psc.power = .doze ∧ 0 < s.par.postureDwell ∧ s.igt.head = .idle) :
    Ends 1000 (takeLidSample x y z s).2 (takeLidSample x y z s).1 fun t => t.hau.hinge = (takeLidSample x y z s).1.hinged := by
  have ho : Only [.hau] s (takeLidSample x y z s).1 := takeLidSample_only x y z s rfl
  refine Ends.le (Ends.orientSampled (k := 30) (by rw [ho.ulp rfl]; exact hq) ?_ fun t ht htq hti => ?_) (by omega)
  · rw [State.Unruled, ho.spu rfl, ho.psc rfl, ho.par rfl, ho.fbf rfl]
    exact h.elim (fun h => .inr h.2) fun h => .inl h.1
  · have hhinged := hinged_congr (ht.sib rfl) (ht.hau rfl) (ht.par rfl)
    have hpow : t.psc.power = s.psc.power := by rw [ht.psc rfl, ho.psc rfl]
    rw [← hhinged]
    rcases h with ⟨hp, -⟩ | ⟨hp, hd, hh⟩
    · exact Ends.le (Ends.hingedRun (k := 29) htq (hpow.trans hp)) (by omega)
    · refine Ends.hingedStill (k := 0) ⟨htq, .inl ?_⟩ (by rw [ht.par rfl, ho.par rfl]; exact hd)
      rw [hti (by rw [ho.psc rfl]; exact hp), ho.igt rfl]
      exact hh

/-- The lid vector and its timer, which no handover of a lid sample moves. -/
theorem Ends.lidKept (ha : s.awake = true) (hq : s.ulp.queue = []) :
    Ends k [.oruEval, .hinge] s fun t => t.hau.lid = s.hau.lid ∧ t.hau.sampleTimer = s.hau.sampleTimer := by
  by_cases hp : s.psc.power = .run
  · refine Ends.mono (Ends.runKeeps dozingKinds (fun t => t.hau.lid = s.hau.lid ∧ t.hau.sampleTimer = s.hau.sampleTimer) (by decide)
      (fun g t hg hw hqt hpt ht => ?_) (fun g t hg _ _ _ => .inl ?_) (plain_all rfl) hq hp ⟨rfl, rfl⟩) fun _ ht => ht.1
    · obtain ⟨h1, h2⟩ := lid_handle (mem_waking_of_dozing hg) hw hqt (.inr hpt)
      exact ⟨h1.trans ht.1, h2.trans ht.2⟩
    · rw [← runFollows_kind]
      exact List.all_eq_true.mp (show (dozingKinds.all fun k => (k.runFollows false).all dozingKinds.contains) = true by decide) _ hg
  · refine Ends.dozed (fun g hg => ?_) hq ?_
    · rcases List.mem_cons.mp hg with rfl | hg
      · decide
      · rw [List.mem_singleton.mp hg]
        decide
    · cases hw : s.psc.power <;> simp_all [State.awake]

/-- Settles O27: the intake of a sample, then what its handovers keep; the hinge record is followed through the orientation. -/
theorem lidSampleAndOrientDwell : Obligations.LidSampleAndOrientDwell := by
  refine ⟨fun x y z r s ha hr hq => ?_, fun c r s hp hr hc hq => ?_⟩
  · have he : exec (.lidSampleEvent x y z) s = finish (takeLidSample x y z (elapse r s)) := by
      change finish (lidSample x y z s) = _
      rw [lidSample, if_pos ha, hr]
      rfl
    have ho : Only [.hau] (elapse r s) (takeLidSample x y z (elapse r s)).1 := takeLidSample_only x y z _ rfl
    have hq' : (takeLidSample x y z (elapse r s)).1.ulp.queue = [] := by rw [ho.ulp rfl]; exact hq
    have ha' : (takeLidSample x y z (elapse r s)).1.awake = true := by rw [State.awake, ho.psc rfl]; exact ha
    obtain ⟨t, ht, ⟨⟨hlid, htimer⟩, hhinge, honly⟩, hcfg, hsib, hms⟩ := exec_event_sib (c := .lidSampleEvent x y z) (s := s)
      (u := elapse r s) (a := takeLidSample x y z (elapse r s)) rfl (State.SameConfig.refl s) hq he rfl
      (Q := fun t => (t.hau.lid = (takeLidSample x y z (elapse r s)).1.hau.lid ∧
          t.hau.sampleTimer = (takeLidSample x y z (elapse r s)).1.hau.sampleTimer) ∧
        (s.psc.power = .run ∧ (0 < s.par.orientDwell ∨ s.fbf.hold = [] ∧ s.Unruled) ∨
          s.psc.power = .doze ∧ 0 < s.par.postureDwell ∧ s.igt.head = .idle →
          t.hau.hinge = (takeLidSample x y z (elapse r s)).1.hinged) ∧
        (s.psc.power = .run → Only [.hau, .oru, .pcl, .igt, .fbf, .spu, .psc, .ulp] (elapse r s) t))
      fun n hn => ⟨Ends.lidKept (k := 1000) ha' hq' n hn, fun hcase => Ends.sampled (s := elapse r s) x y z hq hcase n hn,
        fun hp => (ho.mono rfl).trans (Ends.inRun false dozingKinds [.hau, .oru, .pcl, .igt, .fbf, .spu, .psc, .ulp] (by decide)
          (by decide) nofun (by decide) (k := 1000) (l := [.oruEval, .hinge]) (plain_all rfl) hq' (by rw [ho.psc rfl]; exact hp) nofun n hn).1⟩
    obtain ⟨j1, j2, j3, j4⟩ := judgeStale_fields s.par.staleLimit
      { s.hau.pass r with
        lid := some (smooth s.par.shift s.hau.lid ⟨clampAxis x, clampAxis y, clampAxis z⟩)
        sampleTimer := some (samplePeriod s.psc.power s.par.lidRate) }
    refine ⟨t, ht, hlid.trans j1, htimer.trans j2, fun hcase => ?_, hcfg, hsib.trans (ho.sib rfl), hms.trans (ho.ms rfl), honly⟩
    have hforced : ∀ b c, s.sib.lid.asserted = b → s.sib.fold.asserted = c →
        hallForced (takeLidSample x y z (elapse r s)).1 = if b then some ⟨some 0, .hall, 0⟩ else if c then some ⟨some 5760, .hall, 0⟩ else none :=
      fun b c hb hc => by subst hb; subst hc; rfl
    rw [hhinge hcase]
    refine ⟨fun h1 => ?_, fun h1 h2 => ?_, fun h1 h2 => ⟨fun h3 => ?_, fun h3 h4 => ?_⟩⟩
    · rw [State.hinged, hforced true _ h1 rfl]
      rfl
    · rw [State.hinged, hforced false true h1 h2]
      rfl
    · rw [State.hinged, hforced false false h1 h2]
      refine (if_neg fun h => h3 (j4.mp h)).trans ?_
      exact congrArg (Hinge.next s.par.holdLimit (hingeSample (takeLidSample x y z (elapse r s)).1)) j3
    · rw [State.hinged, hforced false false h1 h2]
      exact (if_pos (j4.mpr h3)).trans (j3.trans h4)
  · have hcommit : ∃ m, orientCommit false (elapse r s) = ({ elapse r s with oru := { s.oru with committed := c, dwell := none } }, m) ∧
        ∀ g ∈ m, g.kind ∈ postureKinds ∧ g.Wakes := by
      have hc' : (elapse r s).oru.candidate = some c := hc
      rw [orientCommit, hc']
      refine ⟨_, rfl, ?_⟩
      dsimp only
      rw [if_neg Bool.false_ne_true]
      split_ifs
      · exact plain_all rfl
      · exact plain_all rfl
    obtain ⟨m, he, hm⟩ := hcommit
    have hexec : exec .orientDwellExpiry s = finish ({ elapse r s with oru := { s.oru with committed := c, dwell := none } }, m) :=
      (finish_expiry hr).trans (congrArg finish he)
    obtain ⟨t, ht, ⟨hoff, -⟩, hcfg, -⟩ := exec_event (c := .orientDwellExpiry) (s := s) (u := elapse r s) rfl (State.SameConfig.refl s) hq hexec
      he rfl rfl (Ends.posture hm hq hp)
    exact ⟨t, ht, hoff.oru rfl, hcfg, Only.trans (t := { elapse r s with oru := { s.oru with committed := c, dwell := none } }) rfl
      (hoff.mono rfl)⟩

end

end Sys2Proof.Machine
end

section
/-! SUPPORT. The readings and the charging record, which no handover but the pen's insertion, its removal and a profile's new limit moves. -/

namespace Sys2Proof.Machine

open Sys2Proof

section
variable {s t u : State} {k : Nat} {l : List Signal} {Q : State → Prop}

/-- `t` is `s` after budget and power have moved: the readings and the phase current are left, and of the charging record the
setpoint, the pause and the measurement timer only have moved; with no phase current the setpoint stays 0. -/
structure Gauged (s t : State) : Prop where
  rail : t.sbu.rail = s.sbu.rail
  railState : t.sbu.railState = s.sbu.railState
  temp : t.sbu.temp = s.sbu.temp
  iPhase : t.sbu.iPhase = s.sbu.iPhase
  pcc : t.pcc = { s.pcc with penSet := t.pcc.penSet, paused := t.pcc.paused, measTimer := t.pcc.measTimer }
  rest : s.sbu.iPhase = 0 → s.pcc.penSet = 0 → t.pcc.penSet = 0
  restSbu : s.sbu.iPhase = 0 → s.sbu.penSet = 0 → t.sbu.penSet = 0

theorem Gauged.refl (s : State) : Gauged s s := ⟨rfl, rfl, rfl, rfl, rfl, fun _ h => h, fun _ h => h⟩

theorem Gauged.trans (h : Gauged s t) (h' : Gauged t u) : Gauged s u where
  rail := h'.rail.trans h.rail
  railState := h'.railState.trans h.railState
  temp := h'.temp.trans h.temp
  iPhase := h'.iPhase.trans h.iPhase
  pcc := by rw [h'.pcc, h.pcc]
  rest := fun h1 h2 => h'.rest (h.iPhase.trans h1) (h.rest h1 h2)
  restSbu := fun h1 h2 => h'.restSbu (h.iPhase.trans h1) (h.restSbu h1 h2)

theorem Gauged.of_eq (hs : t.sbu = s.sbu) (hp : t.pcc = s.pcc) : Gauged s t := by
  refine ⟨?_, ?_, ?_, ?_, ?_, fun _ h => ?_, fun _ h => ?_⟩
  · rw [hs]
  · rw [hs]
  · rw [hs]
  · rw [hs]
  · rw [hp]
  · rw [hp, h]
  · rw [hs, h]

theorem penSetpoint_of_no_current {room : Nat} (h : s.sbu.iPhase = 0) : penSetpoint room s = 0 := by
  have hc : penCandidate room s = 0 := by
    unfold penCandidate
    dsimp only
    rw [h, Nat.zero_min]
    split_ifs <;> rfl
  rw [penSetpoint, hc]
  split <;> rfl

/-- The setpoint is applied; with no phase current it is 0. -/
theorem gauged_applyPen {told : Bool} {room : Nat} : Gauged s (applyPen told (penSetpoint room s) s).1 :=
  ⟨rfl, rfl, rfl, rfl, rfl, fun h _ => penSetpoint_of_no_current h, fun h _ => penSetpoint_of_no_current h⟩

theorem gauged_recompute (told : Bool) (s : State) : Gauged s (recompute told s).1 := gauged_applyPen

theorem gauged_applyRequest (s : State) : Gauged s (applyRequest s).1 := by
  unfold applyRequest
  dsimp only
  split_ifs
  · exact ⟨rfl, rfl, rfl, rfl, rfl, fun _ h => h, fun _ h => h⟩
  · exact ⟨rfl, rfl, rfl, rfl, rfl, fun h _ => penSetpoint_of_no_current (by exact h), fun h _ => penSetpoint_of_no_current (by exact h)⟩
  · exact ⟨rfl, rfl, rfl, rfl, rfl, fun _ h => h, fun _ h => h⟩
  · exact ⟨rfl, rfl, rfl, rfl, rfl, fun h _ => penSetpoint_of_no_current h, fun h _ => penSetpoint_of_no_current h⟩

theorem gauged_dockRequest (n : Nat) (s : State) : Gauged s (dockRequest n s).1 :=
  Gauged.trans (t := { s with sbu := { s.sbu with requested := n } }) ⟨rfl, rfl, rfl, rfl, rfl, fun _ h => h, fun _ h => h⟩ (gauged_applyRequest _)

theorem gauged_enterStandby (d : Bool) (s : State) : Gauged s (enterStandby d s).1 :=
  Gauged.trans (t := standbyBlocks s) ⟨rfl, rfl, rfl, rfl, rfl, fun _ h => h, fun _ h => h⟩ (gauged_recompute true _)

theorem gauged_standbyDue (s : State) : Gauged s (standbyDue s).1 := by
  unfold standbyDue
  split
  · exact .of_eq rfl rfl
  · exact gauged_enterStandby _ s

theorem gauged_standbyRecheck (s : State) : Gauged s (standbyRecheck s).1 := by
  unfold standbyRecheck
  split_ifs
  · exact gauged_standbyDue s
  all_goals exact .of_eq rfl rfl

theorem gauged_deferredRecheck (s : State) : Gauged s (deferredRecheck s).1 := by
  unfold deferredRecheck
  split
  · exact gauged_enterStandby _ s
  · exact .refl s

theorem gauged_startDoze (s : State) : Gauged s (startDoze s).1 := by
  unfold startDoze
  split
  · exact Gauged.trans (t := { s with psc := { s.psc with power := .doze, doze := none }, oru := s.oru.stop }) (.of_eq rfl rfl)
      (gauged_recompute true _)
  · exact .of_eq rfl rfl

theorem gauged_dozeCheck (s : State) : Gauged s (dozeCheck s).1 := by
  unfold dozeCheck
  split
  · exact gauged_startDoze s
  · exact .refl s

theorem gauged_enterRunFromDoze (s : State) : Gauged s (enterRunFromDoze s).1 := by
  have ho := orientResume_only { s with psc := { s.psc with power := .run, standby := none, deferred := false } } (T := [.oru]) rfl
  exact Gauged.trans (.of_eq (ho.sbu rfl) (ho.pcc rfl)) (gauged_recompute true _)

theorem gauged_hostChanged (old new : HostState) (s : State) : Gauged s (hostChanged old new s).1 := by
  unfold hostChanged
  split
  · split_ifs
    · exact .refl s
    · exact gauged_startDoze s
    · exact .of_eq rfl rfl
  · split
    · exact gauged_standbyRecheck s
    · exact gauged_enterRunFromDoze s
  · split
    · exact .refl s
    · exact .of_eq rfl rfl
  · exact .refl s

/-- The handovers of an event that neither insert or remove the pen nor meet a new limit. -/
abbrev gaugedKinds : List Signal :=
  [Kind.report, Kind.forceCut, .reportRemoved, .spaceEvent, .arbiter, .serve, Kind.reply, .holdBegin, .holdEnd, .hauHall,
    .oruEval, Kind.oruCommit, .hinge, .mirror, .pclEval, .pclCommit, Kind.igtCommit, Kind.spuEval, Kind.wakeRequest,
    .spuAction, .cutAssert, Kind.dockLevel, Kind.hauDock, .pclDock, .igtDeparture, .pscRecheck, Kind.grantApplied,
    Kind.dlcPresence, .dlcRevoked, Kind.dlcRelease, Kind.dlcPowerReq, Kind.dlcBegin, .walkNext, .servePower, .openDue,
    .dlcRecover, .headStep, Kind.gateRoute, .headAdmit, Kind.holdCheck, Kind.pscHost, .pscDeferred, Kind.pscWake, .pscLevels,
    .pscDozeCheck]

theorem gauged_handle {g : Signal} (hg : g.kind ∈ gaugedKinds) (hq : s.ulp.queue = []) : Gauged s (handle g s).1 := by
  by_cases hb : g.idleBlocks.contains .sbu = false ∧ g.idleBlocks.contains .pcc = false
  · exact .of_eq ((handle_idleBlocks hq).sbu hb.1) ((handle_idleBlocks hq).pcc hb.2)
  cases g
  case dockLevel n => exact gauged_dockRequest n s
  case pscRecheck => exact gauged_standbyRecheck s
  case pscDeferred => exact gauged_deferredRecheck s
  case pscDozeCheck => exact gauged_dozeCheck s
  case pscHost old new => exact gauged_hostChanged old new s
  case report r f => by_cases hr : r = .forceCut <;> exact (hb ⟨rfl, rfl⟩).elim
  all_goals first
    | exact (hb ⟨rfl, rfl⟩).elim
    | simp [Signal.kind] at hg

/-- While no command waits, the handovers of such an event leave the readings and the charging record. -/
theorem Ends.gauged (hl : ∀ g ∈ l, g.kind ∈ gaugedKinds) (hq : s.ulp.queue = []) : Ends k l s (Gauged s) :=
  (Ends.closed gaugedKinds (Gauged s) (by decide) (fun _ _ hg hq hs => hs.trans (gauged_handle hg hq)) hl hq (.refl s)).mono
    fun _ ht => ht.1

/-! ### Readings of the rail and of the temperature -/

/-- A rail reading stores itself and the state that it gives. -/
theorem takeRail_sbu (mv : Int) (s : State) :
    (takeRail mv s).1.sbu.rail = (max 0 (min 6000 mv)).toNat ∧
      (takeRail mv s).1.sbu.railState = s.sbu.railState.next s.par (max 0 (min 6000 mv)).toNat := by
  have hkeep : ∀ (b : Bool) (u : State),
      (((if b then applyRequest u else quiet u).andThen (recompute true)).1.sbu.rail = u.sbu.rail) ∧
        ((if b then applyRequest u else quiet u).andThen (recompute true)).1.sbu.railState = u.sbu.railState := by
    intro b u
    have hg : Gauged u ((if b then applyRequest u else quiet u).andThen (recompute true)).1 := by
      cases b
      · exact gauged_recompute true u
      · exact (gauged_applyRequest u).trans (gauged_recompute true _)
    exact ⟨hg.rail, hg.railState⟩
  rw [takeRail, budgetEvent_eq]
  unfold moveRail
  dsimp only
  split
  · exact hkeep _ _
  · exact ⟨rfl, rfl⟩

/-- A rail reading that moves no state changes the reading and the shed timer only. -/
theorem takeRail_of_same {mv : Int} (h : s.sbu.railState.next s.par (max 0 (min 6000 mv)).toNat = s.sbu.railState) :
    takeRail mv s =
      quiet
        { s with
          sbu :=
            { s.sbu with
              rail := (max 0 (min 6000 mv)).toNat
              shed := shedTimerNext s.par (max 0 (min 6000 mv)).toNat s.sbu.railState s.sbu.shed
              railTimer := railInterval s } } := by
  have hm : moveRail (max 0 (min 6000 mv)).toNat { s with sbu := { s.sbu with railTimer := railInterval s } } =
      quiet
        { s with
          sbu :=
            { s.sbu with
              rail := (max 0 (min 6000 mv)).toNat
              shed := shedTimerNext s.par (max 0 (min 6000 mv)).toNat s.sbu.railState s.sbu.shed
              railTimer := railInterval s } } := by
    unfold moveRail
    dsimp only
    rw [h, if_neg (by simp)]
  rw [takeRail, budgetEvent_eq, hm]
  refine Prod.ext (Eq.refl _) (if_neg ?_)
  simp

theorem takeTemperature_sbu (v : Int) (s : State) :
    (takeTemperature v s).1.sbu.temp = max (-40) (min 125 v) ∧ (takeTemperature v s).1.sbu.tempTimer = some 100 ∧
      (takeTemperature v s).1.sbu.grant = s.sbu.grant := by
  unfold takeTemperature
  dsimp only
  split
  · exact ⟨rfl, rfl, rfl⟩
  · exact ⟨rfl, rfl, rfl⟩

/-- Settles O38: the reading is stored; what it hands on moves neither the readings nor, in RUN, the budget. -/
theorem railAndTemperatureReadings : Obligations.RailAndTemperatureReadings := by
  refine ⟨fun mv r s hr hq => ⟨?_, fun hsame => ?_⟩, fun v r s hr hp hq => ?_⟩
  · have ho : Only [.sbu, .pcc] (elapse r s) (takeRail mv (elapse r s)).1 := takeRail_only mv _ rfl
    obtain ⟨h1, h2⟩ := takeRail_sbu mv (elapse r s)
    obtain ⟨t, ht, hg, hcfg, hsib, hms⟩ := exec_event (c := .railReading mv) (s := s) (u := elapse r s)
      (a := takeRail mv (elapse r s)) rfl (State.SameConfig.refl s) hq (finish_expiry hr) rfl rfl rfl
      (Ends.gauged (fun g hg => (show ∀ k ∈ [Kind.report, Kind.grantApplied], k ∈ gaugedKinds by decide) _ (hands_takeRail mv _ g hg))
        (by rw [ho.ulp rfl]; exact hq))
    exact ⟨t, ht, hg.rail.trans h1, hg.railState.trans h2, hcfg, hsib, hms⟩
  · exact ((finish_expiry hr).trans (congrArg finish (takeRail_of_same (s := elapse r s) hsame))).trans (finish_quiet _)
  · have ho : Only [.sbu, .pcc] (elapse r s) (takeTemperature v (elapse r s)).1 := takeTemperature_only v _ rfl
    obtain ⟨h1, h2, h3⟩ := takeTemperature_sbu v (elapse r s)
    obtain ⟨t, ht, ⟨hoff, -⟩, hcfg, -⟩ := exec_event (c := .temperatureReading v) (s := s) (u := elapse r s)
      (a := takeTemperature v (elapse r s)) rfl (State.SameConfig.refl s) hq (finish_expiry hr) rfl rfl rfl
      (Ends.gate (fun g hg => by
        have hk := hands_takeTemperature v _ g hg
        refine ⟨(show ∀ k ∈ [Kind.report, Kind.spuEval], k ∈ headKinds by decide) _ hk, wakes_of_kind fun e => ?_⟩
        rw [e] at hk
        simp at hk) (by rw [ho.ulp rfl]; exact hq) (by rw [ho.psc rfl]; exact hp))
    have hsbu := hoff.sbu rfl
    exact ⟨t, ht, by rw [hsbu, h1], by rw [hsbu, h2], by rw [hsbu, h3]; rfl, hcfg, (ho.mono rfl).trans (hoff.mono rfl)⟩

/-! ### Measurements and the limit of a phase -/

/-- An entry into a phase: the record, the phase current, and no setpoint where it is 0. -/
theorem enterPhase_pcc (new : Phase) (c : Option ChargeCause) (n : Nat) (s : State) :
    (enterPhase new c n s).1.pcc =
        { s.pcc.entered new c s.awake with
          penSet := (enterPhase new c n s).1.pcc.penSet, paused := (enterPhase new c n s).1.pcc.paused } ∧
      (enterPhase new c n s).1.sbu.iPhase = phaseCurrent s.pcc.profile new ∧
        (phaseCurrent s.pcc.profile new = 0 → (enterPhase new c n s).1.pcc.penSet = 0) := by
  have hp : (s.pcc.entered new c s.awake).profile = s.pcc.profile := (Pcc.entered_phase new c s.awake s.pcc).2
  refine ⟨rfl, congrArg (phaseCurrent · new) hp, fun h => ?_⟩
  exact penSetpoint_of_no_current ((congrArg (phaseCurrent · new) hp).trans h)

/-- A measurement stored, with the termination dwell that it leaves. -/
def State.metered (v i : Nat) (term : Option Nat) (s : State) : State :=
  { s with pcc := { s.pcc with vCell := some v, iMeas := some i, measTimer := some 100, term := term } }

/-- The termination dwell that a measurement leaves. -/
def Pcc.termAfter (i : Nat) (p : Pcc) : Option Nat :=
  if p.phase = .topup then termNext p.penSet i p.profile.iTerm p.term else p.term

/-- The phase that a measurement leads to. -/
def Pcc.tested (v i : Nat) (p : Pcc) : Option Phase := phaseTest p.profile v (p.termAfter i) p.phase

theorem takeMeasurement_over {mv ma : Int} (h1 : s.pcc.profile.vReg + 100 < (max 0 (min 6000 mv)).toNat) (h2 : s.pcc.phase ≠ .fault) :
    takeMeasurement mv ma s = enterFault .cell 0 (s.metered (max 0 (min 6000 mv)).toNat (max 0 (min 500 ma)).toNat s.pcc.term) :=
  if_pos ⟨h1, h2⟩

theorem takeMeasurement_tested {mv ma : Int} (h : ¬ (s.pcc.profile.vReg + 100 < (max 0 (min 6000 mv)).toNat ∧ s.pcc.phase ≠ .fault)) :
    takeMeasurement mv ma s =
      (s.pcc.tested (max 0 (min 6000 mv)).toNat (max 0 (min 500 ma)).toNat).elim
        (quiet (s.metered (max 0 (min 6000 mv)).toNat (max 0 (min 500 ma)).toNat (s.pcc.termAfter (max 0 (min 500 ma)).toNat)))
        fun next => enterPhase next none 0
          (s.metered (max 0 (min 6000 mv)).toNat (max 0 (min 500 ma)).toNat (s.pcc.termAfter (max 0 (min 500 ma)).toNat)) := by
  refine (if_neg h).trans ?_
  change (match s.pcc.tested (max 0 (min 6000 mv)).toNat (max 0 (min 500 ma)).toNat with
    | some next => enterPhase next none 0
        (s.metered (max 0 (min 6000 mv)).toNat (max 0 (min 500 ma)).toNat (s.pcc.termAfter (max 0 (min 500 ma)).toNat))
    | none => _) = _
  cases s.pcc.tested (max 0 (min 6000 mv)).toNat (max 0 (min 500 ma)).toNat <;> rfl

theorem tested_ne_probe {p : Pcc} {v i : Nat} : p.tested v i ≠ some .probe := by
  unfold Pcc.tested phaseTest
  repeat' split
  all_goals simp

/-- The charging record once the handovers of an entry have run. -/
theorem entered_gauged {new : Phase} {c : Option ChargeCause} {n : Nat} (hn : new ≠ .probe) (h : Gauged (enterPhase new c n s).1 t) :
    t.pcc.phase = new ∧ t.pcc.prev = s.pcc.phase ∧ t.pcc.cause = c ∧ t.pcc.timer = 0 ∧ t.pcc.term = none ∧
      t.pcc.vCell = s.pcc.vCell ∧ t.pcc.iMeas = s.pcc.iMeas ∧ t.sbu.iPhase = phaseCurrent s.pcc.profile new ∧
      (phaseCurrent s.pcc.profile new = 0 → t.pcc.penSet = 0) := by
  obtain ⟨hp, hi, hz⟩ := enterPhase_pcc new c n s
  have ht := h.pcc
  rw [hp, Pcc.entered, if_neg hn] at ht
  refine ⟨?_, ?_, ?_, ?_, ?_, ?_, ?_, h.iPhase.trans hi, fun h0 => h.rest (hi.trans h0) (hz h0)⟩
  all_goals rw [ht]

/-- What a measurement without over-voltage leaves. -/
theorem tested_gauged {mv ma : Int} {v i : Nat} (hv : (max 0 (min 6000 mv)).toNat = v) (hi : (max 0 (min 500 ma)).toNat = i)
    (hover : ¬ (s.pcc.profile.vReg + 100 < v ∧ s.pcc.phase ≠ .fault)) (h : Gauged (takeMeasurement mv ma s).1 t) :
    t.pcc.vCell = some v ∧ t.pcc.iMeas = some i ∧ t.pcc.phase = (s.pcc.tested v i).getD s.pcc.phase ∧
      (s.pcc.tested v i = none → t.pcc.term = s.pcc.termAfter i ∧ t.pcc.cause = s.pcc.cause) ∧
      ∀ n, s.pcc.tested v i = some n →
        t.pcc.prev = s.pcc.phase ∧ t.pcc.term = none ∧ (phaseCurrent s.pcc.profile n = 0 → t.pcc.penSet = 0) := by
  subst hv hi
  rw [takeMeasurement_tested hover] at h
  cases hn : s.pcc.tested (max 0 (min 6000 mv)).toNat (max 0 (min 500 ma)).toNat with
  | none =>
    rw [hn] at h
    have ht := h.pcc
    rw [ht]
    exact ⟨rfl, rfl, rfl, fun _ => ⟨rfl, rfl⟩, nofun⟩
  | some n =>
    rw [hn] at h
    obtain ⟨h1, h2, -, -, h5, h6, h7, -, h9⟩ := entered_gauged (fun e => tested_ne_probe (e ▸ hn)) h
    refine ⟨h6, h7, h1, nofun, fun m hm => ?_⟩
    cases hm
    exact ⟨h2, h5, h9⟩

/-- Settles O40: the over-voltage test, then the phase test; no handover of the event moves the charging record but its setpoint,
its pause and the measurement timer. -/
theorem measurementAndLimitMoveChargePhase : Obligations.MeasurementAndLimitMoveChargePhase := by
  refine ⟨fun mv ma r s hr hq h0 h6 => ?_, fun s hc hpen hq => ?_⟩
  · have ho : Only [.sbu, .pcc] (elapse r s) (takeMeasurement mv ma (elapse r s)).1 := takeMeasurement_only mv ma _ rfl
    obtain ⟨t, ht, hg, hcfg, hsib, hms⟩ := exec_event (c := .measurementEvent mv ma) (s := s) (u := elapse r s)
      (a := takeMeasurement mv ma (elapse r s)) rfl (State.SameConfig.refl s) hq (finish_expiry hr) rfl rfl rfl
      (Ends.gauged (fun g hg => (show ∀ k ∈ [Kind.report, .pscDeferred], k ∈ gaugedKinds by decide) _ (hands_takeMeasurement mv ma _ g hg))
        (by rw [ho.ulp rfl]; exact hq))
    have hv : (max 0 (min 6000 mv)).toNat = mv.toNat := by omega
    refine ⟨t, ht, ?_⟩
    by_cases hover : s.pcc.profile.vReg + 100 < mv.toNat ∧ s.pcc.phase ≠ .fault
    · have hg' : Gauged (enterFault .cell 0
          ((elapse r s).metered (max 0 (min 6000 mv)).toNat (max 0 (min 500 ma)).toNat (elapse r s).pcc.term)).1 t := by
        rw [← takeMeasurement_over (s := elapse r s) (by rw [hv]; exact hover.1) hover.2]
        exact hg
      obtain ⟨h1, -, h3, -, -, hm6, hm7, -⟩ := entered_gauged (by simp) hg'
      refine ⟨hm6.trans (congrArg some hv), hm7, fun _ => ⟨h1, fun _ => h3⟩, fun h => absurd hover.1 (by omega), hcfg, hsib, hms⟩
    · obtain ⟨h1, h2, h3, h4, h5⟩ := tested_gauged (s := elapse r s) hv rfl hover hg
      generalize (max 0 (min 500 ma)).toNat = i at *
      have hphase : (elapse r s).pcc.tested mv.toNat i = s.pcc.tested mv.toNat i := rfl
      have hterm : (elapse r s).pcc.termAfter i = s.pcc.termAfter i := rfl
      rw [hphase] at h3 h4 h5
      rw [hterm] at h4
      refine ⟨h1, h2, fun h => ?_, fun h => ⟨fun hp => ?_, fun hp => ?_, fun hp => ?_, fun hp => ?_, fun hp => ?_, fun hp => ?_, fun hp => ?_⟩,
        hcfg, hsib, hms⟩
      · have hf : s.pcc.phase = .fault := by_contra fun hf => hover ⟨h, hf⟩
        refine ⟨h3.trans ?_, fun hne => (hne hf).elim⟩
        rw [Pcc.tested, hf]
        exact hf
      · rw [h3, Pcc.tested, hp]
        rfl
      · rw [h3, Pcc.tested, show (elapse r s).pcc.phase = s.pcc.phase from rfl, hp]
        simp only [phaseTest]
        split <;> rfl
      · rw [h3, Pcc.tested, show (elapse r s).pcc.phase = s.pcc.phase from rfl, hp]
        simp only [phaseTest]
        split <;> rfl
      · have hterm : s.pcc.termAfter i = termNext s.pcc.penSet i s.pcc.profile.iTerm s.pcc.term := if_pos hp
        have htest : s.pcc.tested mv.toNat i =
            ((s.pcc.termAfter i).bind fun e => if 10000 ≤ e then some Phase.done else none) := by
          rw [Pcc.tested, hp]
          simp only [phaseTest]
          cases s.pcc.termAfter i <;> rfl
        have hstay : ∀ x, s.pcc.termAfter i = x → (x.bind fun e => if 10000 ≤ e then some Phase.done else none) = none →
            t.pcc.phase = .topup ∧ t.pcc.term = x := fun x hx hn => by
          have hn' := htest.trans (hx ▸ hn)
          exact ⟨by rw [h3, hn']; exact hp, (h4 hn').1.trans hx⟩
        refine ⟨fun hnone => hstay none ?_ rfl, fun hpen hlow => ⟨fun hs => hstay (some 0) ?_ rfl, fun e hs he => hstay (some (e + 100)) ?_ ?_,
          fun e hs he => ?_⟩⟩
        · exact hterm.trans (if_neg (by omega))
        · exact (hterm.trans (if_pos ⟨hpen, hlow⟩)).trans (by rw [hs])
        · exact (hterm.trans (if_pos ⟨hpen, hlow⟩)).trans (by rw [hs])
        · exact if_neg (by omega)
        · have hsome : s.pcc.tested mv.toNat i = some .done := by
            rw [htest, (hterm.trans (if_pos ⟨hpen, hlow⟩)).trans (show _ = some (e + 100) by rw [hs])]
            exact if_pos he
          obtain ⟨g1, g2, g3⟩ := h5 _ hsome
          refine ⟨by rw [h3, hsome]; rfl, g1.trans hp, g2, g3 rfl⟩
      · rw [h3, Pcc.tested, hp]
        rfl
      · rw [h3, Pcc.tested, show (elapse r s).pcc.phase = s.pcc.phase from rfl, hp]
        simp only [phaseTest]
        split <;> rfl
      · have hn : s.pcc.tested mv.toNat i = none := by rw [Pcc.tested, hp]; rfl
        refine ⟨?_, (h4 hn).2⟩
        rw [h3, hn]
        exact hp
  · have hlim : phaseLimitExpiry s = limitReached (elapse (s.pcc.profile.limit s.pcc.phase * 60000 - s.pcc.timer) s) :=
      if_pos ⟨hc, hpen⟩
    have hexec : exec .phaseLimitExpiry s =
        finish (limitReached (elapse (s.pcc.profile.limit s.pcc.phase * 60000 - s.pcc.timer) s)) := congrArg finish hlim
    generalize s.pcc.profile.limit s.pcc.phase * 60000 - s.pcc.timer = d at hexec ⊢
    have ho : Only [.sbu, .pcc] (elapse d s) (limitReached (elapse d s)).1 := limitReached_only _ rfl
    obtain ⟨t, ht, hg, hcfg, hsib, -⟩ := exec_event (c := .phaseLimitExpiry) (s := s) (u := elapse d s)
      (a := limitReached (elapse d s)) rfl (State.SameConfig.refl s) hq hexec rfl rfl rfl
      (Ends.gauged (fun g hg => (show ∀ k ∈ [Kind.report, .pscDeferred], k ∈ gaugedKinds by decide) _ (hands_enterPhase _ _ _ _ g hg))
        (by rw [ho.ulp rfl]; exact hq))
    obtain ⟨h1, h2, h3, h4, -, -, -, h8, h9⟩ := entered_gauged (by simp) hg
    refine ⟨t, ht, h1, h2, h3.trans (congrArg some ?_), h4, h9 rfl, h8, hcfg, hsib⟩
    change timeoutCause s.pcc.phase = _
    cases s.pcc.phase <;> rfl

end

end Sys2Proof.Machine
end

section
/-! PROOFS. CHARGE_CONTROL. While the part and the host are awake, no handover enters DOZE or STANDBY. -/

namespace Sys2Proof.Machine

open Sys2Proof

section
variable {s t u : State} {ct : Byte} {k : Nat} {l : List Signal} {Q : State → Prop}

/-! ### Part and host awake -/

/-- The handovers of an event without a cut. -/
abbrev rousedKinds : List Signal := gaugedKinds.filter fun g => g != Kind.forceCut && g != .cutAssert

/-- RUN or DOZE, and a host that neither sleeps nor is off. -/
def State.Roused (s : State) : Prop := s.awake = true ∧ s.spu.host.dozes = false

theorem rouses_roused {g : Signal} (hg : g.kind ∈ rousedKinds) (hq : s.ulp.queue = []) (h : s.spu.host.dozes = false) :
    (handle g s).1.spu.host.dozes = false := by
  by_cases hb : g.idleBlocks.contains .spu = false
  · rw [(handle_idleBlocks hq).spu hb]
    exact h
  have hr : Act.Rouses s (handle g s) := by
    cases g
    case spuEval t => exact rouses_spuEvaluate t s
    case spuAction => exact rouses_spuAction s
    case wakeRequest src => exact rouses_wakeRequest src s
    case report r f => by_cases hr : r = .forceCut <;> exact (hb rfl).elim
    all_goals first
      | exact (hb rfl).elim
      | exact absurd hg (of_decide_eq_false rfl)
  rcases hr with ⟨hr, -⟩ | hr
  · rw [hr]
    exact h
  · exact hr

theorem standbyCondition_of_awake (h : s.spu.host.dozes = false) : standbyCondition s = false := by
  rw [standbyCondition]
  cases hh : s.spu.host <;> simp_all [HostState.dozes]

theorem standbyRecheck_roused (h : s.spu.host.dozes = false) :
    standbyRecheck s = quiet s ∨ standbyRecheck s = quiet { s with psc := { s.psc with standby := none, deferred := false } } := by
  rw [standbyRecheck, standbyCondition_of_awake h]
  by_cases hp : s.psc.power = .doze
  · exact .inr ((if_pos hp).trans (if_neg Bool.false_ne_true))
  · exact .inl (if_neg hp)

theorem deferredRecheck_roused (h : s.spu.host.dozes = false) : deferredRecheck s = quiet s := by
  rw [deferredRecheck, standbyCondition_of_awake h]
  simp

theorem wakeEvent_of_awake {src : PowerSource} (h : s.awake = true) : wakeEvent src s = quiet s := by
  unfold wakeEvent
  split
  · cases hp : s.psc.power <;> simp_all [State.awake]
  · rfl

/-- Such a handover leaves the part awake and the measurement timer, and in RUN the PSC's record but for the doze timer. -/
theorem roused_handle {g : Signal} (hg : g.kind ∈ rousedKinds) (hw : g.Wakes) (hq : s.ulp.queue = []) (hs : s.Roused) :
    (handle g s).1.awake = true ∧ (handle g s).1.pcc.measTimer = s.pcc.measTimer ∧
      (s.psc.power = .run → (handle g s).1.psc = { s.psc with doze := (handle g s).1.psc.doze }) := by
  obtain ⟨ha, hh⟩ := hs
  by_cases hb : g.idleBlocks.contains .psc = false ∧ g.idleBlocks.contains .pcc = false
  · rw [State.awake, (handle_idleBlocks hq).psc hb.1, (handle_idleBlocks hq).pcc hb.2]
    exact ⟨ha, rfl, fun _ => rfl⟩
  cases g
  case dockLevel n =>
    have ho : Only [.sbu, .pcc] s (dockRequest n s).1 := dockRequest_only n s rfl
    refine ⟨by rw [State.awake, handle, ho.psc rfl]; exact ha, ?_, fun _ => by rw [handle, ho.psc rfl]⟩
    change (applyRequest { s with sbu := { s.sbu with requested := n } }).1.pcc.measTimer = _
    unfold applyRequest
    dsimp only
    split_ifs <;> rfl
  case pscRecheck =>
    by_cases hp : s.psc.power = .run
    · rw [handle, standbyRecheck_of_run hp]
      exact ⟨ha, rfl, fun _ => rfl⟩
    · rcases standbyRecheck_roused hh with he | he <;> rw [handle, he] <;> exact ⟨ha, rfl, fun h => (hp h).elim⟩
  case pscDeferred =>
    rw [handle, deferredRecheck_roused hh]
    exact ⟨ha, rfl, fun _ => rfl⟩
  case pscDozeCheck =>
    rw [handle, dozeCheck_of_awake hh]
    exact ⟨ha, rfl, fun _ => rfl⟩
  case pscWake src =>
    rw [handle, wakeEvent_of_awake ha]
    exact ⟨ha, rfl, fun _ => rfl⟩
  case pscHost old new =>
    have hn : new.dozes = false := hw old new rfl
    by_cases hp : s.psc.power = .run
    · rw [handle, hostChanged_of_run hp hn]
      exact ⟨ha, rfl, fun _ => rfl⟩
    · have hd : s.psc.power = .doze := by cases hp' : s.psc.power <;> simp_all [State.awake]
      rw [handle, hostChanged_of_doze hd hn]
      refine ⟨by rw [State.awake, enterRunFromDoze_power], ?_, fun h => (hp h).elim⟩
      have ho := orientResume_only { s with psc := { s.psc with power := .run, standby := none, deferred := false } } (T := [.oru]) rfl
      exact (congrArg Pcc.measTimer (ho.pcc rfl) :)
  case report r f => by_cases hr : r = .forceCut <;> exact (hb ⟨rfl, rfl⟩).elim
  all_goals first
    | exact (hb ⟨rfl, rfl⟩).elim
    | exact absurd hg (of_decide_eq_false rfl)

/-- While part and host are awake and no command waits, the part stays awake, and the measurement timer and RUN as they are. -/
theorem Ends.roused (hl : ∀ g ∈ l, g.kind ∈ rousedKinds ∧ g.Wakes) (hq : s.ulp.queue = []) (hs : s.Roused) :
    Ends k l s fun t => t.Roused ∧ t.pcc.measTimer = s.pcc.measTimer ∧
      (s.psc.power = .run → t.psc = { s.psc with doze := t.psc.doze }) := by
  have hK : Closed rousedKinds = true := by decide
  refine Ends.of_keeps (fun g => g.kind ∈ rousedKinds ∧ g.Wakes)
    (fun t => (t.Roused ∧ t.pcc.measTimer = s.pcc.measTimer ∧ (s.psc.power = .run → t.psc = { s.psc with doze := t.psc.doze })) ∧
      t.ulp.queue = []) ?_ hl ⟨⟨hs, rfl, fun _ => rfl⟩, hq⟩ fun _ h => h.1
  rintro g t ⟨hg, hw⟩ ⟨⟨ht, hm, hp⟩, hqt⟩
  obtain ⟨h1, h2, h3⟩ := roused_handle hg hw hqt ht
  have hrec := not_received_of_closed hK hg
  refine ⟨⟨⟨⟨h1, rouses_roused hg hqt ht.2⟩, h2.trans hm, fun h => ?_⟩, handle_queue hrec hqt⟩, fun x hx =>
    ⟨hands_of_closed hK hg hqt x hx, handle_wakes hqt hrec x hx⟩⟩
  have hpt := hp h
  rw [h3 (by rw [hpt]; exact h), hpt]

/-! ### CHARGE_CONTROL -/

theorem spells_charge (v : Byte) : Spells [15, v] (some (.charge, true)) := spells_two rfl rfl (by simp) (by simp)

/-- A refused or idle CHARGE_CONTROL. -/
theorem exec_charge_unmoved {c : Instr} {v : Byte} {st : Status} (hc : c.frame = some (ct, [15, v])) (hr : s.Receptive)
    (hs : s.Permitted ct .charge true) (h : chargeControlResult v.toNat s.running = plainResult (st, quiet s.running)) :
    exec c s = .next (s.afterFrame.answered (replyTo ct 15 st [])) :=
  exec_unmoved (st := st) hc hr hs (spells_charge v) (by simp [commandCode]) h

/-- A CHARGE_CONTROL that acts: its own effect on the charging record stands but for setpoint and pause. -/
theorem exec_charge_acts {c : Instr} {v : Byte} {a : Act} (hc : c.frame = some (ct, [15, v])) (hr : s.Receptive)
    (hs : s.Permitted ct .charge true) (h : chargeControlResult v.toNat s.running = plainResult (.ok, a))
    (ho : Only [.sbu, .pcc] s.running a.1) (hl : Act.Hands [Kind.report, .pscDeferred] a) :
    ∃ t, exec c s = .next t ∧ (Gauged a.1 t ∧ t.pcc.measTimer = a.1.pcc.measTimer ∧
      Only [.fbf, .igt, .sbu, .pcc, .spu, .psc, .dlc, .pcl, .oru, .hau, .ulp] s t) ∧ s.SameConfig t ∧ t.sib = s.sib ∧ t.ms = s.ms := by
  have hcfg : s.SameConfig a.1 := by
    have := sameConfig_iff_keeps.mp (keeps_chargeControl v.toNat (sameConfig_iff_keeps.mpr (State.SameConfig.refl s.running)))
    rw [h] at this
    exact this
  have hq : a.1.ulp.queue = [] := by rw [ho.ulp rfl]; exact hr.2.2.2.2.2.1
  have hhands : ∀ g ∈ (plainResult (.ok, a)).handovers ct [15, v], g.kind ∈ [Kind.report, .pscDeferred, Kind.reply, .serve] := by
    intro g hg
    simp only [CmdResult.handovers, plainResult, List.append_nil, List.append_assoc, List.mem_append, List.cons_append, List.nil_append,
      List.mem_cons, List.not_mem_nil, or_false] at hg
    rcases hg with hg | rfl | rfl
    · exact (show ∀ k ∈ [Kind.report, .pscDeferred], k ∈ [Kind.report, .pscDeferred, Kind.reply, .serve] by decide) _ (hl g hg)
    · simp [Signal.kind]
    · simp [Signal.kind]
  have hsub := fun (K : List Signal) (hK : ∀ k ∈ [Kind.report, .pscDeferred, Kind.reply, .serve], k ∈ K) g hg => hK _ (hhands g hg)
  have hroused : a.1.Roused := by
    refine ⟨by rw [State.awake, ho.psc rfl]; exact hr.1, ?_⟩
    rw [ho.spu rfl]
    have hheld : s.spu.host.held = false := hr.2.1
    change s.spu.host.dozes = false
    cases hh : s.spu.host <;> simp_all [HostState.held, HostState.dozes]
  obtain ⟨t, ht, ⟨hg, hm, hoff⟩, h1, h2, h3⟩ := exec_host (r := plainResult (.ok, a)) hc hr hs (spells_charge v) (by simp [commandCode]) h hcfg hq
    (hsub eventKinds (by decide)) (Q := fun t => Gauged a.1 t ∧ t.pcc.measTimer = a.1.pcc.measTimer ∧
      Only [.fbf, .igt, .sbu, .pcc, .spu, .psc, .dlc, .pcl, .oru, .hau, .ulp] a.1 t)
    fun n hn => ⟨Ends.gauged (k := 990) (hsub gaugedKinds (by decide)) hq n hn,
      (Ends.roused (k := 990) (fun g hg => ⟨hsub rousedKinds (by decide) g hg, wakes_of_kind fun e => by
        have := hhands g hg
        rw [e] at this
        simp at this⟩) hq hroused n hn).2.1,
      (Ends.only eventKinds [.fbf, .igt, .sbu, .pcc, .spu, .psc, .dlc, .pcl, .oru, .hau, .ulp] (k := 990) (by decide) (by decide)
        (hsub eventKinds (by decide)) hq n hn)⟩
  have hrun : Only [.fbf, .igt, .sbu, .pcc, .spu, .psc, .dlc, .pcl, .oru, .hau, .ulp] s s.running := rfl
  exact ⟨t, ht, ⟨hg, hm, (hrun.trans (ho.mono rfl)).trans hoff⟩, h1, h2.trans (ho.sib rfl), h3.trans (ho.ms rfl)⟩

/-- Settles O56. -/
theorem chargeControlByPhase : Obligations.ChargeControlByPhase := by
  refine ⟨fun ct s hr hs => ⟨fun h => ?_, fun h => ?_, fun h => ?_⟩, fun ct s hr hs => ⟨fun h => ?_, fun h => ?_, fun h => ?_⟩⟩
  · refine exec_charge_unmoved (c := .chargeControlStart ct) (v := 0) rfl hr hs (congrArg plainResult ?_)
    exact (by rw [chargeStart, show s.running.pcc.phase = .none from h] : chargeStart s.running = _)
  · have hstart : chargeControlResult (0 : Byte).toNat s.running = plainResult (.ok, startSession s.running) := by
      refine congrArg plainResult (?_ : chargeStart s.running = _)
      rcases h with h | h <;> rw [chargeStart, show s.running.pcc.phase = _ from h]
    obtain ⟨t, ht, ⟨hg, hm, hoff⟩, hcfg, -, -⟩ := exec_charge_acts (c := .chargeControlStart ct) (v := 0) rfl hr hs hstart
      (enterPhase_only _ _ _ _ rfl) (hands_enterPhase _ _ _ _)
    have hp := hg.pcc
    refine ⟨t, ht, ?_, ?_, ?_, ?_, ?_, ?_, hm.trans ?_, hcfg, hoff⟩
    · rw [hp]; rfl
    · rw [hp]; rfl
    · rw [hp]; rfl
    · rw [hp]; rfl
    · rw [hp]; rfl
    · rw [hp]; rfl
    · exact if_pos hr.1
  · refine exec_charge_unmoved (c := .chargeControlStart ct) (v := 0) rfl hr hs (congrArg plainResult ?_)
    change chargeStart s.running = _
    unfold chargeStart
    rw [show s.running.pcc.phase = s.pcc.phase from rfl]
    cases hp : s.pcc.phase <;> simp_all [Phase.charging]
  · refine exec_charge_unmoved (c := .chargeControlStop ct) (v := 1) rfl hr hs (congrArg plainResult ?_)
    exact (by rw [chargeStop, show s.running.pcc.phase = .none from h] : chargeStop s.running = _)
  · refine exec_charge_unmoved (c := .chargeControlStop ct) (v := 1) rfl hr hs (congrArg plainResult ?_)
    exact (by rw [chargeStop, show s.running.pcc.phase = .idleDocked from h] : chargeStop s.running = _)
  · have hstop : chargeControlResult (1 : Byte).toNat s.running =
        plainResult (.ok, (handCurrent false 0 { s.running with pcc := s.running.pcc.ended .idleDocked }).andThen fun s =>
          (s, [.pscDeferred, chargeReport .stopped s.pcc 0])) := by
      refine congrArg plainResult (?_ : chargeStop s.running = _)
      unfold chargeStop
      rw [show s.running.pcc.phase = s.pcc.phase from rfl]
      cases hp : s.pcc.phase <;> simp_all [Phase.session]
    obtain ⟨t, ht, ⟨hg, hm, -⟩, hcfg, hsib, hms⟩ := exec_charge_acts (c := .chargeControlStop ct) (v := 1) rfl hr hs hstop
      rfl (((hands_handCurrent _ _ _).mono (by simp)).andThen (by simp [Act.Hands, Signal.kind, chargeReport]))
    have hp := hg.pcc
    have hzero : ∀ room (u : State), u.sbu.iPhase = 0 → penSetpoint room u = 0 := fun _ _ => penSetpoint_of_no_current
    refine ⟨t, ht, ?_, ?_, ?_, ?_, ?_, ?_, ?_, hm, hg.rest rfl (hzero _ _ rfl), hg.restSbu rfl (hzero _ _ rfl), hcfg, hsib, hms⟩
    all_goals (rw [hp]; rfl)

end

end Sys2Proof.Machine
end

section
/-! PROOFS. HOST_STATE. What a change of host state hands on in RUN. -/

namespace Sys2Proof.Machine

open Sys2Proof

section
variable {s t u : State} {ct : Byte} {p : List Byte} {k : Nat} {l : List Signal} {Q : State → Prop}

/-! ### A change of host state in RUN -/

/-- The doze timer after a change of host state in RUN. -/
def State.hostDoze (old new : HostState) (s : State) : Timer :=
  if new.dozes then if old.dozes then s.psc.doze else some (s.par.dozeDelay * 1000) else none

theorem hostChanged_in_run {old new : HostState} (hp : s.psc.power = .run) (hd : new.dozes = true → 0 < s.par.dozeDelay) :
    hostChanged old new s = quiet { s with psc := { s.psc with doze := s.hostDoze old new } } := by
  cases hn : new.dozes
  · rw [hostChanged_of_run hp hn, State.hostDoze, hn]
    rfl
  · unfold hostChanged
    rw [hp, State.hostDoze, hn]
    cases old.dozes
    · have hpos := hd hn
      exact (if_pos rfl).trans ((if_neg Bool.false_ne_true).trans (if_neg (by omega)))
    · rfl

/-- A change of host state in RUN up to the evaluation that it hands on: the upstream hold begins or ends, the doze timer runs or
stops. -/
theorem Ends.hostMoved {old new : HostState} (hc : s.Calm) (hp : s.psc.power = .run) (hd : new.dozes = true → 0 < s.par.dozeDelay)
    (h : ∀ t m, m = l ∨ m = l ++ [.serve] → t.Calm → Only [.fbf, .psc, .ulp] s t →
      t.psc = { s.psc with doze := s.hostDoze old new } →
      (new.held = true → s.ulp.slot = none → s.ulp.overruns = [] → t.ulp.slot = none ∧ t.ulp.overruns = []) →
      Ends k (.spuEval .host :: m) t Q) :
    Ends (k + 24) (hostSignals old new ++ l) s Q := by
  have hpsc : ∀ (v : State) (m : List Signal), m = l ∨ m = l ++ [.serve] → v.Calm → Only [.fbf, .ulp] s v →
      (new.held = true → s.ulp.slot = none → s.ulp.overruns = [] → v.ulp.slot = none ∧ v.ulp.overruns = []) →
      Ends (k + 1) (.pscHost old new :: .spuEval .host :: m) v Q := by
    intro v m hm hv ho hslot
    refine Ends.step (new := []) (hostChanged_in_run (by rw [ho.psc rfl]; exact hp) (by rw [ho.par rfl]; exact hd)) (by simp) ?_
    have hdoze : v.hostDoze old new = s.hostDoze old new := by rw [State.hostDoze, State.hostDoze, ho.psc rfl, ho.par rfl]
    refine h _ m hm hv ((ho.mono rfl).trans (t := v) rfl) ?_ hslot
    change ({ v.psc with doze := v.hostDoze old new } : Psc) = _
    rw [hdoze, ho.psc rfl]
  unfold hostSignals
  cases ho : old.held <;> cases hn : new.held
  · exact Ends.le (hpsc s l (.inl rfl) hc (Only.refl _ _) fun hx => (nomatch hn.symm.trans hx)) (by omega)
  · refine Ends.le (Ends.holdBegin (k := k + 1) ?_) (by omega)
    exact hpsc (beginHold s).1 (l ++ [.serve]) (.inr rfl) hc (beginHold_only s rfl) fun _ _ ho => ⟨rfl, ho⟩
  · refine Ends.le (Ends.holdEnd (k := k + 1) hc.still fun t ht => ?_) (by omega)
    exact hpsc t l (.inl rfl) (ht.calm hc) (only_of_offLine (ht.eq_offLine hc)) fun hx => (nomatch hn.symm.trans hx)
  · exact Ends.le (hpsc s l (.inl rfl) hc (Only.refl _ _) fun _ h1 h2 => ⟨h1, h2⟩) (by omega)

/-- The answer of a command on the line, in RUN with nothing pending at the gate. -/
theorem Ends.answering (hl : ∀ g ∈ l, g.kind ∈ [Kind.reply, .serve]) (hc : s.Calm) (hp : s.psc.power = .run) :
    Ends k l s fun t => Only [.fbf, .ulp] s t :=
  (Ends.inRun true [Kind.reply, .serve, Kind.report, .reportRemoved, .spaceEvent, .arbiter] [.fbf, .ulp] (by decide) (by decide)
    (fun _ => by decide) (by decide) (fun g hg => by
      have hk := hl g hg
      refine ⟨(show ∀ k ∈ [Kind.reply, .serve], k ∈ [Kind.reply, .serve, Kind.report, .reportRemoved, .spaceEvent, .arbiter] by decide) _ hk,
        wakes_of_kind fun e => ?_⟩
      rw [e] at hk
      simp at hk) hc.1 hp fun _ => hc).mono fun _ h => h.1

/-- A command of the host ends where its handovers end, also under the upstream hold. -/
theorem exec_hostPrompt {c : Instr} {r : CmdResult} {need : Option (Group × Bool)} (hc : c.frame = some (ct, p)) (hp : s.Prompt)
    (hs : s.Allowed ct need) (hf : Spells p need) (h18 : commandCode p ≠ 18)
    (hr : runCommand (channelOf ct == 0) (s.spu.rxSeq + 1) s.ms p s.running = r) (hcfg : s.SameConfig r.act.1)
    (hq : r.act.1.ulp.queue = []) (hl : ∀ g ∈ r.handovers ct p, g.kind ∈ eventKinds)
    (h : Ends 990 (r.handovers ct p) r.act.1 Q) :
    ∃ t, exec c s = .next t ∧ Q t ∧ s.SameConfig t ∧ t.sib = r.act.1.sib ∧ t.ms = r.act.1.ms := by
  obtain ⟨t, ht, hQ, h1, h2, -, h4⟩ := exec_frame_ends hc hp hf.short ((commandResult_of_permitted hf h18 hs).trans hr)
    (Ends.and h (Ends.sameConfig hl hq hcfg))
  exact ⟨t, ht, hQ, h1, h2, h4⟩

/-! ### HOST_STATE -/

theorem spells_hostState (v : Byte) : Spells [16, v] (some (.sleep, true)) := spells_two rfl rfl (by simp) (by simp)

theorem moved_rules (n : Nat) (new : HostState) (b : Spu) :
    (b.moved n new).rules = b.rules ∧ (b.moved n new).governing = b.governing ∧ (b.moved n new).forceMode = b.forceMode ∧
      (b.moved n new).host = new ∧ (b.moved n new).cutStage = b.cutStage := by
  unfold Spu.moved
  dsimp only
  cases new <;> dsimp only
  case entering =>
    by_cases hw : b.host = .waking
    · rw [if_pos hw, if_neg (by rw [hw]; simp)]
      exact ⟨rfl, rfl, rfl, rfl, rfl⟩
    · rw [if_neg hw]
      split <;> exact ⟨rfl, rfl, rfl, rfl, rfl⟩
  all_goals (split <;> exact ⟨rfl, rfl, rfl, rfl, rfl⟩)

/-- The result of a HOST_STATE that moves the host. -/
theorem runCommand_hostState {v : Byte} {new : HostState} {b : Bool} {q : Nat} {w : Stamp}
    (hv : hostStateTarget v.toNat s.spu.host = some new) (hcut : s.spu.cutStage = .none) :
    runCommand b q w [16, v] s.running = plainResult (.ok, moveHost new s.running) := by
  change plainResult (hostStateCommand v.toNat s.running) = _
  have hv' : hostStateTarget v.toNat s.running.spu.host = some new := hv
  rw [hostStateCommand, hv']
  exact congrArg plainResult (if_pos hcut)

/-- The host, moved by HOST_STATE in a state in which the frame is counted. -/
def State.hostMoved (new : HostState) (s : State) : State :=
  { s.running with spu := s.running.spu.moved s.par.compliance new }

theorem hostMoved_psc (new : HostState) (s : State) : (s.hostMoved new).psc = s.psc := rfl
theorem hostMoved_par (new : HostState) (s : State) : (s.hostMoved new).par = s.par := rfl
theorem hostMoved_spu (new : HostState) (s : State) : (s.hostMoved new).spu = s.running.spu.moved s.par.compliance new := rfl
theorem hostMoved_calm {new : HostState} (h : s.Calm) : (s.hostMoved new).Calm := h
theorem only_running (x : Spu) (s : State) : Only [.fbf, .spu, .psc, .ulp] s { s.running with spu := x } := rfl
theorem hostMoved_only (new : HostState) (s : State) : Only [.fbf, .spu, .psc, .ulp] s (s.hostMoved new) := only_running _ s

theorem moveHost_of_ne {new : HostState} (h : s.spu.host ≠ new) :
    moveHost new s.running = (s.hostMoved new, hostSignals s.spu.host new) := if_neg h

theorem handovers_of_plain {st : Status} {a : Act} {g : Signal} (h : g ∈ (plainResult (st, a)).handovers ct p) :
    g ∈ a.2 ∨ g.kind ∈ [Kind.reply, .serve] := by
  simp only [CmdResult.handovers, plainResult, List.nil_append, List.cons_append, List.mem_append, List.mem_cons,
    List.not_mem_nil, or_false] at h
  rcases h with h | rfl | rfl
  · exact .inl h
  · exact .inr (by simp [Signal.kind])
  · exact .inr (by simp [Signal.kind])

theorem hostSignals_events {old new : HostState} : ∀ g ∈ (plainResult (st, ((u, hostSignals old new) : Act))).handovers ct p,
    g.kind ∈ eventKinds := fun g hg => by
  rcases handovers_of_plain hg with hg | hg
  · exact (show ∀ k ∈ hostKinds, k ∈ eventKinds by decide) _ (hostSignals_kinds _ _ g hg)
  · exact (show ∀ k ∈ [Kind.reply, .serve], k ∈ eventKinds by decide) _ hg

theorem hostMoved_config (new : HostState) (s : State) : s.SameConfig (s.hostMoved new) := by
  obtain ⟨h1, -, h3, -⟩ := moved_rules s.par.compliance new s.running.spu
  exact ⟨rfl, rfl, rfl, h1, rfl, rfl, rfl, h3, rfl, rfl, rfl, rfl, rfl, rfl⟩

theorem hostMoved_unruled {new : HostState} (hu : s.Unruled) : (s.hostMoved new).Unruled := by
  obtain ⟨h1, h2, -⟩ := moved_rules s.par.compliance new s.running.spu
  exact ⟨fun r hr => hu.1 r (by rw [← show (s.hostMoved new).spu.rules = s.spu.rules from h1]; exact hr), h2.trans hu.2⟩

/-- What HOST_STATE leaves in RUN: the host's record, the doze timer, and under the upstream hold an empty slot. -/
structure HostSet (new : HostState) (s t : State) : Prop where
  spu : t.spu = (s.hostMoved new).spu
  psc : t.psc = { s.psc with doze := s.hostDoze s.spu.host new }
  slot : new.held = true → t.ulp.slot = none
  only : Only [.fbf, .spu, .psc, .ulp] s t

/-- Under the upstream hold with nothing waiting the reply is discarded, and nothing is served. -/
theorem Ends.discarded {r : Reply} (hr : r.reset = none) (hh : s.held = true) (hs : s.Vacant) (hm : l = [.reply r, .serve] ∨ l = [.reply r, .serve] ++ [.serve])
    (h : Q s.ended) : Ends (k + 3) l s Q := by
  obtain ⟨-, hq, ho⟩ := hs
  have hone : Ends (k + 1) [.serve] s.ended Q := Ends.serve_nothing (u := s.ended) hq ho (Ends.nil h)
  have he : handle (.reply r) s = (s.ended, []) := placeReply_of_held (s := s.ended) hh hr
  rcases hm with rfl | rfl
  · exact Ends.le (Ends.step he (by simp) hone) (by omega)
  · exact Ends.step he (by simp) (Ends.serve_nothing (u := s.ended) (k := k + 1) hq ho hone)

theorem Ends.hostSet {new : HostState} {r : Reply} (hr : s.Prompt) (hc : s.Calm) (hu : s.Unruled) (hp : s.psc.power = .run)
    (hreset : r.reset = none) (hd : new.dozes = true → 0 < s.par.dozeDelay) :
    Ends 990 (hostSignals s.spu.host new ++ [.reply r, .serve]) (s.hostMoved new) (HostSet new s) := by
  refine Ends.le (Ends.hostMoved (k := 900) (s := s.hostMoved new) (hostMoved_calm hc) (by rw [hostMoved_psc]; exact hp)
    (by rw [hostMoved_par]; exact hd) ?_) (by omega)
  intro t m hm htc ho hpsc hslot
  have hum : t.Unruled := by rw [State.Unruled, ho.spu rfl]; exact hostMoved_unruled hu
  have hall : Only [.fbf, .spu, .psc, .ulp] s t := (hostMoved_only new s).trans (ho.mono rfl)
  have hpsc' : t.psc = { s.psc with doze := s.hostDoze s.spu.host new } := by
    rw [hpsc, hostMoved_psc, State.hostDoze, State.hostDoze, hostMoved_psc, hostMoved_par]
  refine Ends.le (Ends.spuEval_unruled (k := 890) hum ?_) (by omega)
  by_cases hheld : new.held = true
  · obtain ⟨h1, h2⟩ := hslot hheld hr.2.2.2.1 hr.2.2.2.2.2
    have htheld : t.held = true := by
      rw [State.held, ho.spu rfl, show (s.hostMoved new).spu.host = new from (moved_rules _ _ _).2.2.2.1]
      exact hheld
    exact Ends.le (Ends.discarded (k := 0) hreset htheld ⟨h1, htc.1, h2⟩ hm
      ⟨ho.spu rfl, hpsc', fun _ => h1, hall.trans (u := t.ended) rfl⟩) (by omega)
  · refine Ends.mono (Ends.answering (k := 890) (fun g hg => ?_) htc (by rw [hpsc']; exact hp)) fun t' ht' =>
      ⟨(ht'.spu rfl).trans (ho.spu rfl), (ht'.psc rfl).trans hpsc', fun h => (hheld h).elim, hall.trans (ht'.mono rfl)⟩
    rcases hm with rfl | rfl
    · exact kinds_all (l := [.reply r, .serve]) rfl g hg
    · exact kinds_all (l := [.reply r, .serve, .serve]) rfl g hg

/-- HOST_STATE in RUN. -/
theorem exec_hostState {v : Byte} {new : HostState} (hr : s.Prompt) (hs : s.Permitted ct .sleep true) (hc : s.Calm) (hu : s.Unruled)
    (hcut : s.spu.cutStage = .none) (hp : s.psc.power = .run) (hv : hostStateTarget v.toNat s.spu.host = some new)
    (hne : s.spu.host ≠ new) (hd : new.dozes = true → 0 < s.par.dozeDelay) :
    ∃ t, exec (.hostState ct v) s = .next t ∧ HostSet new s t ∧ s.SameConfig t := by
  have hrun := (runCommand_hostState (b := channelOf ct == 0) (q := s.spu.rxSeq + 1) (w := s.ms) hv hcut).trans
    (congrArg (fun a => plainResult (.ok, a)) (moveHost_of_ne hne))
  obtain ⟨t, ht, h1, h2, -⟩ := exec_hostPrompt (c := .hostState ct v) (p := [16, v])
    (r := plainResult (.ok, (s.hostMoved new, hostSignals s.spu.host new))) (Q := HostSet new s) rfl hr hs (spells_hostState v)
    (by simp [commandCode]) hrun (hostMoved_config new s) hc.1 hostSignals_events (Ends.hostSet hr hc hu hp rfl hd)
  exact ⟨t, ht, h1, h2⟩

/-! ### From DOZE -/

/-- The host runs or wakes, no cut proceeds, no sleep rule stands: nothing moves the policy's record. -/
structure State.Settled (s : State) : Prop where
  host : s.spu.host = .running ∨ s.spu.host = .waking
  cut : s.spu.cutStage = .none
  unruled : s.Unruled

theorem settled_handle {g : Signal} (hg : g.kind ∈ eventKinds) (hq : s.ulp.queue = []) (hs : s.Settled) : (handle g s).1.spu = s.spu := by
  by_cases hb : g.idleBlocks.contains .spu = false
  · exact (handle_idleBlocks hq).spu hb
  cases g
  case spuEval t => rw [handle, spuEvaluate_of_unruled hs.unruled]; rfl
  case spuAction =>
    rw [handle, spuAction, hs.unruled.2]
    rfl
  case wakeRequest src =>
    rw [handle, wakeRequest, if_neg (by simp [hs.cut])]
    rcases hs.host with h | h <;> rw [h] <;> rfl
  case cutAssert =>
    rw [handle, cutAssert, if_neg (by simp [hs.cut])]
    rfl
  case report r f => by_cases hr : r = .forceCut <;> exact (hb rfl).elim
  all_goals first
    | exact (hb rfl).elim
    | exact absurd hg (of_decide_eq_false rfl)

/-- While no command waits, the policy's record of such a host stays. -/
theorem Ends.settledSpu (hl : ∀ g ∈ l, g.kind ∈ eventKinds) (hq : s.ulp.queue = []) (hs : s.Settled) :
    Ends k l s fun t => t.spu = s.spu :=
  (Ends.closed eventKinds (fun t => t.spu = s.spu) (by decide) (fun g t hg hq ht => (settled_handle hg hq (by
    refine ⟨?_, ?_, ?_⟩
    · rw [ht]; exact hs.host
    · rw [ht]; exact hs.cut
    · rw [State.Unruled, ht]; exact hs.unruled)).trans ht) hl hq rfl).mono fun _ h => h.1

theorem enterRunFromDoze_psc (s : State) :
    (enterRunFromDoze s).1.psc = { s.psc with power := .run, standby := none, deferred := false } := by
  have ho := orientResume_only { s with psc := { s.psc with power := .run, standby := none, deferred := false } } (T := [.oru]) rfl
  exact ho.psc rfl

/-- HOST_STATE RUNNING in DOZE: RUN again. -/
theorem exec_hostAwakes (hr : s.Prompt) (hs : s.Permitted ct .sleep true) (hc : s.Calm) (hu : s.Unruled)
    (hcut : s.spu.cutStage = .none) (hp : s.psc.power = .doze) (hh : s.spu.host = .sleeping ∨ s.spu.host = .off) :
    ∃ t, exec (.hostState ct 0) s = .next t ∧ (t.spu.host = .running ∧ t.psc.power = .run ∧ t.psc.standby = none ∧
      t.psc.deferred = false) ∧ s.SameConfig t ∧ t.sib = s.sib ∧ t.ms = s.ms := by
  have hne : s.spu.host ≠ .running := by rcases hh with h | h <;> rw [h] <;> simp
  have hv : hostStateTarget (0 : Byte).toNat s.spu.host = some .running := by
    rcases hh with h | h <;> rw [h] <;> rfl
  have hold : s.spu.host.held = true := by rcases hh with h | h <;> rw [h] <;> rfl
  have hrun := (runCommand_hostState (b := channelOf ct == 0) (q := s.spu.rxSeq + 1) (w := s.ms) hv hcut).trans
    (congrArg (fun a => plainResult (.ok, a)) (moveHost_of_ne hne))
  refine exec_hostPrompt (c := .hostState ct 0) (p := [16, 0])
    (r := plainResult (.ok, (s.hostMoved .running, hostSignals s.spu.host .running))) rfl hr hs (spells_hostState 0)
    (by simp [commandCode]) hrun (hostMoved_config _ s) hc.1 hostSignals_events ?_
  have hsig : hostSignals s.spu.host .running = [.holdEnd, .pscHost s.spu.host .running, .spuEval .host] := by
    rw [hostSignals, hold]
    rfl
  obtain ⟨h1, h2, h3, h4, h5⟩ := moved_rules s.par.compliance .running s.running.spu
  have hset : (s.hostMoved .running).Settled := ⟨.inl h4, h5.trans hcut, hostMoved_unruled hu⟩
  change Ends 990 (hostSignals s.spu.host .running ++ [.reply (replyTo ct 16 .ok []), .serve]) (s.hostMoved .running) _
  rw [hsig]
  refine Ends.le (Ends.holdEnd (k := 500) (l := [.pscHost s.spu.host .running, .spuEval .host, .reply (replyTo ct 16 .ok []), .serve])
    (hostMoved_calm hc).still fun t ht => ?_) (by omega)
  have hpt : t.psc.power = .doze := by rw [ht.psc, hostMoved_psc]; exact hp
  have hqt : t.ulp.queue = [] := ht.queue.trans (hostMoved_calm hc).1
  have hst : t.Settled := by
    refine ⟨?_, ?_, ?_⟩
    · rw [ht.spu]; exact hset.host
    · rw [ht.spu]; exact hset.cut
    · rw [State.Unruled, ht.spu]; exact hset.unruled
  have hhost : t.spu.host = .running := by rw [ht.spu]; exact h4
  have henter : handle (.pscHost s.spu.host .running) t = enterRunFromDoze t := hostChanged_of_doze hpt rfl
  have ho : Only [.oru, .sbu, .pcc, .psc] t (enterRunFromDoze t).1 := enterRunFromDoze_only t rfl
  have hq' : (enterRunFromDoze t).1.ulp.queue = [] := by rw [ho.ulp rfl]; exact hqt
  have hkinds : ∀ g ∈ (enterRunFromDoze t).2 ++ [.spuEval .host, .reply (replyTo ct 16 .ok []), .serve],
      g.kind ∈ [Kind.oruCommit, Kind.report, Kind.dlcPowerReq, .pscDozeCheck, Kind.spuEval, Kind.reply, .serve] := by
    intro g hg
    rcases List.mem_append.mp hg with hg | hg
    · exact (show ∀ k ∈ [Kind.oruCommit, Kind.report, Kind.dlcPowerReq, .pscDozeCheck],
        k ∈ [Kind.oruCommit, Kind.report, Kind.dlcPowerReq, .pscDozeCheck, Kind.spuEval, Kind.reply, .serve] by decide) _
        (((hands_enterRunFromDoze t).mono (by simp)) g hg)
    · exact kinds_all (l := [.spuEval .host, .reply (replyTo ct 16 .ok []), .serve]) rfl g hg
  refine Ends.le (Ends.cons (k := 499) (by simp) ?_) (Nat.le_refl 500)
  rw [henter]
  refine Ends.mono (Ends.and (Ends.settledSpu (s := (enterRunFromDoze t).1) (fun g hg => ?_) hq' ?_)
    (Ends.roused (s := (enterRunFromDoze t).1) (fun g hg => ⟨?_, wakes_of_kind fun e => ?_⟩) hq' ?_)) ?_
  · exact (show ∀ k ∈ [Kind.oruCommit, Kind.report, Kind.dlcPowerReq, .pscDozeCheck, Kind.spuEval, Kind.reply, .serve], k ∈ eventKinds by
      decide) _ (hkinds g hg)
  · refine ⟨?_, ?_, ?_⟩
    · rw [ho.spu rfl]; exact hst.host
    · rw [ho.spu rfl]; exact hst.cut
    · rw [State.Unruled, ho.spu rfl]; exact hst.unruled
  · exact (show ∀ k ∈ [Kind.oruCommit, Kind.report, Kind.dlcPowerReq, .pscDozeCheck, Kind.spuEval, Kind.reply, .serve], k ∈ rousedKinds by
      decide) _ (hkinds g hg)
  · have := hkinds g hg
    rw [e] at this
    simp at this
  · refine ⟨?_, ?_⟩
    · rw [State.awake, enterRunFromDoze_psc]
    · rw [ho.spu rfl, hhost]
      rfl
  · rintro w ⟨hspu, -, -, hpsc⟩
    have hw := hpsc (enterRunFromDoze_power t)
    rw [enterRunFromDoze_psc] at hw
    refine ⟨?_, ?_, ?_, ?_⟩
    · rw [hspu, ho.spu rfl, hhost]
    · rw [hw]
    · rw [hw]
    · rw [hw]

/-- HOST_STATE that moves nothing. -/
theorem exec_hostState_unmoved {v : Byte} {st : Status} (hr : s.Prompt) (hs : s.Permitted ct .sleep true)
    (h : hostStateCommand v.toNat s.running = (st, quiet s.running)) :
    exec (.hostState ct v) s = .next (s.afterFrame.replied (replyTo ct 16 st [])) :=
  exec_prompt (c := .hostState ct v) (st := st) (fs := []) (f := fun x => x) rfl hr hs (spells_hostState v) (by simp [commandCode])
    (congrArg plainResult h) (State.Prompt.vacant hr) rfl

theorem moveHost_same {new : HostState} (h : s.spu.host = new) : moveHost new s = quiet s := if_pos h

theorem moved_of_waking {n : Nat} {new : HostState} {b : Spu} (h : b.host = .waking) :
    (b.moved n new).wakeReq = false ∧ (b.moved n new).wakeTimer = none ∧ (b.moved n new).before = none ∧
      (b.moved n new).wakeSrc = none := by
  unfold Spu.moved
  dsimp only
  rw [if_pos h, if_neg (by rw [h]; simp)]
  cases new <;> exact ⟨rfl, rfl, rfl, rfl⟩

theorem moved_of_ne_entering {n : Nat} {new : HostState} {b : Spu} (h : new ≠ .entering) :
    (b.moved n new).compliance = none ∧ (b.moved n new).advising = none := by
  unfold Spu.moved
  cases new <;> first | exact (h rfl).elim | exact ⟨rfl, rfl⟩

theorem moved_entering_of_advised {n : Nat} {b : Spu} (h : b.host = .advised) :
    (b.moved n .entering).compliance = b.compliance ∧ (b.moved n .entering).stage = b.stage ∧
      (b.moved n .entering).advising = b.advising := by
  unfold Spu.moved
  dsimp only
  rw [if_pos h, if_neg (by rw [h]; simp)]
  exact ⟨rfl, rfl, rfl⟩

theorem moved_entering {n : Nat} {b : Spu} (h : b.host ≠ .advised) :
    (b.moved n .entering).compliance = some (n * 1000) ∧ (b.moved n .entering).stage = 1 := by
  unfold Spu.moved
  dsimp only
  rw [if_neg h]
  exact ⟨rfl, rfl⟩

theorem HostSet.host {new : HostState} (h : HostSet new s t) : t.spu.host = new := by
  rw [h.spu]
  exact (moved_rules _ _ _).2.2.2.1

theorem HostSet.left {new : HostState} (h : HostSet new s t) (hw : s.spu.host = .waking) :
    t.spu.wakeReq = false ∧ t.spu.wakeTimer = none ∧ t.spu.before = none ∧ t.spu.wakeSrc = none := by
  rw [h.spu]
  exact moved_of_waking hw

theorem HostSet.plain {new : HostState} (h : HostSet new s t) (hn : new ≠ .entering) :
    t.spu.compliance = none ∧ t.spu.advising = none := by
  rw [h.spu]
  exact moved_of_ne_entering hn

theorem HostSet.doze {new : HostState} (h : HostSet new s t) : t.psc.doze = s.hostDoze s.spu.host new := by rw [h.psc]

/-- Settles O57: each target, and the chain of the handovers that a change of host state hands on. -/
theorem hostStateMovesTheHost : Obligations.HostStateMovesTheHost := by
  have hsame : ∀ {ct v : Byte} {s : State} {new : HostState}, s.Prompt → s.Permitted ct .sleep true → s.spu.cutStage = .none →
      hostStateTarget v.toNat s.spu.host = some new → s.spu.host = new →
      exec (.hostState ct v) s = .next (s.afterFrame.replied (replyTo ct 16 .ok [])) := by
    intro ct v s new hr hs hcut hv hh
    refine exec_hostState_unmoved hr hs ?_
    rw [hostStateCommand, show hostStateTarget v.toNat s.running.spu.host = some new from hv]
    exact (if_pos hcut).trans (congrArg (fun a => (Status.ok, a)) (moveHost_same (s := s.running) hh))
  refine ⟨fun ct s hr hs hc hu hcut => ⟨fun h => ?_, fun h => ?_, fun h => ?_, fun h => ?_, fun hp => ⟨fun h1 h2 => ?_, fun h => ?_,
    fun h hd => ?_, fun h hd => ?_⟩, fun hp h _ => ?_⟩, fun ct v s hr hs => ⟨fun hcut h3 => ?_, fun h3 => ?_⟩⟩
  · rcases h with h | h
    · exact hsame (v := 0) (new := .running) hr hs hcut (by rw [h]; rfl) h
    · exact hsame (v := 0) (new := .advised) hr hs hcut (by rw [h]; rfl) h
  · exact hsame (v := 1) (new := .entering) hr hs hcut rfl h
  · exact hsame (v := 2) (new := .sleeping) hr hs hcut rfl h
  · exact hsame (v := 3) (new := .off) hr hs hcut rfl h
  · obtain ⟨t, ht, hset, hcfg⟩ := exec_hostState (v := 0) (new := .running) hr hs hc hu hcut hp (if_neg h2) h1 nofun
    obtain ⟨h4, h5⟩ := hset.plain (by simp)
    exact ⟨t, ht, hset.host, h4, h5, hset.doze, hset.left, hcfg, hset.only⟩
  · obtain ⟨t, ht, hset, hcfg⟩ := exec_hostState (v := 1) (new := .entering) hr hs hc hu hcut hp rfl h nofun
    refine ⟨t, ht, hset.host, hset.doze, fun hw => ?_, fun hw => ?_, hset.left, hcfg, hset.only⟩
    · rw [hset.spu]
      exact moved_entering_of_advised (b := s.running.spu) hw
    · rw [hset.spu]
      exact moved_entering (b := s.running.spu) hw
  · obtain ⟨t, ht, hset, hcfg⟩ := exec_hostState (v := 2) (new := .sleeping) hr hs hc hu hcut hp rfl h fun _ => hd
    obtain ⟨h4, h5⟩ := hset.plain (by simp)
    refine ⟨t, ht, hset.host, h4, h5, hset.slot rfl, hset.doze.trans ?_, hset.left, hcfg, hset.only⟩
    cases hh : s.spu.host <;> simp_all [State.hostDoze, HostState.dozes]
  · obtain ⟨t, ht, hset, hcfg⟩ := exec_hostState (v := 3) (new := .off) hr hs hc hu hcut hp rfl h fun _ => hd
    obtain ⟨h4, h5⟩ := hset.plain (by simp)
    refine ⟨t, ht, hset.host, h4, h5, hset.slot rfl, hset.doze.trans ?_, hset.left, hcfg, hset.only⟩
    cases hh : s.spu.host <;> simp_all [State.hostDoze, HostState.dozes]
  · obtain ⟨t, ht, ⟨h1, h2, h3, h4⟩, h5, h6, h7⟩ := exec_hostAwakes hr hs hc hu hcut hp h
    exact ⟨t, ht, h1, h2, h3, h4, h5, h6, h7⟩
  · refine exec_hostState_unmoved hr hs ?_
    have hsome : ∃ new, hostStateTarget v.toNat s.running.spu.host = some new := by
      have : v.toNat = 0 ∨ v.toNat = 1 ∨ v.toNat = 2 ∨ v.toNat = 3 := by omega
      rcases this with e | e | e | e <;> rw [e]
      · refine ⟨if s.running.spu.host = .advised then .advised else .running, ?_⟩
        change (if s.running.spu.host = .advised then _ else _) = _
        split <;> rfl
      · exact ⟨_, rfl⟩
      · exact ⟨_, rfl⟩
      · exact ⟨_, rfl⟩
    obtain ⟨new, hnew⟩ := hsome
    rw [hostStateCommand, hnew]
    exact if_neg hcut
  · refine exec_hostState_unmoved hr hs ?_
    have hnone : hostStateTarget v.toNat s.running.spu.host = none := by
      unfold hostStateTarget
      split <;> first | omega | rfl
    rw [hostStateCommand, hnone]

end

end Sys2Proof.Machine
end

section
/-! PROOFS. DOZE and STANDBY. What runs asleep with no sleep rule and the gate idle. -/

namespace Sys2Proof.Machine

open Sys2Proof

section
variable {s t u : State} {k : Nat} {l : List Signal} {Q : State → Prop}

/-! ### Asleep -/

/-- In STANDBY or SETTLE with no command waiting, no head procedure paused, no sleep rule. -/
structure State.Sleeping (s : State) : Prop where
  asleep : s.awake = false
  queue : s.ulp.queue = []
  head : s.igt.head = .idle
  unruled : s.Unruled

/-- What the handovers of an entry to STANDBY leave: the policy's and the orientation's record, stopped timers, the bytes of the
receiver. -/
structure Slept (s t : State) : Prop where
  asleep : t.awake = false
  head : t.igt.head = .idle
  spu : t.spu = s.spu
  oru : t.oru = s.oru
  sample : t.hau.sampleTimer = s.hau.sampleTimer
  pcl : t.pcl = { s.pcl with cond := t.pcl.cond }
  meas : t.pcc.measTimer = s.pcc.measTimer
  temp : t.sbu.tempTimer = s.sbu.tempTimer
  pen : s.sbu.penSet = 0 → t.sbu.penSet = 0
  rx : t.ulp.rx = s.ulp.rx

theorem Slept.refl (ha : s.awake = false) (hh : s.igt.head = .idle) : Slept s s :=
  ⟨ha, hh, rfl, rfl, rfl, rfl, rfl, rfl, id, rfl⟩

theorem Slept.trans (h : Slept s t) (h' : Slept t u) : Slept s u where
  asleep := h'.asleep
  head := h'.head
  spu := h'.spu.trans h.spu
  oru := h'.oru.trans h.oru
  sample := h'.sample.trans h.sample
  pcl := by rw [h'.pcl, h.pcl]
  meas := h'.meas.trans h.meas
  temp := h'.temp.trans h.temp
  pen := h'.pen ∘ h.pen
  rx := h'.rx.trans h.rx

theorem Slept.sleeping (hs : s.Sleeping) (h : Slept s t) (hq : t.ulp.queue = []) : t.Sleeping :=
  ⟨h.asleep, hq, h.head, by rw [State.Unruled, h.spu]; exact hs.unruled⟩

/-- A handover that leaves the blocks named. -/
theorem Slept.of_only {T : List Block} (ha : s.awake = false) (h : Only T s t)
    (hT : T.all [Block.dlc, .igt, .fbf, .ulp].contains = true) (hh : t.igt.head = .idle) (hr : t.ulp.rx = s.ulp.rx) : Slept s t := by
  have h' := h.mono hT
  refine ⟨by rw [State.awake, h'.psc rfl]; exact ha, hh, h'.spu rfl, h'.oru rfl, by rw [h'.hau rfl], ?_, by rw [h'.pcc rfl],
    by rw [h'.sbu rfl], fun h => by rw [h'.sbu rfl, h], hr⟩
  rw [h'.pcl rfl]

theorem Slept.of_upstream (ha : s.awake = false) (hh : s.igt.head = .idle) (h : Upstream s t) : Slept s t :=
  .of_only ha h.only rfl (h.head hh) (congrArg (fun x => x.ulp.rx) h.1 :)

/-- The handovers of an entry to STANDBY. -/
abbrev sleptKinds : List Signal :=
  [Kind.report, .arbiter, .reportRemoved, .spaceEvent, .serve, Kind.dlcRelease, Kind.dockLevel, Kind.grantApplied, Kind.hauDock,
    .pclDock, .pclEval, Kind.spuEval, .igtDeparture, .pscRecheck, .pscDeferred, .walkNext, .servePower, .pscLevels, Kind.pscWake]

theorem penSetpoint_of_asleep {room : Nat} (h : s.awake = false) : penSetpoint room s = 0 :=
  penSetpoint_of_denied (.inr (.inl h))

theorem slept_dockRequest (n : Nat) (hs : s.Sleeping) : Slept s (dockRequest n s).1 := by
  have ho : Only [.sbu, .pcc] s (dockRequest n s).1 := dockRequest_only n s rfl
  have hreq : (applyRequest { s with sbu := { s.sbu with requested := n } }).1.sbu.tempTimer = s.sbu.tempTimer ∧
      (applyRequest { s with sbu := { s.sbu with requested := n } }).1.pcc.measTimer = s.pcc.measTimer ∧
      (s.sbu.penSet = 0 → (applyRequest { s with sbu := { s.sbu with requested := n } }).1.sbu.penSet = 0) := by
    unfold applyRequest
    dsimp only
    split_ifs
    · exact ⟨rfl, rfl, id⟩
    · exact ⟨rfl, rfl, fun _ => penSetpoint_of_asleep hs.asleep⟩
    · exact ⟨rfl, rfl, id⟩
    · exact ⟨rfl, rfl, fun _ => penSetpoint_of_asleep hs.asleep⟩
  obtain ⟨h1, h2, h3⟩ := hreq
  exact ⟨by rw [State.awake, ho.psc rfl]; exact hs.asleep, by rw [ho.igt rfl]; exact hs.head, ho.spu rfl, ho.oru rfl,
    by rw [ho.hau rfl], by rw [ho.pcl rfl], h2, h1, h3, by rw [ho.ulp rfl]⟩

theorem standbyRecheck_of_asleep (h : s.awake = false) : standbyRecheck s = quiet s :=
  if_neg fun hp => by rw [State.awake, hp] at h; exact nomatch h

theorem deferredRecheck_of_asleep (h : s.awake = false) : deferredRecheck s = quiet s :=
  if_neg fun hp => by rw [State.awake, hp.1] at h; exact nomatch h

theorem slept_wakeEvent (src : PowerSource) (hs : s.Sleeping) : Slept s (wakeEvent src s).1 := by
  unfold wakeEvent
  split
  · split
    · exact ⟨rfl, hs.head, rfl, rfl, rfl, rfl, rfl, rfl, id, rfl⟩
    · rename_i hp
      split
      · exact .refl hs.asleep hs.head
      · refine ⟨?_, hs.head, rfl, rfl, rfl, rfl, rfl, rfl, id, rfl⟩
        rw [State.awake]
        simp [hp]
    · exact .refl hs.asleep hs.head
    · exact .refl hs.asleep hs.head
  · exact .refl hs.asleep hs.head

/-- What such a handover leaves and hands on. -/
theorem slept_handle {g : Signal} (hg : g.kind ∈ sleptKinds) (hs : s.Sleeping) :
    Slept s (handle g s).1 ∧ (∀ x ∈ (handle g s).2, x.kind ∈ sleptKinds) ∧
      (g.kind ≠ Kind.pscWake → (handle g s).1.psc = s.psc ∧
        (g ≠ .pscLevels → ∀ x ∈ (handle g s).2, x.kind ≠ Kind.pscWake)) := by
  have hquiet : handle g s = quiet s → Slept s (handle g s).1 ∧ (∀ x ∈ (handle g s).2, x.kind ∈ sleptKinds) ∧
      (g.kind ≠ Kind.pscWake → (handle g s).1.psc = s.psc ∧ (g ≠ .pscLevels → ∀ x ∈ (handle g s).2, x.kind ≠ Kind.pscWake)) := fun e => by
    rw [e]; exact ⟨.refl hs.asleep hs.head, nofun, fun _ => ⟨rfl, nofun⟩⟩
  have hone : ∀ {K : List Signal}, (∀ k ∈ K, k ∈ sleptKinds ∧ k ≠ Kind.pscWake) → Act.Hands K (handle g s) → Slept s (handle g s).1 →
      (handle g s).1.psc = s.psc → Slept s (handle g s).1 ∧ (∀ x ∈ (handle g s).2, x.kind ∈ sleptKinds) ∧
      (g.kind ≠ Kind.pscWake → (handle g s).1.psc = s.psc ∧ (g ≠ .pscLevels → ∀ x ∈ (handle g s).2, x.kind ≠ Kind.pscWake)) :=
    fun hK hh hsl hp => ⟨hsl, fun x hx => (hK _ (hh x hx)).1, fun _ => ⟨hp, fun _ x hx => (hK _ (hh x hx)).2⟩⟩
  have hup : ∀ {K : List Signal}, (∀ k ∈ K, k ∈ sleptKinds ∧ k ≠ Kind.pscWake) → Act.Hands K (handle g s) → Upstream s (handle g s).1 →
      Slept s (handle g s).1 ∧ (∀ x ∈ (handle g s).2, x.kind ∈ sleptKinds) ∧
      (g.kind ≠ Kind.pscWake → (handle g s).1.psc = s.psc ∧ (g ≠ .pscLevels → ∀ x ∈ (handle g s).2, x.kind ≠ Kind.pscWake)) :=
    fun hK hh hu => hone hK hh (.of_upstream hs.asleep hs.head hu) hu.psc
  cases g
  case report r f =>
    have hr : r ≠ .forceCut := fun e => by simp [Signal.kind, e] at hg
    obtain ⟨t, L, he, ho, -, hL⟩ := composeReport_cases hr f s
    refine hup (K := [.arbiter]) (by decide) ?_ ?_
    · rw [handle, he]
      rcases hL with rfl | rfl | rfl <;> simp [Act.Hands, Signal.kind]
    · rw [handle, he]
      exact .of_offLine ho
  case arbiter =>
    obtain ⟨t, L, he, ho, hL⟩ := arbiterChoice_cases s
    refine hup (K := [.reportRemoved, .spaceEvent, .serve]) (by decide) ?_ ?_
    · rw [handle, he]
      rcases hL with rfl | ⟨-, rfl | rfl | rfl⟩ <;> simp [Act.Hands, Signal.kind]
    · rw [handle, he]
      exact .of_offLine ho
  case reportRemoved =>
    rcases offerOverflow_cases s with he | ⟨t, he, ho, -⟩
    · exact hquiet he
    · refine hup (K := [.arbiter]) (by decide) ?_ ?_
      · rw [handle, he]; simp [Act.Hands, Signal.kind]
      · rw [handle, he]; exact .of_offLine ho
  case spaceEvent =>
    have he := spaceEvent_of_idle hs.head
    refine hup (K := [.arbiter]) (by decide) ?_ ?_
    · rw [handle, he]; simp [Act.Hands, Signal.kind]
    · rw [handle, he]; exact upstream_queuePending _ s rfl
  case serve =>
    rcases serveQueue_of_idle hs.queue with he | ⟨t, he, ho, -⟩
    · exact hquiet he
    · refine hup (K := [.arbiter]) (by decide) ?_ ?_
      · rw [handle, he]; simp [Act.Hands, Signal.kind]
      · rw [handle, he]; exact .of_offLine ho
  case dlcRelease o =>
    have ho : Only [.dlc, .fbf] s (dockRelease o s).1 := dockRelease_only o s rfl
    refine hone (K := dockKinds) (by decide) (hands_dockRelease o s) (.of_only hs.asleep ho rfl (by rw [handle, ho.igt rfl]; exact hs.head)
      (by rw [handle, ho.ulp rfl])) (ho.psc rfl)
  case dockLevel n =>
    exact hone (K := [Kind.report, Kind.grantApplied]) (by decide) (dockRequest_kinds n s) (slept_dockRequest n hs)
      ((dockRequest_only n s (T := [.sbu, .pcc]) rfl).psc rfl)
  case grantApplied b =>
    rw [show handle (.grantApplied b) s = _ from grantApplied_eq b s]
    exact ⟨.of_only hs.asleep (T := [.dlc]) rfl rfl hs.head rfl, nofun, fun _ => ⟨rfl, fun _ => nofun⟩⟩
  case hauDock b => exact hquiet (if_neg (by simp [hs.asleep]))
  case pclDock =>
    by_cases hc : s.dlc.baseCond = s.pcl.cond
    · exact hquiet (if_pos hc)
    · have he : handle .pclDock s = ({ s with pcl := { s.pcl with cond := s.dlc.baseCond } }, [.pclEval, .spuEval .other]) := if_neg hc
      refine hone (K := [.pclEval, Kind.spuEval]) (by decide) ?_ ?_ ?_
      · rw [he]; simp [Act.Hands, Signal.kind]
      · rw [he]; exact ⟨hs.asleep, hs.head, rfl, rfl, rfl, rfl, rfl, rfl, id, rfl⟩
      · rw [he]
  case pclEval => exact hquiet (if_neg (by simp [hs.asleep]))
  case spuEval t => exact hquiet (spuEvaluate_of_unruled hs.unruled t)
  case igtDeparture =>
    have ho : Only [.igt, .fbf] s (gateDeparture s).1 := gateDeparture_only s rfl
    refine hone (K := [.arbiter]) (by decide) (by simp [Act.Hands, handle, gateDeparture, Signal.kind])
      (.of_only hs.asleep ho rfl ?_ (by rw [handle, ho.ulp rfl])) (ho.psc rfl)
    exact (gateDeparture_queued (s := s) rfl rfl).2.2.2.2.1
  case pscRecheck => exact hquiet (standbyRecheck_of_asleep hs.asleep)
  case pscDeferred => exact hquiet (deferredRecheck_of_asleep hs.asleep)
  case walkNext =>
    refine hquiet ?_
    rw [handle, walkNext]
    split
    · rfl
    · exact if_neg (by simp [hs.asleep])
  case servePower =>
    have ho : Only [.dlc] s (servePower s).1 := servePower_only s rfl
    exact hone (K := [.walkNext]) (by decide) (hands_servePower s) (.of_only hs.asleep ho rfl (by rw [handle, ho.igt rfl]; exact hs.head)
      (by rw [handle, ho.ulp rfl])) (ho.psc rfl)
  case pscLevels =>
    refine ⟨.refl hs.asleep hs.head, fun x hx => ?_, fun _ => ⟨rfl, fun h => (h rfl).elim⟩⟩
    rw [List.mem_singleton.mp (hands_levelConditions s x hx)]
    decide
  case pscWake src =>
    exact ⟨slept_wakeEvent src hs, fun x hx => (nomatch hands_wakeEvent (L := []) src s x hx), fun h => (h rfl).elim⟩
  all_goals exact absurd hg (of_decide_eq_false rfl)

/-- An input in LEVEL mode presents a wake condition; with none there is none. -/
theorem levelConditions_of_modes (h : ∀ i, s.par.mode i ≠ 0) : levelConditions s = quiet s := by
  rw [levelConditions, List.filter_eq_nil_iff.mpr fun i _ => by simp [h i]]
  rfl

/-- Asleep, with no sleep rule and the gate idle. -/
theorem Ends.slept (hl : ∀ g ∈ l, g.kind ∈ sleptKinds) (hs : s.Sleeping) :
    Ends k l s fun t => Slept s t ∧
      ((∀ i, s.par.mode i ≠ 0) → (∀ g ∈ l, g.kind ≠ Kind.pscWake) → t.psc = s.psc) := by
  have hK : ∀ g : Signal, g.kind ∈ sleptKinds → g.kind ≠ Kind.received ∧ g.idleBlocks.contains .par = false := by
    intro g hg
    refine ⟨fun e => by rw [e] at hg; exact absurd hg (by decide), ?_⟩
    rw [← idleBlocks_kind]
    have := List.all_eq_true.mp (show (sleptKinds.all fun k => !k.idleBlocks.contains .par) = true by decide) _ hg
    exact (Bool.not_eq_true' _).mp this
  have hmain : Ends k l s fun t => Slept s t := by
    refine Ends.of_keeps (fun g => g.kind ∈ sleptKinds) (fun t => Slept s t ∧ t.ulp.queue = []) ?_ hl
      ⟨.refl hs.asleep hs.head, hs.queue⟩ fun _ h => h.1
    rintro g t hg ⟨ht, hqt⟩
    obtain ⟨h1, h2, -⟩ := slept_handle hg (ht.sleeping hs hqt)
    exact ⟨⟨ht.trans h1, handle_queue (hK g hg).1 hqt⟩, h2⟩
  refine fun n hn => ⟨hmain n hn, fun hmode hlw => ?_⟩
  refine Ends.of_keeps (k := k) (fun g => g.kind ∈ sleptKinds ∧ g.kind ≠ Kind.pscWake)
    (fun t => Slept s t ∧ t.ulp.queue = [] ∧ t.par = s.par ∧ t.psc = s.psc) ?_ (fun g hg => ⟨hl g hg, hlw g hg⟩)
    ⟨.refl hs.asleep hs.head, hs.queue, rfl, rfl⟩ (Q := fun t => t.psc = s.psc) (fun _ h => h.2.2.2) n hn
  rintro g t ⟨hg, hgw⟩ ⟨ht, hqt, hpar, hpsc⟩
  obtain ⟨h1, h2, h3⟩ := slept_handle hg (ht.sleeping hs hqt)
  obtain ⟨h4, h5⟩ := h3 hgw
  refine ⟨⟨ht.trans h1, handle_queue (hK g hg).1 hqt, ((handle_idleBlocks hqt).par (hK g hg).2).trans hpar, h4.trans hpsc⟩,
    fun x hx => ⟨h2 x hx, ?_⟩⟩
  by_cases hlev : g = .pscLevels
  · subst hlev
    rw [handle, levelConditions_of_modes (by rw [hpar]; exact hmode)] at hx
    exact nomatch hx
  · exact h5 hlev x hx

/-! ### The entry to DOZE -/

theorem sbuPowerChange_upstream (s : State) :
    (∀ g ∈ (sbuPowerChange s).2, g.isUpstream = true) ∧ (sbuPowerChange s).2.length ≤ 2 := by
  obtain ⟨h1, h2⟩ := applyPen_upstream true (penSetpoint (s.par.bTotal - s.sbu.grant) s) s
  obtain ⟨h3, h4⟩ := budgetTail_upstream s (recompute true s).1
  have he : (sbuPowerChange s).2 = (recompute true s).2 ++ budgetTail s (recompute true s).1 := rfl
  rw [he]
  refine ⟨fun g hg => (List.mem_append.mp hg).elim (h1 g) (h3 g), ?_⟩
  rw [List.length_append]
  have : (recompute true s).2.length ≤ 1 := h2
  omega

/-- A power request QUIESCE while the part is awake moves the DLC's record at most. -/
theorem Ends.powerQuiesce (ha : s.awake = true) (h : ∀ t, Only [.dlc] s t → Ends k l t Q) :
    Ends (k + 3) (.dlcPowerReq .quiesce :: l) s Q := by
  have hquiet : ∀ d : Dlc, powerRequest .quiesce s = quiet { s with dlc := d } → Ends (k + 3) (.dlcPowerReq .quiesce :: l) s Q :=
    fun d he => Ends.le (Ends.step (k := k) he (by simp) (h _ rfl)) (by omega)
  by_cases hb : s.dlc.busy = true
  · exact hquiet _ (if_pos hb)
  · have he : powerRequest .quiesce s = (dockAuto .quiesce .psc s).2 := if_neg hb
    have hidle : s.dlc.step = none ∧ s.dlc.walk = none := by
      rw [Dlc.busy] at hb
      simpa using hb
    by_cases hst : s.dlc.state = .active
    · have hauto : handle (.dlcPowerReq .quiesce) s = startWalk .quiesce .psc s := by
        rw [handle, he, dockAuto, if_neg hb, if_pos (by rw [hst]; rfl)]
      exact Ends.step (k := k + 2) hauto (by simp) (Ends.walkQuiesce (o := .psc) (by exact hst) (by exact ha) (by exact hidle.1) rfl
        (h _ rfl))
    · refine hquiet s.dlc (he.trans ?_)
      rw [dockAuto, if_neg hb, if_neg]
      · split <;> rfl
      · unfold walkStep
        split <;> simp_all

/-- The state in which DOZE has been entered. -/
def State.dozed (s : State) : State := { s with psc := { s.psc with power := .doze, doze := none }, oru := s.oru.stop }

/-- The entry to DOZE up to the judgement of the standby timer. -/
theorem Ends.dozeEntered (hc : s.Calm)
    (h : ∀ t, t.Calm → Only [.dlc, .fbf, .sbu, .pcc, .ulp] s.dozed t → Ends k (.pscRecheck :: l) t Q) :
    Ends (k + 60) ((enterDoze s).2 ++ l) (enterDoze s).1 Q := by
  obtain ⟨hup, hlen⟩ := sbuPowerChange_upstream s.dozed
  have hone : Only [.sbu, .pcc] s.dozed (sbuPowerChange s.dozed).1 := sbuPowerChange_only _ rfl
  have hsig : ∃ rep f, (enterDoze s).2 = (.report rep f :: (sbuPowerChange s.dozed).2) ++
      (followPower .quiesce (sbuPowerChange s.dozed).1 ++ [.pscRecheck]) ∧ rep ≠ .forceCut :=
    ⟨.power, _, rfl, by simp⟩
  obtain ⟨rep, f, hsig, hrep⟩ := hsig
  have hcalm : (sbuPowerChange s.dozed).1.Calm := by
    rw [State.Calm, hone.igt rfl, hone.ulp rfl]
    exact hc
  have hstate : (enterDoze s).1 = (sbuPowerChange s.dozed).1 := rfl
  rw [hsig, hstate, List.append_assoc, List.append_assoc]
  refine Ends.le (Ends.noises (k := k + 3) (m := .report rep f :: (sbuPowerChange s.dozed).2) (fun g hg => ?_) ?_ hcalm fun t ht htc => ?_)
    (by omega)
  · rcases List.mem_cons.mp hg with rfl | hg
    · simp [Signal.isUpstream, hrep]
    · exact hup g hg
  · rw [List.length_cons]
    omega
  · have hot : Only [.dlc, .fbf, .sbu, .pcc, .ulp] s.dozed t := (hone.mono rfl).trans ((only_of_offLine ht).mono rfl)
    unfold followPower
    split
    · refine Ends.powerQuiesce (k := k) ?_ fun w hw => h w ?_ (hot.trans (hw.mono rfl))
      · rw [State.awake, hot.psc rfl]
        rfl
      · rw [State.Calm, hw.igt rfl, hw.ulp rfl]
        exact htc
    · exact Ends.le (h t htc hot) (by omega)

/-! ### The entry to STANDBY -/

/-- What an entry to STANDBY leaves. -/
theorem Ends.standbyEntered {b : Bool} (hc : s.Calm) (hmode : ∀ i, s.par.mode i ≠ 0) (hu : s.Unruled ∨ s.par.dockLines = 0) :
    Ends 1000 (enterStandby b s).2 (enterStandby b s).1 fun t => Slept (enterStandby b s).1 t ∧ t.psc = (standbyBlocks s).psc := by
  obtain ⟨hup, hlen⟩ := sbuPowerChange_upstream (standbyBlocks s)
  have hone : Only [.sbu, .pcc] (standbyBlocks s) (sbuPowerChange (standbyBlocks s)).1 := sbuPowerChange_only _ rfl
  have hstate : (enterStandby b s).1 = (sbuPowerChange (standbyBlocks s)).1 := rfl
  have hasleep : (enterStandby b s).1.awake = false := by rw [hstate, State.awake, hone.psc rfl]; rfl
  have hcalm : (enterStandby b s).1.Calm := by
    rw [hstate, State.Calm, hone.igt rfl, hone.ulp rfl]
    exact hc
  have hpar : (enterStandby b s).1.par = s.par := by rw [hstate, hone.par rfl]; rfl
  have hpsc : (enterStandby b s).1.psc = (standbyBlocks s).psc := by rw [hstate, hone.psc rfl]
  by_cases hur : s.Unruled
  · have hsl : (enterStandby b s).1.Sleeping := by
      refine ⟨hasleep, hcalm.1, hcalm.2.1, ?_⟩
      rw [hstate, State.Unruled, hone.spu rfl]
      exact hur
    have hkinds := hands_enterStandby b s
    refine Ends.mono (Ends.slept (fun g hg => (show ∀ k ∈ standbyKinds, k ∈ sleptKinds by decide) _ (hkinds g hg)) hsl) fun t ht =>
      ⟨ht.1, (ht.2 (by rw [hpar]; exact hmode) fun g hg e => ?_).trans hpsc⟩
    have := hkinds g hg
    rw [e] at this
    simp at this
  · have hlines := hu.resolve_left hur
    have hsig : ∃ f, (enterStandby b s).2 = (.report .power f :: (sbuPowerChange (standbyBlocks s)).2) ++
        ((if (sbuPowerChange (standbyBlocks s)).1.par.dockLines = 1 ∧ releasedAtStandby (sbuPowerChange (standbyBlocks s)).1.dlc.state
          then [.dlcRelease (some .psc)] else []) ++ [.pscLevels]) := ⟨_, rfl⟩
    obtain ⟨f, hsig⟩ := hsig
    rw [hsig, if_neg (by rw [hone.par rfl, show (standbyBlocks s).par = s.par from rfl, hlines]; simp)]
    refine Ends.le (Ends.noises (k := 1) (m := .report .power f :: (sbuPowerChange (standbyBlocks s)).2) (fun g hg => ?_) ?_ hcalm
      fun t ht htc => ?_) (by omega)
    · rcases List.mem_cons.mp hg with rfl | hg
      · rfl
      · exact hup g hg
    · rw [List.length_cons]
      omega
    · have hot := only_of_offLine ht
      refine Ends.skip (k := 0) (levelConditions_of_modes (by rw [hot.par rfl, hpar]; exact hmode)) (by simp) (Ends.nil ⟨?_, ?_⟩)
      · exact .of_only hasleep hot rfl (by rw [hot.igt rfl]; exact hcalm.2.1) (congrArg (fun x => x.ulp.rx) ht :)
      · rw [hot.psc rfl, hpsc]

theorem enterStandby_pen (b : Bool) (s : State) : (enterStandby b s).1.sbu.penSet = 0 := penSetpoint_of_asleep rfl

/-- Settles O43. -/
theorem dozeAndStandbyAreEntered : Obligations.DozeAndStandbyAreEntered := by
  refine ⟨fun r s hp hr hh hc => ?_, fun r s hc hmode => ⟨fun hr hd => ?_, fun hr hd hu => ?_, fun hp hdef hd hcond hu => ?_⟩⟩
  · have he : exec .dozeTimerExpiry s = finish (enterDoze (elapse r s)) := by
      change finish (dozeTimerExpiry s) = _
      rw [dozeTimerExpiry, if_pos hp, hr]
      rfl
    obtain ⟨t, ht, ⟨h1, h2, h3, h4, h5⟩, hcfg, hsib, -⟩ := exec_event (c := .dozeTimerExpiry) (s := s) (u := elapse r s)
      (a := enterDoze (elapse r s)) rfl (State.SameConfig.refl s) hc.1 he (if_pos hp) rfl rfl
      (Q := fun t => t.psc.power = .doze ∧ t.psc.doze = none ∧ t.psc.standby = none ∧
        t.oru = { (elapse r s).oru with dwell := none } ∧ t.spu = (elapse r s).spu) (by
        have := Ends.dozeEntered (s := elapse r s) (k := 1) (l := []) (Q := fun t => t.psc.power = .doze ∧ t.psc.doze = none ∧ t.psc.standby = none ∧
          t.oru = { (elapse r s).oru with dwell := none } ∧ t.spu = (elapse r s).spu) hc fun t htc ho => by
          have hpsc := ho.psc rfl
          have hpow : t.psc.power = .doze := by rw [hpsc]; rfl
          have hno : standbyCondition t = false := by
            rw [standbyCondition, ho.spu rfl, show (elapse r s).dozed.spu.host = .sleeping from hh]
            rfl
          have he' : handle .pscRecheck t = quiet { t with psc := { t.psc with standby := none, deferred := false } } := by
            rw [handle, standbyRecheck, if_pos hpow, hno]
            rfl
          refine Ends.step (k := 0) he' (by simp) (Ends.nil ⟨hpow, ?_, rfl, ho.oru rfl, ho.spu rfl⟩)
          exact (congrArg Psc.doze hpsc :)
        rw [List.append_nil] at this
        exact Ends.le this (by omega))
    exact ⟨t, ht, h1, h2, h3, h4, h5, hcfg, hsib⟩
  · have he : standbyTimerExpiry s = quiet { elapse r s with psc := { (elapse r s).psc with standby := none, deferred := true } } := by
      rw [standbyTimerExpiry, hr]
      exact if_pos hd
    exact (congrArg finish he).trans (finish_quiet _)
  · have hdue : standbyDue (elapse r s) = enterStandby false (elapse r s) :=
      if_neg (by rw [show deferring (elapse r s) = deferring s from rfl, hd]; simp)
    have hsome : (elapse r s).psc.standby.isSome = true := by
      change (s.psc.standby.pass r).isSome = true
      rw [hr]
      rfl
    have he : exec .standbyTimerExpiry s = finish (enterStandby false (elapse r s)) := by
      refine congrArg finish ?_
      rw [standbyTimerExpiry, hr]
      exact hdue
    obtain ⟨t, ht, ⟨hsl, hpsc⟩, hcfg, hsib, -⟩ := exec_event (c := .standbyTimerExpiry) (s := s) (u := elapse r s)
      (a := enterStandby false (elapse r s)) rfl (State.SameConfig.refl s) hc.1 he ((if_pos hsome).trans hdue) rfl rfl
      (Ends.standbyEntered (s := elapse r s) hc hmode hu)
    refine ⟨t, ht, hpsc, hsl.sample, ?_, ?_, ?_, hsl.meas, hsl.temp, hsl.pen (enterStandby_pen _ _), hsl.rx, hcfg, hsib⟩
    · rw [hsl.oru]; rfl
    · rw [hsl.pcl]; rfl
    · rw [hsl.pcl]; rfl
  · have hdue : deferredRecheck s = enterStandby true s := if_pos ⟨hp, hdef, hcond, by rw [hd]; rfl⟩
    have he : exec .deferredStandbyEntry s = finish (enterStandby true s) := congrArg finish hdue
    obtain ⟨t, ht, ⟨hsl, hpsc⟩, hcfg, hsib, -⟩ := exec_event (c := .deferredStandbyEntry) (s := s) (u := s)
      (a := enterStandby true s) rfl (State.SameConfig.refl s) hc.1 he hdue rfl rfl
      (Ends.standbyEntered hc hmode hu)
    refine ⟨t, ht, hpsc, hsl.sample, ?_, ?_, hsl.pen (enterStandby_pen _ _), hsl.rx, hcfg, hsib⟩
    · rw [hsl.oru]; rfl
    · rw [hsl.pcl]; rfl

end

end Sys2Proof.Machine
end

section
/-! PROOFS. The actions of sleep rules, the wake timer, a pending wake. -/

namespace Sys2Proof.Machine

open Sys2Proof

section
variable {s t u : State} {ct : Byte} {k : Nat} {l : List Signal} {Q : State → Prop} {i : Nat}

/-! ### Evaluations and actions -/

theorem ruleHolds_congr (hp : t.pcl = s.pcl) (hs : t.sib = s.sib) (hc : t.pcc = s.pcc) (hi : t.igt = s.igt) (hb : t.sbu = s.sbu) :
    ruleHolds t = ruleHolds s := by
  funext r
  rw [ruleHolds, ruleHolds, hp, hs, hc, hi, hb]

theorem governingRule_congr (hr : t.spu.rules = s.spu.rules) (hp : t.pcl = s.pcl) (hs : t.sib = s.sib) (hc : t.pcc = s.pcc)
    (hi : t.igt = s.igt) (hb : t.sbu = s.sbu) : governingRule t = governingRule s := by
  rw [governingRule, governingRule, hr, ruleHolds_congr hp hs hc hi hb]

theorem governingRule_of_only (h : Only [.fbf, .spu, .psc, .ulp] s t) (hr : t.spu.rules = s.spu.rules) :
    governingRule t = governingRule s :=
  governingRule_congr hr (h.pcl rfl) (h.sib rfl) (h.pcc rfl) (h.igt rfl) (h.sbu rfl)

/-- The rule whose action the policy would take has none to take in this state. -/
structure Spu.Rests (b : Spu) (i : Nat) : Prop where
  sleep : (b.rules.getD i defaultRule).action = .adviseSleep → b.host ≠ .running
  wake : (b.rules.getD i defaultRule).action = .adviseWake →
    b.cutStage = .none ∧ (b.host = .running ∨ b.host = .waking)

/-- What an action of a rule does once it is marked as taken. -/
def SleepAction.acts (i : Nat) (s : State) : SleepAction → Act
  | .adviseSleep => Machine.adviseSleep i s
  | .adviseWake => wakeRequest (.rule i) s
  | .keepAwake => quiet s

theorem spuAction_eq (hg : s.spu.governing = some i) (hf : s.spu.fired = false) :
    spuAction s = (s.spu.rules.getD i defaultRule).action.acts i s.acted := by
  rw [spuAction, hg]
  dsimp only
  rw [if_neg (by rw [hf]; simp)]
  change (match (s.spu.rules.getD i defaultRule).action with
    | .adviseSleep => adviseSleep i s.acted
    | .adviseWake => wakeRequest (.rule i) s.acted
    | .keepAwake => quiet s.acted) = _
  cases (s.spu.rules.getD i defaultRule).action <;> rfl

/-- An action without effect is taken. -/
theorem spuAction_of_rests (hg : s.spu.governing = some i) (hf : s.spu.fired = false) (hr : s.spu.Rests i) :
    spuAction s = quiet s.acted := by
  rw [spuAction_eq hg hf]
  cases ha : (s.spu.rules.getD i defaultRule).action with
  | adviseSleep => exact if_neg (hr.sleep ha)
  | adviseWake =>
    obtain ⟨hc, hh⟩ := hr.wake ha
    change wakeRequest (.rule i) s.acted = _
    rw [wakeRequest, if_neg (show ¬ s.acted.spu.cutStage ≠ .none by rw [show s.acted.spu.cutStage = .none from hc]; simp)]
    rcases hh with hh | hh <;> rw [show s.acted.spu.host = _ from hh]
  | keepAwake => rfl

/-- The episode of the policy's record. -/
def State.episode (f : Bool) (d : Timer) (s : State) : State := { s with spu := { s.spu with fired := f, dwell := d } }

/-- The rule that goes on governing begins a new episode when the host state changes. -/
theorem Ends.renewed (hg : governingRule s = s.spu.governing)
    (hr : ∀ i, s.spu.governing = some i → (s.spu.rules.getD i defaultRule).dwell = 0 → s.spu.Rests i)
    (h : ∀ f d, (∀ i, s.spu.governing = some i → 0 < (s.spu.rules.getD i defaultRule).dwell →
        f = false ∧ d = some (s.spu.rules.getD i defaultRule).dwell) →
      (s.spu.governing = none → f = s.spu.fired ∧ d = s.spu.dwell) → Ends k l (s.episode f d) Q) :
    Ends (k + 2) (.spuEval .host :: l) s Q := by
  cases hgov : s.spu.governing with
  | none =>
    have he : spuEvaluate .host s = quiet s := by
      rw [spuEvaluate, hg, hgov]
      simp [SpuTrigger.renews]
    refine Ends.le (Ends.skip (k := k) he (by simp) (h s.spu.fired s.spu.dwell (fun i hi => ?_) fun _ => ⟨rfl, rfl⟩)) (by omega)
    rw [hgov] at hi
    exact nomatch hi
  | some i =>
    have he : spuEvaluate .host s = beginEpisode (some i) s := by
      rw [spuEvaluate, hg, hgov]
      simp [SpuTrigger.renews, SpuTrigger.writes]
      rfl
    have hb : beginEpisode (some i) s = if (s.spu.rules.getD i defaultRule).dwell = 0 then (s.episode false none, [.spuAction])
        else quiet (s.episode false (some (s.spu.rules.getD i defaultRule).dwell)) := by
      unfold beginEpisode State.episode
      dsimp only
      rw [← hgov]
    by_cases hd : (s.spu.rules.getD i defaultRule).dwell = 0
    · have he' : handle (.spuEval .host) s = (s.episode false none, [.spuAction]) := (he.trans hb).trans (if_pos hd)
      have hrest := hr i hgov hd
      refine Ends.step (k := k + 1) he' (by simp) (Ends.step (k := k) (new := []) (t := s.episode true none) ?_ (by simp)
        (h true none (fun j hj hpos => ?_) fun hn => ?_))
      · exact spuAction_of_rests (s := s.episode false none) (i := i) hgov rfl ⟨hrest.sleep, hrest.wake⟩
      · rw [hgov] at hj
        cases hj
        omega
      · rw [hgov] at hn
        exact nomatch hn
    · have he' : handle (.spuEval .host) s = quiet (s.episode false (some (s.spu.rules.getD i defaultRule).dwell)) :=
        (he.trans hb).trans (if_neg hd)
      refine Ends.le (Ends.step (k := k) he' (by simp) (h _ _ (fun j hj _ => ?_) fun hn => ?_)) (by omega)
      · rw [hgov] at hj
        cases hj
        exact ⟨rfl, rfl⟩
      · rw [hgov] at hn
        exact nomatch hn

/-- A change of host state by the policy in RUN: the policy's record but for a new episode, the doze timer and the line. -/
structure Taken (s t : State) : Prop where
  spu : ∃ f d, t.spu = { s.spu with fired := f, dwell := d } ∧
    (∀ i, s.spu.governing = some i → 0 < (s.spu.rules.getD i defaultRule).dwell →
      f = false ∧ d = some (s.spu.rules.getD i defaultRule).dwell) ∧
    (s.spu.governing = none → f = s.spu.fired ∧ d = s.spu.dwell)
  only : Only [.fbf, .spu, .psc, .ulp] s t

theorem Ends.taken_host {r : ReportKind} {f : List Byte} {old new : HostState} (hrep : r ≠ .forceCut) (hc : s.Calm)
    (hp : s.psc.power = .run) (hn : new.dozes = false) (hg : governingRule s = s.spu.governing)
    (hr : ∀ i, s.spu.governing = some i → (s.spu.rules.getD i defaultRule).dwell = 0 → s.spu.Rests i)
    (hl : ∀ g ∈ l, g.kind ∈ [Kind.reply, .serve]) :
    Ends 600 ((.report r f :: hostSignals old new) ++ l) s (Taken s) := by
  refine Ends.le (Ends.noise (k := 400) (g := .report r f) (l := hostSignals old new ++ l) (by simp [Signal.isUpstream, hrep]) hc
    fun u hu huc => ?_) (by omega)
  have hou := only_of_offLine hu
  refine Ends.le (Ends.hostMoved (k := 300) huc (by rw [hou.psc rfl]; exact hp) (fun h => (nomatch hn.symm.trans h))
    fun v m hm hvc hov hvp _ => ?_) (by omega)
  have hsv : Only [.fbf, .psc, .ulp] s v := (hou.mono rfl).trans hov
  have hspu : v.spu = s.spu := hsv.spu rfl
  refine Ends.le (Ends.renewed (k := 200) ?_ ?_ fun f' d' h1 h2 => ?_) (by omega)
  · rw [governingRule_of_only (hsv.mono rfl) (by rw [hspu]), hspu, hg]
  · rw [hspu]; exact hr
  · rw [hspu] at h1 h2
    have hstart : Taken s (v.episode f' d') := by
      refine ⟨⟨f', d', ?_, h1, h2⟩, Only.trans (t := v) (hsv.mono rfl) rfl⟩
      rw [State.episode, hspu]
    refine Ends.mono (Ends.answering (k := 200) (s := v.episode f' d') (fun g hg => ?_) hvc ?_) fun w hw => ?_
    · rcases hm with rfl | rfl
      · exact hl g hg
      · rcases List.mem_append.mp hg with hg | hg
        · exact hl g hg
        · exact kinds_all (l := [.serve]) rfl g hg
    · rw [show (v.episode f' d').psc = v.psc from rfl, hvp, hou.psc rfl]
      exact hp
    · obtain ⟨⟨f1, d1, h3, h4, h5⟩, ho⟩ := hstart
      exact ⟨⟨f1, d1, (hw.spu rfl).trans h3, h4, h5⟩, ho.trans (hw.mono rfl)⟩

/-! ### SLEEP_DWELL_EXPIRY -/

theorem exec_sleepDwell {r : Nat} {a : Act} (hr : s.spu.dwell = some r) (hg : s.spu.governing = some i) (hf : s.spu.fired = false)
    (ha : (s.spu.rules.getD i defaultRule).action.acts i (elapse r s).acted = a) :
    exec .sleepDwellExpiry s = finish a ∧ (Instr.sleepDwellExpiry).core (elapse r s) = a := by
  have he : spuAction (elapse r s) = a := (spuAction_eq (s := elapse r s) hg hf).trans ha
  exact ⟨(finish_expiry hr).trans (congrArg finish he), he⟩

/-- An action that moves the host in RUN. -/
theorem exec_sleepDwell_moves {r : Nat} {rep : ReportKind} {f : List Byte} {old new : HostState} (hr : s.spu.dwell = some r)
    (hg : s.spu.governing = some i) (hf : s.spu.fired = false)
    (ha : (s.spu.rules.getD i defaultRule).action.acts i (elapse r s).acted = (u, .report rep f :: hostSignals old new))
    (hu : Only [.spu] (elapse r s) u) (hrep : rep ≠ .forceCut) (hc : s.Calm) (hp : s.psc.power = .run) (hn : new.dozes = false)
    (hrules : u.spu.rules = s.spu.rules) (hgov : u.spu.governing = some i) (hfirst : governingRule (elapse r s) = some i)
    (hrest : u.spu.Rests i) :
    ∃ t, exec .sleepDwellExpiry s = .next t ∧ (∃ f d, t.spu = { u.spu with fired := f, dwell := d } ∧
      (0 < (s.spu.rules.getD i defaultRule).dwell → f = false ∧ d = some (s.spu.rules.getD i defaultRule).dwell)) ∧
      s.SameConfig t ∧ Only [.fbf, .spu, .psc, .ulp] (elapse r s) t := by
  obtain ⟨he, hcore⟩ := exec_sleepDwell hr hg hf ha
  have hcalm : u.Calm := by
    rw [State.Calm, hu.igt rfl, hu.ulp rfl]
    exact hc
  have hends := Ends.taken_host (s := u) (l := []) (old := old) (new := new) (f := f) hrep hcalm (by rw [hu.psc rfl]; exact hp) hn
    (by rw [governingRule_of_only (hu.mono rfl) (by rw [hrules]; rfl), hfirst, hgov])
    (fun j hj _ => by rw [hgov] at hj; cases hj; exact hrest) nofun
  rw [List.append_nil] at hends
  obtain ⟨t, ht, ⟨⟨f', d', h1, h2, -⟩, ho⟩, hcfg, -⟩ := exec_event (c := .sleepDwellExpiry) (s := s) (u := elapse r s) rfl
    (State.SameConfig.refl s) hc.1 he hcore rfl rfl (Ends.le hends (by omega))
  rw [hrules] at h2
  exact ⟨t, ht, ⟨f', d', h1, h2 i hgov⟩, hcfg, (hu.mono rfl).trans ho⟩

/-- An action without effect is the whole of the event. -/
theorem exec_sleepDwell_acted {r : Nat} (hr : s.spu.dwell = some r) (hg : s.spu.governing = some i) (hf : s.spu.fired = false)
    (h : s.spu.Rests i) : exec .sleepDwellExpiry s = .next (elapse r s).acted := by
  have he : spuAction (elapse r s) = quiet (elapse r s).acted := spuAction_of_rests (s := elapse r s) hg hf ⟨h.sleep, h.wake⟩
  exact ((finish_expiry hr).trans (congrArg finish he)).trans (finish_quiet _)

/-- A wake request that takes effect. -/
theorem wakeRequest_wakes_host {src : WakeSource} (hc : s.spu.cutStage = .none)
    (hh : s.spu.host = .sleeping ∨ s.spu.host = .entering ∨ s.spu.host = .off) :
    wakeRequest src s =
      ({ s with
          spu :=
            { s.spu with
              before := some s.spu.host, host := .waking, compliance := none, advising := none, wakeSrc := some src,
              wakeReq := true, wakeTimer := some (s.par.wakeTime * 1000) } },
        wakeAdviceReport src s.spu.host :: hostSignals s.spu.host .waking) := by
  rw [wakeRequest, if_neg (by rw [hc]; simp)]
  rcases hh with hh | hh | hh <;> rw [hh]

theorem wakeRequest_withdraws {src : WakeSource} (hc : s.spu.cutStage = .none) (hh : s.spu.host = .advised) :
    wakeRequest src s = withdraw (.wake src) s.spu.governing s := by
  rw [wakeRequest, if_neg (by rw [hc]; simp), hh]

/-- A report and a change of host state. -/
theorem wakeAdvice_report (src : WakeSource) (h : HostState) : ∃ f, wakeAdviceReport src h = .report .wakeAdvice f := ⟨_, rfl⟩

theorem withdraw_eq (c : WithdrawCause) (g : Option Nat) (s : State) :
    ∃ f, withdraw c g s = ({ s with spu := { s.spu with host := .running, compliance := none, advising := none } },
      .report .adviceWithdrawn f :: hostSignals s.spu.host .running) := ⟨_, rfl⟩

/-- An action without effect, by the rule's action. -/
theorem sleepDwell_actions (r i : Nat) (s : State) (hr : s.spu.dwell = some r) (hg : s.spu.governing = some i) (hf : s.spu.fired = false) :
    ((s.spu.rules.getD i defaultRule).action = .keepAwake → exec .sleepDwellExpiry s = .next (elapse r s).acted) ∧
      ((s.spu.rules.getD i defaultRule).action = .adviseSleep → s.spu.host ≠ .running →
        exec .sleepDwellExpiry s = .next (elapse r s).acted) ∧
      ((s.spu.rules.getD i defaultRule).action = .adviseWake → s.spu.cutStage = .none → s.spu.host = .running ∨ s.spu.host = .waking →
        exec .sleepDwellExpiry s = .next (elapse r s).acted) := by
  refine ⟨fun h => ?_, fun h hh => ?_, fun h hc hh => ?_⟩
  all_goals refine exec_sleepDwell_acted hr hg hf ⟨fun h' => ?_, fun h' => ?_⟩
  · rw [h] at h'; exact nomatch h'
  · rw [h] at h'; exact nomatch h'
  · exact hh
  · rw [h] at h'; exact nomatch h'
  · rw [h] at h'; exact nomatch h'
  · exact ⟨hc, hh⟩

/-- ADVISE_SLEEP advises a host that runs. -/
theorem sleepDwell_advises (r i : Nat) (s : State) (hr : s.spu.dwell = some r) (hg : s.spu.governing = some i)
    (hf : s.spu.fired = false) (hfirst : governingRule (elapse r s) = some i)
    (ha : (s.spu.rules.getD i defaultRule).action = .adviseSleep) (hh : s.spu.host = .running) (hc : s.Calm)
    (hp : s.psc.power = .run) :
    ∃ t, exec .sleepDwellExpiry s = .next t ∧ t.spu.host = .advised ∧ t.spu.advising = some i ∧
      t.spu.governing = some i ∧ t.spu.compliance = some (s.par.compliance * 1000) ∧ t.spu.stage = 1 ∧ s.SameConfig t ∧
      Only [.fbf, .spu, .psc, .ulp] (elapse r s) t := by
  have hact : (s.spu.rules.getD i defaultRule).action.acts i (elapse r s).acted =
      ({ (elapse r s).acted with
          spu := { (elapse r s).acted.spu.startCompliance s.par.compliance with host := .advised, advising := some i } },
        sleepAdviceReport i (elapse r s).acted :: hostSignals .running .advised) := by
    rw [ha]
    exact if_pos hh
  have hwake : ∀ x : Spu, x.rules = s.spu.rules → x.host = .advised → x.Rests i := by
    intro x hx hxh
    refine ⟨fun _ => by rw [hxh]; simp, fun h => ?_⟩
    rw [hx, ha] at h
    exact nomatch h
  obtain ⟨t, ht, ⟨f, d, hspu, -⟩, hcfg, ho⟩ := exec_sleepDwell_moves (rep := .sleepAdvice) hr hg hf hact rfl (by simp) hc hp rfl rfl hg hfirst
    (hwake _ rfl rfl)
  refine ⟨t, ht, ?_, ?_, ?_, ?_, ?_, hcfg, ho⟩
  · rw [hspu]
  · rw [hspu]
  · rw [hspu]; exact hg
  · rw [hspu]; rfl
  · rw [hspu]; rfl

/-- ADVISE_WAKE: a wake that waits for a cut, one that wakes the host, one that withdraws an advice. -/
theorem sleepDwell_wakes (r i : Nat) (s : State) (hr : s.spu.dwell = some r) (hg : s.spu.governing = some i)
    (hf : s.spu.fired = false) (ha : (s.spu.rules.getD i defaultRule).action = .adviseWake) :
    (s.spu.cutStage ≠ .none →
      exec .sleepDwellExpiry s =
        .next { (elapse r s).acted with spu := { (elapse r s).acted.spu with pendingWake := some (.rule i) } }) ∧
    (s.spu.cutStage = .none → governingRule (elapse r s) = some i → s.Calm → s.psc.power = .run →
      (s.spu.host = .sleeping ∨ s.spu.host = .entering ∨ s.spu.host = .off →
        ∃ t, exec .sleepDwellExpiry s = .next t ∧ t.spu.host = .waking ∧ t.spu.before = some s.spu.host ∧
          t.spu.wakeSrc = some (.rule i) ∧ t.spu.wakeReq = true ∧ t.spu.wakeTimer = some (s.par.wakeTime * 1000) ∧
          t.spu.compliance = none ∧ t.spu.advising = none ∧ t.spu.governing = some i ∧
          (0 < (s.spu.rules.getD i defaultRule).dwell →
            t.spu.fired = false ∧ t.spu.dwell = some (s.spu.rules.getD i defaultRule).dwell) ∧
          s.SameConfig t ∧ Only [.fbf, .spu, .psc, .ulp] (elapse r s) t) ∧
        (s.spu.host = .advised →
          ∃ t, exec .sleepDwellExpiry s = .next t ∧ t.spu.host = .running ∧ t.spu.compliance = none ∧
            t.spu.advising = none ∧ t.spu.governing = some i ∧
            (0 < (s.spu.rules.getD i defaultRule).dwell →
              t.spu.fired = false ∧ t.spu.dwell = some (s.spu.rules.getD i defaultRule).dwell) ∧
            s.SameConfig t ∧ Only [.fbf, .spu, .psc, .ulp] (elapse r s) t)) := by
  have hact : ∀ {a : Act}, wakeRequest (.rule i) (elapse r s).acted = a →
      (s.spu.rules.getD i defaultRule).action.acts i (elapse r s).acted = a := fun h => by rw [ha]; exact h
  have hrests : ∀ x : Spu, x.rules = s.spu.rules → x.cutStage = s.spu.cutStage → s.spu.cutStage = .none →
      x.host = .running ∨ x.host = .waking → x.Rests i := by
    intro x hx hcut h0 hh
    refine ⟨fun h => ?_, fun _ => ⟨hcut.trans h0, hh⟩⟩
    rw [hx, ha] at h
    exact nomatch h
  refine ⟨fun hcut => ?_, fun hcut hfirst hc hp => ⟨fun hh => ?_, fun hh => ?_⟩⟩
  · obtain ⟨he, -⟩ := exec_sleepDwell hr hg hf (hact (if_pos hcut))
    exact he.trans (finish_quiet _)
  · have hw := wakeRequest_wakes_host (s := (elapse r s).acted) (src := .rule i) hcut hh
    obtain ⟨t, ht, ⟨f, d, hspu, hep⟩, hcfg, ho⟩ := exec_sleepDwell_moves (rep := .wakeAdvice) hr hg hf (hact hw) rfl (by simp) hc hp rfl rfl hg
      hfirst (hrests _ rfl rfl hcut (.inr rfl))
    refine ⟨t, ht, ?_, ?_, ?_, ?_, ?_, ?_, ?_, ?_, fun h => ?_, hcfg, ho⟩
    on_goal 9 => rw [hspu]; exact hep h
    on_goal 8 => rw [hspu]; exact hg
    all_goals (rw [hspu]; try rfl)
  · obtain ⟨f, hwd⟩ := withdraw_eq (.wake (.rule i)) (elapse r s).acted.spu.governing (elapse r s).acted
    have hw := (wakeRequest_withdraws (s := (elapse r s).acted) (src := .rule i) hcut hh).trans hwd
    obtain ⟨t, ht, ⟨f', d, hspu, hep⟩, hcfg, ho⟩ := exec_sleepDwell_moves (rep := .adviceWithdrawn) hr hg hf (hact hw) rfl (by simp) hc hp rfl rfl hg
      hfirst (hrests _ rfl rfl hcut (.inl rfl))
    refine ⟨t, ht, ?_, ?_, ?_, ?_, fun h => ?_, hcfg, ho⟩
    · rw [hspu]
    · rw [hspu]
    · rw [hspu]
    · rw [hspu]; exact hg
    · rw [hspu]; exact hep h

/-! ### The wake timer and a pending wake -/

/-- The standby timer is judged behind an entry to DOZE, and nothing of it moves the policy's record. -/
theorem Ends.recheckedSpu (hc : s.Calm) (hu : s.Unruled) :
    Ends (k + 2) [.pscRecheck, .spuEval .host] s fun t => t.spu = s.spu := by
  have heval : ∀ p : Psc, Ends (k + 1) [.spuEval .host] { s with psc := p } fun t => t.spu = s.spu := fun p =>
    Ends.spuEval_unruled (k := k) (by exact hu) (Ends.nil rfl)
  have hstep : ∀ p : Psc, standbyRecheck s = quiet { s with psc := p } → Ends (k + 2) [.pscRecheck, .spuEval .host] s fun t => t.spu = s.spu :=
    fun p he => Ends.step (k := k + 1) he (by simp) (heval p)
  have hcases : (∃ p : Psc, standbyRecheck s = quiet { s with psc := p }) ∨ standbyRecheck s = enterStandby false s := by
    unfold standbyRecheck standbyDue
    split_ifs
    · exact .inl ⟨_, rfl⟩
    · exact .inr rfl
    all_goals exact .inl ⟨_, rfl⟩
  rcases hcases with ⟨p, he⟩ | he
  · exact hstep p he
  · refine Ends.cons (k := k + 1) (by simp) ?_
    rw [show handle .pscRecheck s = enterStandby false s from he]
    have ho : Only [.hau, .oru, .pcl, .dlc, .sbu, .pcc, .psc, .ulp] s (enterStandby false s).1 := enterStandby_only false s rfl
    have hsl : (enterStandby false s).1.Sleeping := by
      refine ⟨rfl, hc.1, ?_, ?_⟩
      · rw [ho.igt rfl]; exact hc.2.1
      · rw [State.Unruled, ho.spu rfl]; exact hu
    refine Ends.mono (Ends.slept (fun g hg => ?_) hsl) fun t ht => ht.1.spu.trans (ho.spu rfl)
    rcases List.mem_append.mp hg with hg | hg
    · exact (show ∀ k ∈ standbyKinds, k ∈ sleptKinds by decide) _ (hands_enterStandby false s g hg)
    · exact kinds_all (l := [.spuEval .host]) rfl g hg

/-- A change from WAKING in RUN, behind a report, with no sleep rule: the policy's record stays as it is. -/
theorem Ends.wokenSpu {r : ReportKind} {f : List Byte} {new : HostState} (hrep : r ≠ .forceCut) (hc : s.Calm) (hu : s.Unruled)
    (hp : s.psc.power = .run) :
    Ends 600 (.report r f :: hostSignals .waking new) s fun t => t.spu = s.spu := by
  refine Ends.le (Ends.noise (k := 400) (g := .report r f) (by simp [Signal.isUpstream, hrep]) hc fun u hu' huc => ?_) (by omega)
  have hou := only_of_offLine hu'
  have hspu : u.spu = s.spu := hou.spu rfl
  have hup : u.psc.power = .run := by rw [hou.psc rfl]; exact hp
  have huu : u.Unruled := by rw [State.Unruled, hspu]; exact hu
  by_cases hd : new.dozes = true → 0 < u.par.dozeDelay
  · have := Ends.hostMoved (k := 300) (l := []) (old := .waking) (new := new) (Q := fun t => t.spu = s.spu) huc hup hd
      fun v m hm hvc hov hvp _ => by
        have hvu : v.Unruled := by rw [State.Unruled, hov.spu rfl]; exact huu
        refine Ends.le (Ends.spuEval_unruled (k := 200) hvu ?_) (by omega)
        refine Ends.mono (Ends.answering (k := 200) (fun g hg => ?_) hvc (by rw [hvp]; exact hup)) fun w hw => ?_
        · rcases hm with rfl | rfl
          · exact nomatch hg
          · exact kinds_all (l := [.serve]) rfl g hg
        · rw [hw.spu rfl, hov.spu rfl, hspu]
    rw [List.append_nil] at this
    exact Ends.le this (by omega)
  · obtain ⟨hdz, hzero⟩ := not_forall.mp hd
    have hdelay : u.par.dozeDelay = 0 := by omega
    have hheld : new.held = true := by cases new <;> simp_all [HostState.dozes, HostState.held]
    have hsig : hostSignals .waking new = [.pscHost .waking new, .spuEval .host] := by
      rw [hostSignals, hheld]
      rfl
    rw [hsig]
    have henter : handle (.pscHost .waking new) u = enterDoze u := by
      change hostChanged .waking new u = _
      unfold hostChanged
      rw [hup, hdz]
      exact (if_pos rfl).trans ((if_neg Bool.false_ne_true).trans (if_pos hdelay))
    refine Ends.cons (k := 399) (by simp) ?_
    rw [henter]
    refine Ends.le (Ends.dozeEntered (k := 2) (l := [.spuEval .host]) huc fun w hwc how => ?_) (by omega)
    have hwspu : w.spu = s.spu := (how.spu rfl).trans hspu
    have := Ends.recheckedSpu (k := 0) hwc (by rw [State.Unruled, hwspu]; exact hu)
    rw [hwspu] at this
    exact this

/-- WAKE_TIMER_EXPIRY and PENDING_WAKE_SERVE with no sleep rule. -/
theorem wakeTimer_and_pending (s : State) (hu : s.Unruled) (hc : s.Calm) :
    (∀ r, s.spu.wakeTimer = some r → ∀ b, s.spu.before = some b → s.spu.host = .waking → s.psc.power = .run →
      ∃ t, exec .wakeTimerExpiry s = .next t ∧ t.spu.host = b ∧ t.spu.wakeReq = false ∧ t.spu.wakeTimer = none ∧
        t.spu.before = none ∧ t.spu.wakeSrc = none ∧
        (b = .entering → t.spu.compliance = some (s.par.compliance * 1000) ∧ t.spu.stage = 1) ∧ s.SameConfig t ∧
        t.sib = (elapse r s).sib) ∧
      (∀ src, s.spu.pendingWake = some src → s.spu.cutStage = .none → s.spu.host = .off →
        ∃ t, exec .pendingWakeServe s = .next t ∧ t.spu.host = .waking ∧ t.spu.wakeReq = true ∧
          t.spu.before = some .off ∧ t.spu.wakeSrc = some src ∧ t.spu.pendingWake = none ∧
          t.spu.wakeTimer = some (s.par.wakeTime * 1000) ∧ s.SameConfig t ∧ t.sib = s.sib) ∧
      (∀ src, s.spu.pendingWake = some src → s.spu.cutStage = .none → s.spu.host = .running →
        exec .pendingWakeServe s = .next { s with spu := { s.spu with pendingWake := none } }) := by
  refine ⟨fun r hr b hb hh hp => ?_, fun src hsrc hcut hh => ?_, fun src hsrc hcut hh => ?_⟩
  · have hfail : ∃ (x : Spu) (f : List Byte), wakeFailed (elapse r s) =
        ({ elapse r s with spu := x }, .report .wakeFailed f :: hostSignals .waking b) ∧ x.host = b ∧ x.wakeReq = false ∧
          x.wakeTimer = none ∧ x.before = none ∧ x.wakeSrc = none ∧
          (b = .entering → x.compliance = some (s.par.compliance * 1000) ∧ x.stage = 1) ∧ x.rules = s.spu.rules ∧
          x.governing = s.spu.governing := by
      have hback : (elapse r s).spu.before.getD .off = b := by
        change s.spu.before.getD .off = b
        rw [hb]
        rfl
      rw [wakeFailed, if_pos (show (elapse r s).spu.host = .waking from hh), hback]
      by_cases he : b = .entering
      · simp only [if_pos he]
        exact ⟨_, _, rfl, rfl, rfl, rfl, rfl, rfl, fun _ => ⟨rfl, rfl⟩, rfl, rfl⟩
      · simp only [if_neg he]
        exact ⟨_, _, rfl, rfl, rfl, rfl, rfl, rfl, fun h => (he h).elim, rfl, rfl⟩
    obtain ⟨x, f, he, h1, h2, h3, h4, h5, h6, hrules, hgov⟩ := hfail
    obtain ⟨t, ht, hspu, hcfg, hsib, -⟩ := exec_event (c := .wakeTimerExpiry) (s := s) (u := elapse r s) rfl (State.SameConfig.refl s) hc.1
      ((finish_expiry hr).trans (congrArg finish he)) he rfl rfl
      (Ends.le (Ends.wokenSpu (s := { elapse r s with spu := x }) (new := b) (r := .wakeFailed) (f := f) (by simp) (by exact hc)
        ⟨by rw [hrules]; exact hu.1, hgov.trans hu.2⟩ (by exact hp)) (by omega))
    refine ⟨t, ht, ?_, ?_, ?_, ?_, ?_, fun hbe => ?_, hcfg, hsib⟩
    all_goals rw [hspu]
    · exact h1
    · exact h2
    · exact h3
    · exact h4
    · exact h5
    · exact h6 hbe
  · have hserve : servePendingWake s = wakeRequest src { s with spu := { s.spu with pendingWake := none } } := by
      rw [servePendingWake, hsrc]
      exact if_pos hcut
    have he := hserve.trans (wakeRequest_wakes_host (s := { s with spu := { s.spu with pendingWake := none } }) (src := src) hcut
      (.inr (.inr hh)))
    have hkinds : ∀ g ∈ (servePendingWake s).2, g.kind ∈ eventKinds := hands_core (c := .pendingWakeServe) rfl s
    rw [he] at hkinds
    obtain ⟨t, ht, hspu, hcfg, hsib, -⟩ := exec_event (c := .pendingWakeServe) (s := s) (u := s) rfl (State.SameConfig.refl s) hc.1
      (congrArg finish he) he rfl rfl (Ends.settledSpu hkinds (by exact hc.1) ⟨.inr rfl, hcut, hu⟩)
    refine ⟨t, ht, ?_, ?_, ?_, ?_, ?_, ?_, hcfg, hsib⟩
    all_goals rw [hspu]
    exact congrArg some hh
  · have hserve : servePendingWake s = quiet { s with spu := { s.spu with pendingWake := none } } := by
      rw [servePendingWake, hsrc]
      refine (if_pos hcut).trans ?_
      rw [wakeRequest, if_neg (by rw [show ({ s with spu := { s.spu with pendingWake := none } } : State).spu.cutStage = .none from hcut]; simp),
        show ({ s with spu := { s.spu with pendingWake := none } } : State).spu.host = .running from hh]
    exact (congrArg finish hserve).trans (finish_quiet _)

/-! ### Advice withdrawn -/

theorem dwell_of_governing (h : governingRule s = some i) (hd : ∀ q ∈ s.spu.rules, q.enabled = true → 0 < q.dwell) :
    0 < (s.spu.rules.getD i defaultRule).dwell := by
  obtain ⟨hlt, hhold, -⟩ := List.findIdx?_eq_some_iff_getElem.mp h
  rw [List.getD_eq_getElem _ _ hlt]
  refine hd _ (List.getElem_mem hlt) ?_
  by_contra hne
  rw [ruleHolds_of_disabled (by simpa using hne) s] at hhold
  exact nomatch hhold

/-- A new episode in the policy's record. -/
def Spu.newEpisode (g : Option Nat) (b : Spu) : Spu :=
  { b with governing := g, fired := false, dwell := g.map fun i => (b.rules.getD i defaultRule).dwell }

theorem beginEpisode_of_dwell {g : Option Nat} (h : ∀ i, g = some i → 0 < (s.spu.rules.getD i defaultRule).dwell) :
    beginEpisode g s = quiet { s with spu := s.spu.newEpisode g } := by
  cases g with
  | none => rfl
  | some i =>
    have := h i rfl
    exact if_neg (by omega)

/-- The record once an advice is withdrawn and a new episode begun. -/
def Spu.withdrawn (g : Option Nat) (b : Spu) : Spu :=
  { b with host := .running, compliance := none, advising := none }.newEpisode g

/-- An evaluation that withdraws the advice, in RUN. -/
theorem Ends.withdrawn {g : Option Nat} {c : WithdrawCause} {e : SpuTrigger} (hg : governingRule s = g)
    (he : spuEvaluate e s = (withdraw c g s).andThen (beginEpisode g))
    (hd : ∀ q ∈ s.spu.rules, q.enabled = true → 0 < q.dwell) (hc : s.Calm) (hp : s.psc.power = .run)
    (hl : ∀ g ∈ l, g.kind ∈ [Kind.reply, .serve]) :
    Ends 700 (.spuEval e :: l) s fun t => t.spu = s.spu.withdrawn g ∧ Only [.fbf, .spu, .psc, .ulp] s t := by
  have hdg : ∀ i, g = some i → 0 < (s.spu.rules.getD i defaultRule).dwell := fun i hi =>
    dwell_of_governing (hg.trans hi) hd
  obtain ⟨f, hw⟩ := withdraw_eq c g s
  have he' : handle (.spuEval e) s =
      ({ s with spu := s.spu.withdrawn g }, (.report .adviceWithdrawn f :: hostSignals s.spu.host .running) ++ []) := by
    rw [handle, he, hw, Act.andThen]
    dsimp only
    rw [beginEpisode_of_dwell (s := { s with spu := { s.spu with host := .running, compliance := none, advising := none } }) hdg]
    rfl
  refine Ends.le (Ends.step (k := 600) he' (by simp) ?_) (by omega)
  rw [List.append_nil]
  refine Ends.mono (Ends.taken_host (s := { s with spu := s.spu.withdrawn g }) (by simp) (by exact hc) (by exact hp) rfl ?_ ?_ hl)
    fun t ht => ?_
  · exact (governingRule_congr (t := { s with spu := s.spu.withdrawn g }) (s := s) rfl rfl rfl rfl rfl rfl).trans hg
  · intro i hi h0
    have := hdg i hi
    exact absurd h0 (by rw [show (s.spu.withdrawn g).rules = s.spu.rules from rfl]; omega)
  · obtain ⟨⟨f', d', h1, h2, h3⟩, ho⟩ := ht
    refine ⟨?_, Only.trans (t := { s with spu := s.spu.withdrawn g }) rfl ho⟩
    rw [h1]
    cases g with
    | none =>
      obtain ⟨rfl, rfl⟩ := h3 rfl
      rfl
    | some i =>
      obtain ⟨rfl, rfl⟩ := h2 i rfl (hdg i rfl)
      rfl

/-- A second of idle time that changes the governing rule. -/
theorem idleIncrement_governs (s : State) (hh : s.spu.host = .advised ∨ s.spu.host = .entering) (hi : s.igt.idle < 65535) (hc : s.Calm)
    (hp : s.psc.power = .run) (hd : ∀ q ∈ s.spu.rules, q.enabled = true → 0 < q.dwell) (u : State) (hu : u = State.idleCounted s)
    (g : Option Nat) (hg : g = governingRule u) (hne : g ≠ s.spu.governing) :
    ∃ t, exec .idleTimerIncrement s = .next t ∧ t.spu.governing = g ∧
      t.spu.dwell = g.map (fun i => (s.spu.rules.getD i defaultRule).dwell) ∧ (g ≠ none → t.spu.fired = false) ∧
      (s.spu.host = .advised → s.spu.advising ≠ g →
        t.spu.host = .running ∧ t.spu.advising = none ∧ t.spu.compliance = none) ∧
      (s.spu.host = .entering ∨ s.spu.advising = g →
        t.spu.host = s.spu.host ∧ t.spu.advising = s.spu.advising ∧ t.spu.compliance = u.spu.compliance) ∧
      s.SameConfig t ∧ Only [.fbf, .spu, .psc, .ulp] u t := by
  have hidle : idleIncrement s = (u, [.spuEval .other]) := by
    subst hu
    exact if_pos hi
  have hcore : (Instr.idleTimerIncrement).core (elapse s.igt.idleLeft s) = (u, [.spuEval .other]) := by
    subst hu
    exact if_pos hi
  have hur : u.spu.rules = s.spu.rules ∧ u.spu.host = s.spu.host ∧ u.spu.advising = s.spu.advising ∧ u.spu.governing = s.spu.governing := by
    subst hu
    exact ⟨rfl, rfl, rfl, rfl⟩
  obtain ⟨hrules, hhost, hadv, hgov⟩ := hur
  have hdu : ∀ q ∈ u.spu.rules, q.enabled = true → 0 < q.dwell := by rw [hrules]; exact hd
  have hcu : u.Calm := by subst hu; exact hc
  have hpu : u.psc.power = .run := by subst hu; exact hp
  have heval : ∀ {Q : State → Prop}, Ends 1000 [.spuEval .other] u Q → ∃ t, exec .idleTimerIncrement s = .next t ∧ Q t ∧ s.SameConfig t := by
    intro Q hends
    obtain ⟨t, ht, hQ, hcfg, -⟩ := exec_event (c := .idleTimerIncrement) (s := s) (u := elapse s.igt.idleLeft s) rfl (State.SameConfig.refl s)
      hc.1 (congrArg finish hidle) hcore rfl rfl hends
    exact ⟨t, ht, hQ, hcfg⟩
  have hchange : spuEvaluate .other u = (if u.spu.host = .advised ∧ u.spu.advising ≠ g then withdraw .governingChanged g u else quiet u).andThen
      (beginEpisode g) := by
    rw [spuEvaluate, ← hg]
    simp only [if_pos (show g ≠ u.spu.governing by rw [hgov]; exact hne), decide_eq_true_eq]
  by_cases hwd : u.spu.host = .advised ∧ u.spu.advising ≠ g
  · rw [if_pos hwd] at hchange
    obtain ⟨t, ht, ⟨hspu, ho⟩, hcfg⟩ := heval (Ends.le (Ends.withdrawn hg.symm hchange hdu hcu hpu nofun) (by omega))
    refine ⟨t, ht, ?_, ?_, fun _ => ?_, fun _ _ => ?_, fun h => ?_, hcfg, ho⟩
    · rw [hspu]; rfl
    · rw [hspu, ← hrules]; rfl
    · rw [hspu]; rfl
    · rw [hspu]; exact ⟨rfl, rfl, rfl⟩
    · rcases h with h | h
      · exact (nomatch (hhost.trans h).symm.trans hwd.1)
      · exact (hwd.2 (hadv.trans h)).elim
  · rw [if_neg hwd] at hchange
    have he : handle (.spuEval .other) u = quiet { u with spu := u.spu.newEpisode g } := by
      refine hchange.trans ?_
      rw [Act.andThen, quiet]
      dsimp only
      rw [beginEpisode_of_dwell fun i h => dwell_of_governing (hg.symm.trans h) hdu]
      rfl
    obtain ⟨t, ht, rfl, hcfg⟩ := heval (Q := fun t => t = { u with spu := u.spu.newEpisode g })
      (Ends.le (Ends.step (k := 0) he (by simp) (Ends.nil rfl)) (by omega))
    refine ⟨_, ht, rfl, ?_, fun _ => rfl, fun h1 h2 => ?_, fun _ => ⟨hhost, hadv, rfl⟩, hcfg, rfl⟩
    · rw [← hrules]; rfl
    · exact (hwd ⟨hhost.trans h1, by rw [hadv]; exact h2⟩).elim

/-- A TABLE_WRITE of the advising rule withdraws the advice. -/
theorem ruleWrite_withdraws (ct idx : Byte) (e : List Byte) (q : SleepRule) (s : State) (hr : s.Receptive)
    (hs : s.Permitted ct .sleep true) (hc : s.Calm) (hp : s.psc.power = .run) (hh : s.spu.host = .advised)
    (hadv : s.spu.advising = some idx.toNat) (hgov : s.spu.governing = some idx.toNat) (hlen : e.length = 13)
    (hq : sleepRuleOf e = some q) (hidx : idx.toNat ≤ 15)
    (hd : ∀ p ∈ s.spu.rules.set idx.toNat q, p.enabled = true → 0 < p.dwell) :
    ∃ t, exec (.tableWriteSleepRule ct idx e) s = .next t ∧ t.spu.rules = s.spu.rules.set idx.toNat q ∧
      t.spu.host = .running ∧ t.spu.advising = none ∧ t.spu.compliance = none ∧ t.par = s.par ∧
      Only [.fbf, .spu, .psc, .ulp] s t := by
  have hspell : Spells (2 :: 3 :: idx :: e) (some (.sleep, true)) :=
    spells_tableWrite (table := 3) rfl (by rw [hlen]; rfl) (by omega)
  have hrun : runCommand (channelOf ct == 0) (s.spu.rxSeq + 1) s.ms (2 :: 3 :: idx :: e) s.running =
      plainResult (.ok, ({ s.running with spu := { s.running.spu with rules := s.spu.rules.set idx.toNat q } },
        [.spuEval (.ruleWrite idx.toNat)])) := by
    have hw : writeSleepRule idx.toNat e s.running = (.ok, ({ s.running with spu := { s.running.spu with rules := s.spu.rules.set idx.toNat q } },
        [.spuEval (.ruleWrite idx.toNat)])) := by
      rw [writeSleepRule, hq]
      exact if_pos hidx
    rw [runCommand_tableWrite, tableWriteResult]
    change (⟨(writeSleepRule idx.toNat e s.running).1, _, (writeSleepRule idx.toNat e s.running).2, _, _⟩ : CmdResult) = _
    rw [hw]
    rfl
  have hstored : Only [.fbf, .spu, .psc, .ulp] s { s.running with spu := { s.running.spu with rules := s.spu.rules.set idx.toNat q } } := rfl
  obtain ⟨t, ht, hspu, ho⟩ := exec_frame_ends (c := .tableWriteSleepRule ct idx e) (p := 2 :: 3 :: idx :: e) rfl (State.Receptive.prompt hr)
    hspell.short ((commandResult_of_permitted hspell (by simp [commandCode]) hs).trans hrun)
    (Q := fun t => t.spu = Spu.withdrawn (governingRule { s.running with spu := { s.running.spu with rules := s.spu.rules.set idx.toNat q } })
        { s.running.spu with rules := s.spu.rules.set idx.toNat q } ∧ Only [.fbf, .spu, .psc, .ulp]
          { s.running with spu := { s.running.spu with rules := s.spu.rules.set idx.toNat q } } t) (by
      have heval : ∃ c, spuEvaluate (.ruleWrite idx.toNat) { s.running with spu := { s.running.spu with rules := s.spu.rules.set idx.toNat q } } =
          (withdraw c (governingRule { s.running with spu := { s.running.spu with rules := s.spu.rules.set idx.toNat q } })
            { s.running with spu := { s.running.spu with rules := s.spu.rules.set idx.toNat q } }).andThen
          (beginEpisode (governingRule { s.running with spu := { s.running.spu with rules := s.spu.rules.set idx.toNat q } })) := by
        generalize hy : ({ s.running with spu := { s.running.spu with rules := s.spu.rules.set idx.toNat q } } : State) = y
        have h1 : y.spu.host = .advised := by subst hy; exact hh
        have h2 : y.spu.advising = some idx.toNat := by subst hy; exact hadv
        have h3 : y.spu.governing = some idx.toNat := by subst hy; exact hgov
        rw [spuEvaluate, h1, h2, h3]
        by_cases hsame : governingRule y = some idx.toNat
        · exact ⟨.ruleWritten, by simp [hsame, SpuTrigger.renews, SpuTrigger.writes]⟩
        · exact ⟨.governingChanged, by simp [hsame, Ne.symm hsame]⟩
      obtain ⟨c, he⟩ := heval
      exact Ends.le (Ends.withdrawn (l := [.reply (replyTo ct 2 .ok []), .serve]) rfl he hd hc hp (kinds_all rfl)) (by omega))
  refine ⟨t, ht, ?_, ?_, ?_, ?_, ho.par rfl, hstored.trans ho⟩
  all_goals (rw [hspu]; rfl)

/-- Settles O41. -/
theorem sleepAdviceAndWakeTimers : Obligations.SleepAdviceAndWakeTimers := by
  refine ⟨fun r i s hr hg hf hfirst ha hh hc hp => sleepDwell_advises r i s hr hg hf hfirst ha hh hc hp, fun s hu hc => wakeTimer_and_pending s hu hc,
    fun r i s hr hg hf => ?_, idleIncrement_governs, ruleWrite_withdraws⟩
  obtain ⟨h1, h2, h3⟩ := sleepDwell_actions r i s hr hg hf
  refine ⟨h1, h2, fun ha => ?_⟩
  obtain ⟨h4, h5⟩ := sleepDwell_wakes r i s hr hg hf ha
  exact ⟨h3 ha, h4, h5⟩

end

end Sys2Proof.Machine
end

section
/-! PROOFS. The writes of tables and parameters (O49, O50). -/

namespace Sys2Proof.Machine
open Sys2Proof

section
variable {s u : State} {ct idx : Byte} {e : List Byte}

/-! ### TABLE_WRITE POSTURE, SLEEP_RULE, CHARGE_PROFILE -/

/-- A row stored in the posture table. -/
def State.rowWritten (i : Nat) (r : PostureRow) (s : State) : State := { s with pcl := { s.pcl with table := s.pcl.table.set i r } }

theorem scanRows_congr {t : State} (h : ∀ r, rowMatches 0 t r = rowMatches 0 s r) (i : Nat) (rows : List PostureRow) :
    scanRows t i rows = scanRows s i rows := by
  induction rows generalizing i with
  | nil => rfl
  | cons r rows ih => rw [scanRows, scanRows, h, ih]

/-- The choice reads the angle, the orientation, the classifier's record and the margin only. -/
theorem choosePosture_ended : choosePosture u.ended = choosePosture u := by
  rw [choosePosture, choosePosture, scanRows_congr (s := u) (t := u.ended) (fun _ => rfl)]
  rfl

theorem postureChoose_ended : (postureChoose u).1.ended = (postureChoose u.ended).1 := by
  rw [postureChoose, postureChoose, choosePosture_ended]
  rfl

theorem exec_postureWrite (hr : s.Receptive) (hs : s.Permitted ct .sensing true) (he : e.length = 7) :
    (idx.toNat ≤ 15 → (PostureRow.ofBytes e).acceptable = true → 0 < s.par.postureDwell →
        exec (.tableWritePosture ct idx e) s =
          .next ((postureChoose
                { s.afterFrame with
                  pcl := { s.pcl with table := s.pcl.table.set idx.toNat (PostureRow.ofBytes e) } }).1.answered
              (replyTo ct 2 .ok []))) ∧
      (15 < idx.toNat ∨ (PostureRow.ofBytes e).acceptable = false →
        exec (.tableWritePosture ct idx e) s = .next (s.afterFrame.answered (replyTo ct 2 .range []))) := by
  have hspell : Spells (2 :: 0 :: idx :: e) (some (.sensing, true)) := spells_tableWrite (table := 0) rfl he (by omega)
  have hrun : runCommand (channelOf ct == 0) (s.spu.rxSeq + 1) s.ms (2 :: 0 :: idx :: e) s.running =
      plainResult (writePosture idx.toNat e s.running) := rfl
  refine ⟨fun hi ha hd => ?_, fun h => ?_⟩
  · have hw : writePosture idx.toNat e s.running = (.ok, (s.running.rowWritten idx.toNat (PostureRow.ofBytes e), [.pclEval])) :=
      if_pos ⟨hi, ha⟩
    rw [hw] at hrun
    generalize PostureRow.ofBytes e = row at hrun
    obtain ⟨-, hnone⟩ := postureEvaluate_quietly (s := s.running.rowWritten idx.toNat row) hd
    have he : postureEvaluate (s.running.rowWritten idx.toNat row) = postureChoose (s.running.rowWritten idx.toNat row) := if_pos hr.1
    refine exec_dock_exact (c := .tableWritePosture ct idx e) rfl hr hs hspell (fun h => nomatch h)
      (t := (postureChoose (s.running.rowWritten idx.toNat row)).1)
      hrun (fun l Q h => Ends.le (Ends.step (k := 5) (new := []) (Prod.ext (congrArg Prod.fst he :) hnone) (by simp) h) (by omega))
      (State.Prompt.vacant (State.Receptive.prompt hr)) hr.2.1
      (postureChoose_ended.trans
        (congrArg (fun x : State => (postureChoose (x.rowWritten idx.toNat row)).1) (running_ended hr.2.2.1) :))
  · refine exec_unmoved (c := .tableWritePosture ct idx e) rfl hr hs hspell (fun h => nomatch h) (hrun.trans ?_)
    have hn : ¬ (idx.toNat ≤ 15 ∧ (PostureRow.ofBytes e).acceptable = true) := by
      rintro ⟨h1, h2⟩
      rcases h with h | h
      · omega
      · rw [h2] at h; exact nomatch h
    rw [show writePosture idx.toNat e s.running = (.range, quiet s.running) from if_neg hn]
    rfl

/-- What a command that hands on follow-ups leaves of the configuration that it has stored. -/
theorem exec_frame_config {c : Instr} {p : List Byte} {need : Option (Group × Bool)} {r : CmdResult} (hc : c.frame = some (ct, p))
    (hr : s.Receptive) (hs : s.Allowed ct need) (hf : Spells p need) (h18 : commandCode p ≠ 18)
    (hrun : runCommand (channelOf ct == 0) (s.spu.rxSeq + 1) s.ms p s.running = r) (hl : ∀ g ∈ r.act.2, g.kind ∈ eventKinds)
    (hpost : ∀ g ∈ r.post, g.kind ∈ eventKinds) (hq : r.act.1.ulp.queue = []) :
    ∃ t, exec c s = .next t ∧ r.act.1.SameConfig t ∧ t.sib = r.act.1.sib ∧ t.par = r.act.1.par ∧ t.ms = r.act.1.ms := by
  refine exec_frame_ends hc (State.Receptive.prompt hr) hf.short ((commandResult_of_permitted hf h18 hs).trans hrun)
    (Ends.sameConfig (s₀ := r.act.1) ?_ hq (State.SameConfig.refl _))
  · intro g hg
    simp only [CmdResult.handovers, List.mem_append, List.mem_cons, List.not_mem_nil, or_false] at hg
    rcases hg with hg | rfl | hg | rfl
    · exact hl g hg
    · simp [Signal.kind]
    · exact hpost g hg
    · simp [Signal.kind]

theorem exec_ruleWrite (hr : s.Receptive) (hs : s.Permitted ct .sleep true) (he : e.length = 13) :
    (∀ r, sleepRuleOf e = some r → idx.toNat ≤ 15 →
        ∃ t, exec (.tableWriteSleepRule ct idx e) s = .next t ∧ t.spu.rules = s.spu.rules.set idx.toNat r ∧ t.par = s.par ∧
          t.sib = s.sib ∧ t.ms = s.ms) ∧
      (sleepRuleOf e = none ∨ 15 < idx.toNat →
        exec (.tableWriteSleepRule ct idx e) s = .next (s.afterFrame.answered (replyTo ct 2 .range []))) := by
  have hspell : Spells (2 :: 3 :: idx :: e) (some (.sleep, true)) := spells_tableWrite (table := 3) rfl he (by omega)
  have hrun : runCommand (channelOf ct == 0) (s.spu.rxSeq + 1) s.ms (2 :: 3 :: idx :: e) s.running =
      plainResult (writeSleepRule idx.toNat e s.running) := rfl
  refine ⟨fun r hq hi => ?_, fun h => ?_⟩
  · have hw : writeSleepRule idx.toNat e s.running =
        (.ok, ({ s.running with spu := { s.running.spu with rules := s.spu.rules.set idx.toNat r } }, [.spuEval (.ruleWrite idx.toNat)])) := by
      rw [writeSleepRule, hq]
      exact if_pos hi
    rw [hw] at hrun
    obtain ⟨t, ht, hc, hsib, hpar, hms⟩ := exec_frame_config (c := .tableWriteSleepRule ct idx e) rfl hr hs hspell
      (fun h => nomatch h) hrun (kinds_all rfl) nofun (State.Receptive.prompt hr).vacant.2.1
    obtain ⟨-, -, -, hrules, -⟩ := hc
    exact ⟨t, ht, hrules, hpar, hsib, hms⟩
  · refine exec_unmoved (c := .tableWriteSleepRule ct idx e) rfl hr hs hspell (fun h => nomatch h) (hrun.trans ?_)
    have hn : writeSleepRule idx.toNat e s.running = (.range, quiet s.running) := by
      rw [writeSleepRule]
      rcases h with h | h
      · rw [h]
      · split
        · exact if_neg (by omega)
        · rfl
    rw [hn]
    rfl

theorem exec_profileWrite (hr : s.Receptive) (hs : s.Permitted ct .charge true) (he : e.length = 17) :
    (channelOf ct = 0 → idx = 0 → (Profile.ofBytes e).valid = true →
        ∃ t, exec (.tableWriteChargeProfile ct idx e) s = .next t ∧ t.pcc.profile = Profile.ofBytes e ∧
          t.par = s.par ∧ t.sib = s.sib ∧ t.ms = s.ms) ∧
      (channelOf ct = 0 → idx ≠ 0 ∨ (Profile.ofBytes e).valid = false →
        exec (.tableWriteChargeProfile ct idx e) s = .next (s.afterFrame.answered (replyTo ct 2 .range []))) ∧
      (channelOf ct = 1 →
        exec (.tableWriteChargeProfile ct idx e) s = .next (s.afterFrame.answered (replyTo ct 2 .denied []))) := by
  have hspell : Spells (2 :: 4 :: idx :: e) (some (.charge, true)) := spells_tableWrite (table := 4) rfl he (by omega)
  have hrun : ∀ {st a}, writeProfile (channelOf ct == 0) idx.toNat e s.running = (st, a) →
      runCommand (channelOf ct == 0) (s.spu.rxSeq + 1) s.ms (2 :: 4 :: idx :: e) s.running =
        { plainResult (st, a) with post := if st = .ok then [.pccLimit] else [] } := by
    intro st a h
    have h4 : writeTable (channelOf ct == 0) (4 : Byte).toNat idx.toNat e s.running = (st, a) := h
    rw [runCommand_tableWrite, tableWriteResult, h4]
    simp only [show (4 : Byte).toNat = 4 from rfl, true_and]
  refine ⟨fun h0 hi hv => ?_, fun h0 h => ?_, fun h1 => ?_⟩
  · have hw : writeProfile (channelOf ct == 0) idx.toNat e s.running = (.ok, storeProfile (Profile.ofBytes e) s.running) := by
      rw [writeProfile, h0, hi]
      exact (if_neg Bool.false_ne_true).trans (if_pos ⟨rfl, hv⟩)
    have ho := storeProfile_only (Profile.ofBytes e) s.running (T := [.sbu, .pcc]) rfl
    obtain ⟨t, ht, hc, hsib, hpar, hms⟩ := exec_frame_config (c := .tableWriteChargeProfile ct idx e) rfl hr hs hspell
      (fun h => nomatch h) (hrun hw) ((hands_storeProfile _ s.running).mono (by decide)) (kinds_all rfl)
      ((congrArg Ulp.queue (ho.ulp rfl)).trans (State.Receptive.prompt hr).vacant.2.1)
    obtain ⟨-, -, -, -, hprofile, -⟩ := hc
    exact ⟨t, ht, hprofile.trans (storeProfile_profile _ _), hpar.trans (ho.par rfl), hsib.trans (ho.sib rfl), hms.trans (ho.ms rfl)⟩
  · refine exec_unmoved (c := .tableWriteChargeProfile ct idx e) rfl hr hs hspell (fun h => nomatch h) ((hrun ?_).trans rfl)
    rw [writeProfile, h0]
    refine (if_neg Bool.false_ne_true).trans (if_neg ?_)
    rintro ⟨h1, h2⟩
    rcases h with h | h
    · exact h (BitVec.eq_of_toNat_eq h1)
    · rw [h2] at h; exact nomatch h
  · refine exec_unmoved (c := .tableWriteChargeProfile ct idx e) rfl hr hs hspell (fun h => nomatch h) ((hrun ?_).trans rfl)
    rw [writeProfile, h1]
    exact if_pos rfl

/-! ### CONFIG_SET and REPORT_ENABLE -/

theorem spells_configSet {num : Byte} (v : BitVec 32) {g : Group} (hg : paramGroup num.toNat = some g) :
    Spells (5 :: num :: num4 v.toNat) (some (g, true)) where
  need := by
    change (paramGroup num.toNat).map _ = _
    rw [hg]; rfl
  length := rfl
  nonzero := nofun
  le := by simp [commandCode]
  short := by simp [num4]

theorem configValue_num4 (num : Byte) (v : BitVec 32) : configValue (5 :: num :: num4 v.toNat) = v.toInt := by
  have hv := v.isLt
  have hlow : le2 (byte v.toNat) (byte (v.toNat / 256)) = v.toNat % 65536 := by
    simp only [le2, byte_toNat_mod]; omega
  have hhigh : le2 (byte (v.toNat / 65536)) (byte (v.toNat / 16777216)) = v.toNat / 65536 := by
    simp only [le2, byte_toNat_mod]; omega
  change (BitVec.ofNat 32 (le2 (byte v.toNat) (byte (v.toNat / 256)) +
    65536 * le2 (byte (v.toNat / 65536)) (byte (v.toNat / 16777216)))).toInt = v.toInt
  rw [hlow, hhigh, show v.toNat % 65536 + 65536 * (v.toNat / 65536) = v.toNat by omega, BitVec.ofNat_toNat, BitVec.setWidth_eq]

theorem runCommand_configSet {pl : Bool} {q : Nat} {a : Stamp} {num : Byte} {v : BitVec 32} :
    runCommand pl q a (5 :: num :: num4 v.toNat) u = configSetResult num.toNat v.toInt u := by
  rw [← configValue_num4 num v]
  rfl

theorem paramGroup_eq_none {n : Nat} : paramGroup n = none ↔ n = 0 ∨ 46 < n := by
  unfold paramGroup
  split_ifs <;> simp <;> omega

/-- The parameters without an immediate effect. -/
theorem paramEffect_quiet {n : Nat} (h : n ≤ 4 ∨ 13 ≤ n ∧ n ≤ 19 ∨ 21 ≤ n ∧ n ≤ 30 ∨ 36 ≤ n) (c : Bool) : paramEffect n c u = quiet u := by
  unfold paramEffect
  split
  case h_15 => rfl
  all_goals omega

theorem exec_configSet {num : Byte} {v : BitVec 32} {g : Group} (hr : s.Receptive) (hg : paramGroup num.toNat = some g)
    (hs : s.Permitted ct g true) :
    (∃ t, exec (.configSet ct num v) s = .next t ∧ t.par = s.par.set num.toNat (clampParam s num.toNat v.toInt) ∧
        t.ms = s.ms ∧ t.pcl.table = s.pcl.table ∧ t.spu.rules = s.spu.rules ∧ t.pcc.profile = s.pcc.profile) ∧
      ((num.toNat ≤ 4 ∨ 13 ≤ num.toNat ∧ num.toNat ≤ 19 ∨ 21 ≤ num.toNat ∧ num.toNat ≤ 30 ∨ 36 ≤ num.toNat) →
        exec (.configSet ct num v) s =
          .next (State.answered { s.afterFrame with par := s.par.set num.toNat (clampParam s num.toNat v.toInt) }
            (replyTo ct 5 (if (clampParam s num.toNat v.toInt : Int) = v.toInt then .ok else .adjusted)
              (num :: num4 (clampParam s num.toNat v.toInt))))) := by
  have hspell := spells_configSet v hg
  have hin : 1 ≤ num.toNat ∧ num.toNat ≤ 46 := by
    have := paramGroup_eq_none.not.mp (Option.ne_none_iff_exists'.mpr ⟨g, hg⟩)
    omega
  have hclamp : clampParam s.running num.toNat v.toInt = clampParam s num.toNat v.toInt := rfl
  have hrun : runCommand (channelOf ct == 0) (s.spu.rxSeq + 1) s.ms (5 :: num :: num4 v.toNat) s.running =
      ⟨if (clampParam s num.toNat v.toInt : Int) = v.toInt then .ok else .adjusted, num :: num4 (clampParam s num.toNat v.toInt),
        setParam num.toNat v.toInt s.running, [], none⟩ := by
    rw [runCommand_configSet, configSetResult, if_pos hin, hclamp, num1, byte_toNat_self]
    rfl
  refine ⟨?_, fun hn => ?_⟩
  · have ho := paramEffect_only num.toNat (clampParam s.running num.toNat v.toInt != s.running.par.get num.toNat)
      { s.running with par := s.running.par.set num.toNat (clampParam s.running num.toNat v.toInt) } (T := [.sib, .hau, .sbu, .pcc]) rfl
    obtain ⟨t, ht, hc, -, hpar, hms⟩ := exec_frame_config (c := .configSet ct num v) rfl hr hs hspell (fun h => nomatch h) hrun
      ((hands_setParam _ _ s.running).mono (by decide)) nofun
      ((congrArg Ulp.queue (ho.ulp rfl)).trans (State.Receptive.prompt hr).vacant.2.1)
    obtain ⟨-, htable, -, hrules, hprofile, -⟩ := hc
    refine ⟨t, ht, hpar.trans (setParam_par _ _ _), hms.trans (ho.ms rfl), htable.trans ?_, hrules.trans ?_,
      hprofile.trans (setParam_profile _ _ _)⟩
    · exact congrArg Pcl.table (ho.pcl rfl)
    · exact (congrArg Spu.rules (ho.spu rfl) :)
  · refine exec_stored (c := .configSet ct num v) (f := fun x => { x with par := s.par.set num.toNat (clampParam s num.toNat v.toInt) })
      rfl hr hs hspell (fun h => nomatch h) (hrun.trans ?_) (State.Receptive.prompt hr).vacant rfl hr.2.1
    rw [setParam, paramEffect_quiet hn]
    rfl

theorem exec_configSet_range {num : Byte} {v : BitVec 32} (hr : s.Receptive) (hch : channelOf ct < 2) (hn : num = 0 ∨ 46 < num.toNat) :
    exec (.configSet ct num v) s = .next (s.afterFrame.answered (replyTo ct 5 .range [])) := by
  have hout : num.toNat = 0 ∨ 46 < num.toNat := hn.imp_left fun h => by rw [h]; rfl
  have hspell : Spells (5 :: num :: num4 v.toNat) none :=
    { need := by
        change (paramGroup num.toNat).map _ = _
        rw [paramGroup_eq_none.mpr hout]; rfl
      length := rfl
      nonzero := nofun
      le := by simp [commandCode]
      short := by simp [num4] }
  refine exec_unmoved (c := .configSet ct num v) rfl hr ⟨hch, rfl⟩ hspell (fun h => nomatch h) ?_
  rw [runCommand_configSet]
  exact if_neg (by omega)

theorem exec_reportEnable {m : BitVec 24} (hr : s.Receptive) (hs : s.Permitted ct .user true) :
    exec (.reportEnable ct m) s =
      .next (State.answered { s.afterFrame with ulp := { s.ulp with mask := m.setWidth 21 } }
        (replyTo ct 8 .ok (maskField (shownMask (m.setWidth 21))))) := by
  have hread : BitVec.ofNat 24 ((byte m.toNat).toNat + 256 * (byte (m.toNat / 256)).toNat + 65536 * (byte (m.toNat / 65536)).toNat) = m := by
    have hm := m.isLt
    rw [byte_toNat_mod, byte_toNat_mod, byte_toNat_mod,
      show m.toNat % 256 + 256 * (m.toNat / 256 % 256) + 65536 * (m.toNat / 65536 % 256) = m.toNat by omega,
      BitVec.ofNat_toNat, BitVec.setWidth_eq]
  refine exec_stored (c := .reportEnable ct m) (p := [8, byte m.toNat, byte (m.toNat / 256), byte (m.toNat / 65536)])
    (f := fun x => { x with ulp := { x.ulp with mask := m.setWidth 21 } }) rfl hr hs
    ⟨rfl, rfl, nofun, by simp [commandCode], by simp⟩ (fun h => nomatch h)
    ((congrArg (fun k => reportEnableResult k s.running) hread :)) (State.Receptive.prompt hr).vacant rfl hr.2.1

end

/-- Settles O49: a posture row is evaluated with a dwell, which hands on nothing; the follow-ups of the two others leave the
configuration that they have stored. -/
theorem postureRuleAndProfileWrites : Obligations.PostureRuleAndProfileWrites :=
  ⟨fun _ _ _ _ hr hs he => exec_postureWrite hr hs he,
    fun _ _ _ _ hr => ⟨fun hs he => exec_ruleWrite hr hs he, fun hs he => exec_profileWrite hr hs he⟩⟩

/-- Settles O50: the follow-ups of a store leave the configuration, and a parameter without an immediate effect has none. -/
theorem configSetAndReportEnableStore : Obligations.ConfigSetAndReportEnableStore :=
  ⟨fun _ _ _ _ hr => ⟨fun _ hg hs => exec_configSet hr hg hs, fun hch hn => exec_configSet_range hr hch hn⟩,
    fun _ _ _ hr hs => exec_reportEnable hr hs⟩

end Sys2Proof.Machine
end

section
/-! PROOFS. The end of a frame on the upstream line and the OVERFLOW report (O45). -/

namespace Sys2Proof.Machine
open Sys2Proof

section
variable {s u : State} {f : UpFrame} {k : Nat} {l : List Signal} {Q : State → Prop}

/-- The line is IDLE again. -/
def State.lineEnded (s : State) : State := { s with ulp := { s.ulp with line := none } }

theorem transmitEnd_eq (hl : s.ulp.line = some f) (hp : s.ulp.preReset = none) :
    transmitEnd s =
      ({ s with ulp := { s.ulp with line := none, resetDue := if f.reset.isSome then f.reset else s.ulp.resetDue } },
        (if f.kind = .report ∧ isForceCut f.payload then [.cutAssert] else []) ++ [.arbiter]) := by
  rw [transmitEnd, hp, hl]

/-- A frame that orders no reset frees the line. -/
theorem transmitEnd_frees (hl : s.ulp.line = some f) (hp : s.ulp.preReset = none) (hf : f.reset = none) :
    transmitEnd s = (s.lineEnded, (if f.kind = .report ∧ isForceCut f.payload then [.cutAssert] else []) ++ [.arbiter]) := by
  rw [transmitEnd_eq hl hp, hf]
  rfl

theorem lineEnded_lineFree (hp : s.ulp.preReset = none) (hd : s.ulp.resetDue = none) : s.lineEnded.ulp.lineFree = true := by
  rw [Ulp.lineFree, State.lineEnded, hp, hd]
  rfl

/-- The end of a frame that is not the awaited FORCE_CUT report: what the arbiter does is what the event does. -/
theorem exec_transmitEnd {t : State} (hl : s.ulp.line = some f) (hp : s.ulp.preReset = none) (hf : f.reset = none)
    (hk : f.kind = .report → isForceCut f.payload = false) (h : Ends 1000 [.arbiter] s.lineEnded (· = t)) :
    exec .frameTransmitEnd s = .next t := by
  refine finish_of_settle (Ends.settle_eq ?_)
  have hn : ¬ (f.kind = .report ∧ isForceCut f.payload = true) := fun ⟨h1, h2⟩ => by rw [hk h1] at h2; exact nomatch h2
  rw [transmitEnd_frees hl hp hf, if_neg hn]
  exact h

/-! ### What the arbiter takes -/

theorem arbiterChoice_of_free (hfree : u.ulp.lineFree = true) (hheld : u.held = false) (hslot : u.ulp.slot = none) :
    arbiterChoice u = chooseArea u := by
  rw [arbiterChoice, if_pos hfree, hheld, hslot]
  rfl

theorem Ends.areasEmpty (hfree : u.ulp.lineFree = true) (hheld : u.held = false) (hslot : u.ulp.slot = none)
    (hr : u.fbf.report = []) (hi : u.fbf.input = []) (hm : u.fbf.mirror = []) (h : Ends k l u Q) :
    Ends (k + 1) (.arbiter :: l) u Q := by
  refine Ends.skip ((arbiterChoice_of_free hfree hheld hslot).trans ?_) (by simp) h
  rw [chooseArea, hr, hi, hm]

/-- The oldest report goes on the line; with nothing lost, no OVERFLOW report takes its place. -/
theorem Ends.reportSent {m : Stored} {rest : List Stored} (hfree : u.ulp.lineFree = true) (hheld : u.held = false)
    (hslot : u.ulp.slot = none) (hr : u.fbf.report = m :: rest) (hi : u.fbf.input = [] ∨ u.ulp.alt = .report) (hlost : u.ulp.lost = 0)
    (h : Ends k l { u with
      fbf := { u.fbf with report := rest }
      ulp := { u.ulp with line := some ⟨.report, Config.unsolicitedChannelTag, m.payload, none⟩, alt := .input } } Q) :
    Ends (k + 2) (.arbiter :: l) u Q := by
  have he : chooseArea u = sendReport m.payload rest .input u := by
    rcases hi with hi | hi
    · rw [chooseArea, hr, hi]
    · rw [chooseArea, hr]
      split
      · next heq _ =>
        obtain ⟨rfl, rfl⟩ := List.cons.inj heq
        rw [hi]
      · next heq _ =>
        obtain ⟨rfl, rfl⟩ := List.cons.inj heq
        rfl
      · next heq _ => exact nomatch heq
      · next heq _ => exact nomatch heq
  refine Ends.step (k := k + 1) ((arbiterChoice_of_free hfree hheld hslot).trans he) (by simp) ?_
  exact Ends.skip (offerOverflow_of_none (.inl hlost)) (by simp) h

/-- The oldest frame of the Input area goes on the line; with no release pending and no procedure paused, its space is not used. -/
theorem Ends.inputSent {m i : Stored} {rest waits : List Stored} (hfree : u.ulp.lineFree = true) (hheld : u.held = false)
    (hslot : u.ulp.slot = none) (hr : u.fbf.report = m :: rest) (hi : u.fbf.input = i :: waits) (ha : u.ulp.alt = .input)
    (hpend : u.igt.pend = []) (hhead : u.igt.head = .idle)
    (h : Ends k l { u with
      fbf := { u.fbf with input := waits }
      ulp := { u.ulp with line := some ⟨.input, Config.unsolicitedChannelTag, i.payload, none⟩, alt := .report } } Q) :
    Ends (k + 3) (.arbiter :: l) u Q := by
  have he : chooseArea u = sendInput i.payload waits u := by rw [chooseArea, hr, hi, ha]
  refine Ends.step (k := k + 2) ((arbiterChoice_of_free hfree hheld hslot).trans he) (by simp) ?_
  refine Ends.step (k := k + 1) (spaceEvent_of_idle hhead) (by simp) ?_
  change Ends (k + 1) ([.arbiter] ++ l) (queuePending u.igt.pend _) Q
  rw [hpend]
  exact Ends.arbiter_busy rfl h

/-- A waiting reply goes on the line before any area; with no command waiting, its slot is not used again. -/
theorem Ends.replySent {r : Reply} (hfree : u.ulp.lineFree = true) (hheld : u.held = false) (hslot : u.ulp.slot = some r)
    (ho : u.ulp.overruns = []) (hq : u.ulp.queue = [])
    (h : Ends k l { u with ulp := { u.ulp with line := some ⟨.reply, r.ct, r.payload, r.reset⟩, slot := none } } Q) :
    Ends (k + 2) (.arbiter :: l) u Q :=
  Ends.step (k := k + 1) (arbiterChoice_of_reply hfree hheld hslot) (by simp)
    (Ends.serve_nothing (by exact hq) (by exact ho) h)

/-! ### FRAME_TRANSMIT_END -/

/-- The end of a frame that is no report. -/
theorem transmitEnd_of_reply (hl : s.ulp.line = some f) (hp : s.ulp.preReset = none) (hk : f.kind ≠ .report)
    (hheld : s.held = false) (hslot : s.ulp.slot = none) (hd : s.ulp.resetDue = none) :
    (∀ k, f.reset = some k →
        exec .frameTransmitEnd s = .next { s with ulp := { s.ulp with line := none, resetDue := some k } }) ∧
      (f.reset = none → s.fbf.report = [] → s.fbf.input = [] → s.fbf.mirror = [] →
        exec .frameTransmitEnd s = .next { s with ulp := { s.ulp with line := none } }) ∧
      (∀ m rest, s.fbf.report = m :: rest → f.reset = none → s.fbf.input = [] → s.ulp.lost = 0 →
        exec .frameTransmitEnd s =
          .next
            { s with
              fbf := { s.fbf with report := rest }
              ulp := { s.ulp with line := some ⟨.report, Config.unsolicitedChannelTag, m.payload, none⟩, alt := .input } }) := by
  have hfree := lineEnded_lineFree hp hd
  refine ⟨fun k hreset => ?_, fun hreset hr hi hm => ?_, fun m rest hr hreset hi hlost => ?_⟩
  · refine finish_of_settle (Ends.settle_eq ?_)
    rw [transmitEnd_eq hl hp, hreset, if_neg (c := f.kind = .report ∧ _) fun h => hk h.1]
    exact Ends.arbiter_busy (k := 999) (by simp [Ulp.lineFree]) (Ends.nil rfl)
  · exact exec_transmitEnd hl hp hreset (fun h => (hk h).elim)
      (Ends.areasEmpty (k := 999) hfree hheld hslot hr hi hm (Ends.nil rfl))
  · exact exec_transmitEnd hl hp hreset (fun h => (hk h).elim)
      (Ends.reportSent (k := 998) hfree hheld hslot hr (.inl hi) hlost (Ends.nil rfl))

/-- The end of a frame where the upstream hold does not apply. -/
theorem transmitEnd_alternates (hl : s.ulp.line = some f) (hp : s.ulp.preReset = none) (hf : f.reset = none)
    (hd : s.ulp.resetDue = none) (hheld : s.held = false) (hk : f.kind = .report → isForceCut f.payload = false) :
    (∀ r, s.ulp.slot = some r → s.ulp.overruns = [] → s.ulp.queue = [] →
        exec .frameTransmitEnd s =
          .next { s with ulp := { s.ulp with line := some ⟨.reply, r.ct, r.payload, r.reset⟩, slot := none } }) ∧
      (s.ulp.slot = none → ∀ m rest, s.fbf.report = m :: rest → ∀ i waits, s.fbf.input = i :: waits →
        (s.ulp.alt = .report → s.ulp.lost = 0 →
          exec .frameTransmitEnd s =
            .next
              { s with
                fbf := { s.fbf with report := rest }
                ulp := { s.ulp with line := some ⟨.report, Config.unsolicitedChannelTag, m.payload, none⟩, alt := .input } }) ∧
          (s.ulp.alt = .input → s.igt.pend = [] → s.igt.head = .idle →
            exec .frameTransmitEnd s =
              .next
                { s with
                  fbf := { s.fbf with input := waits }
                  ulp := { s.ulp with line := some ⟨.input, Config.unsolicitedChannelTag, i.payload, none⟩, alt := .report } })) := by
  have hfree := lineEnded_lineFree hp hd
  refine ⟨fun r hslot ho hq => ?_, fun hslot m rest hr i waits hi => ⟨fun ha hlost => ?_, fun ha hpend hhead => ?_⟩⟩
  · exact exec_transmitEnd hl hp hf hk (Ends.replySent (k := 998) hfree hheld hslot ho hq (Ends.nil rfl))
  · exact exec_transmitEnd hl hp hf hk (Ends.reportSent (k := 998) hfree hheld hslot hr (.inr ha) hlost (Ends.nil rfl))
  · exact exec_transmitEnd hl hp hf hk (Ends.inputSent (k := 997) hfree hheld hslot hr hi ha hpend hhead (Ends.nil rfl))

/-- The end of the FORCE_CUT report asserts PWR_CUT; the arbiter then takes nothing under the upstream hold. -/
theorem transmitEnd_cuts (hl : s.ulp.line = some f) (hp : s.ulp.preReset = none) (hf : f.reset = none)
    (hheld : s.held = true) (hw : s.spu.cutStage = .wait) (hk : f.kind = .report) (hc : isForceCut f.payload = true) :
    exec .frameTransmitEnd s =
      .next
        { s with
          spu := { s.spu with cutStage := .pulse, pwrCut := true, cutTimer := some s.par.cutPulse }
          ulp := { s.ulp with line := none } } := by
  refine finish_of_settle (Ends.settle_eq ?_)
  rw [transmitEnd_frees hl hp hf, if_pos ⟨hk, hc⟩]
  refine Ends.step (k := 999) (if_pos hw) (by simp) ?_
  exact Ends.arbiter_deaf (k := 998) (.inr ⟨hheld, nofun⟩) (Ends.nil rfl)

theorem overflowReport_busy (hb : s.ulp.lineFree = false) :
    (0 < s.ulp.lost → 10 ≤ s.fbf.reportFree →
        exec .overflowReport s =
          .next
            { s with
              fbf := { s.fbf with report := s.fbf.report ++ [⟨.report, 21 :: (num4 s.ms.toNat ++ [byte s.ulp.lost])⟩] }
              ulp := { s.ulp with lost := 0 } }) ∧
      (s.ulp.lost = 0 ∨ s.fbf.reportFree < 10 → exec .overflowReport s = .next s) := by
  refine ⟨fun h1 h2 => finish_of_settle (Ends.settle_eq ?_), fun h => (congrArg finish (offerOverflow_of_none h)).trans (finish_quiet s)⟩
  rw [offerOverflow_of_fits h1 h2]
  exact Ends.arbiter_busy (k := 999) hb (Ends.nil rfl)

end

/-- Settles O45: what the arbiter takes for the line, case by case. -/
theorem transmitEndAndOverflowReport : Obligations.TransmitEndAndOverflowReport :=
  ⟨fun _ _ hl hp hk hheld hslot hd => transmitEnd_of_reply hl hp hk hheld hslot hd,
    fun _ _ hl hp hf hd => ⟨fun hheld hk => transmitEnd_alternates hl hp hf hd hheld hk,
      fun hheld hw hk hc => transmitEnd_cuts hl hp hf hheld hw hk hc⟩,
    fun _ hb => overflowReport_busy hb⟩

end Sys2Proof.Machine
end

section
/-! PROOFS. The end of STANDBY, and RUN from SETTLE (O44). -/

namespace Sys2Proof.Machine
open Sys2Proof

section
variable {s t u : State} {k : Nat} {l : List Signal} {Q : State → Prop}

/-! ### Wake events -/

theorem wakeEvent_of_standby {src : PowerSource} (h : s.psc.power = .standby) :
    wakeEvent src s = quiet (if s.par.wakeMask.testBit src.code then
      { s with psc := { s.psc with power := .settle, wakeCause := some src, settle := some s.par.wakeSettle } } else s) := by
  unfold wakeEvent wakeEnabled
  split
  · rw [h]; rfl
  · rfl

/-- A wake event that ends STANDBY. -/
theorem settle_wake {src : PowerSource} (h : s.psc.power = .standby) :
    finish (s, [.pscWake src]) = .next (if s.par.wakeMask.testBit src.code then
      { s with psc := { s.psc with power := .settle, wakeCause := some src, settle := some s.par.wakeSettle } } else s) :=
  finish_of_settle (Ends.settle_eq (Ends.step (k := 999) (wakeEvent_of_standby h) (by simp) (Ends.nil rfl)))

theorem awake_of_standby (h : s.psc.power = .standby) : s.awake = false := by rw [State.awake, h]

theorem exec_dockAttention (hp : s.psc.power = .standby) :
    (s.dlc.state = .active ∨ s.dlc.state = .quiesced →
        exec .dockAttention s =
          .next (if s.par.wakeMask.testBit 4 then
            { s with psc := { s.psc with power := .settle, wakeCause := some .dockAttention, settle := some s.par.wakeSettle } }
          else s)) ∧
      (s.dlc.state ≠ .active → s.dlc.state ≠ .quiesced → exec .dockAttention s = .next s) := by
  refine ⟨fun h => ?_, fun h1 h2 => ?_⟩
  · have he : dockAttention s = (s, [.pscWake .dockAttention]) := if_pos ⟨by simp [awake_of_standby hp], h⟩
    exact (congrArg finish he).trans (settle_wake hp)
  · have he : dockAttention s = quiet s := if_neg fun h => h.2.elim h1 h2
    exact (congrArg finish he).trans (finish_quiet s)

theorem exec_uplinkActivity (hp : s.psc.power = .standby) :
    (s.psc.uplinkSeen = false →
        exec .uplinkActivity s =
          .next (if s.par.wakeMask.testBit 5 then
            { s with psc := { s.psc with power := .settle, wakeCause := some .uplink, settle := some s.par.wakeSettle, uplinkSeen := true } }
          else { s with psc := { s.psc with uplinkSeen := true } })) ∧
      (s.psc.uplinkSeen = true → exec .uplinkActivity s = .next s) := by
  refine ⟨fun h => ?_, fun h => ?_⟩
  · have he : uplinkActivity s = ({ s with psc := { s.psc with uplinkSeen := true } }, [.pscWake .uplink]) :=
      if_pos ⟨by simp [awake_of_standby hp], by simp [h]⟩
    exact (congrArg finish he).trans (settle_wake (s := { s with psc := { s.psc with uplinkSeen := true } }) hp)
  · have he : uplinkActivity s = quiet s := if_neg fun hc => by simp [h] at hc
    exact (congrArg finish he).trans (finish_quiet s)

/-! ### RUN with a doze delay

With a doze delay no handover leaves RUN at once, whatever the host does. -/

theorem startDoze_of_delay (hd : 0 < s.par.dozeDelay) :
    startDoze s = quiet { s with psc := { s.psc with doze := some (s.par.dozeDelay * 1000) } } := if_neg (by omega)

/-- The handovers to the PSC. -/
abbrev pscKinds : List Signal := [.pscRecheck, .pscDeferred, .pscDozeCheck, Kind.pscHost, Kind.pscWake]

/-- The PSC keeps RUN: it moves its doze timer at most. -/
theorem psc_of_delay {g : Signal} (hp : s.psc.power = .run) (hd : 0 < s.par.dozeDelay) (hg : g.kind ∈ pscKinds) :
    ∃ d, handle g s = quiet { s with psc := { s.psc with doze := d } } := by
  have hsame : handle g s = quiet s → ∃ d, handle g s = quiet { s with psc := { s.psc with doze := d } } := fun h => ⟨_, h⟩
  cases g
  case pscRecheck => exact hsame (standbyRecheck_of_run hp)
  case pscDeferred => exact hsame (deferredRecheck_of_run hp)
  case pscDozeCheck =>
    by_cases hc : s.psc.power = .run ∧ s.spu.host.dozes ∧ s.psc.doze.isNone
    · exact ⟨_, (if_pos hc).trans (startDoze_of_delay hd)⟩
    · exact hsame (if_neg hc)
  case pscWake src => exact hsame (wakeEvent_of_awake (awake_of_run hp))
  case pscHost old new =>
    by_cases hn : new.dozes = true
    · rw [handle, hostChanged, hp]
      simp only [hn, if_true]
      split
      · exact ⟨_, rfl⟩
      · exact ⟨_, startDoze_of_delay hd⟩
    · exact ⟨_, hostChanged_of_run hp (Bool.eq_false_iff.mpr hn)⟩
  case report r f => by_cases hr : r = .forceCut <;> simp [Signal.kind, hr] at hg
  all_goals simp [Signal.kind] at hg

/-- `t` is `s` after handovers of the entry to RUN: the PSC, the sampling, the orientation and the Uplink's bytes stand. -/
structure Restarted (s t : State) : Prop where
  psc : t.psc = { s.psc with doze := t.psc.doze }
  oru : t.oru = s.oru
  lid : t.hau.lid = s.hau.lid
  sample : t.hau.sampleTimer = s.hau.sampleTimer
  rx : t.ulp.rx = s.ulp.rx
  par : t.par = s.par

theorem Restarted.refl (s : State) : Restarted s s := ⟨rfl, rfl, rfl, rfl, rfl, rfl⟩

theorem Restarted.trans (h : Restarted s t) (h' : Restarted t u) : Restarted s u :=
  ⟨by rw [h'.psc, h.psc], h'.oru.trans h.oru, h'.lid.trans h.lid, h'.sample.trans h.sample, h'.rx.trans h.rx, h'.par.trans h.par⟩

theorem composeReport_rx (r : ReportKind) (f : List Byte) (s : State) : (composeReport r f s).1.ulp.rx = s.ulp.rx := by
  unfold composeReport offerOverflow offerReport storeReport Act.andThen
  dsimp only [quiet]
  split_ifs <;> rfl

/-- The handovers of the entry to RUN. -/
abbrev restartKinds : List Signal := gaugedKinds.filter fun g => g != .oruEval && g != Kind.oruCommit

theorem rx_handle {g : Signal} (hg : g.kind ∈ restartKinds) (hq : s.ulp.queue = [])
    (hb : g.idleBlocks.contains .psc = false) : (handle g s).1.ulp.rx = s.ulp.rx := by
  by_cases hu : g.idleBlocks.contains .ulp = false
  · rw [(handle_idleBlocks hq).ulp hu]
  cases g
  case report r f => exact composeReport_rx r f s
  case reportRemoved =>
    rcases offerOverflow_cases s with he | ⟨t, he, ho, -⟩
    · rw [handle, he]; rfl
    · rw [handle, he]; exact (congrArg (fun x => x.ulp.rx) ho :)
  case arbiter =>
    obtain ⟨t, L, he, ho, -⟩ := arbiterChoice_cases s
    rw [handle, he]
    exact (congrArg (fun x => x.ulp.rx) ho :)
  case serve =>
    rcases serveQueue_of_idle hq with he | ⟨t, he, ho, -⟩
    · rw [handle, he]; rfl
    · rw [handle, he]; exact (congrArg (fun x => x.ulp.rx) ho :)
  case reply r =>
    rw [handle, commandReply, placeReply]
    split <;> rfl
  case holdBegin => rfl
  all_goals first
    | exact (hu rfl).elim
    | exact absurd hb (of_decide_eq_false rfl)
    | exact absurd hg (of_decide_eq_false rfl)

theorem lid_restart {g : Signal} (hg : g.kind ∈ restartKinds) (hq : s.ulp.queue = [])
    (hb : g.idleBlocks.contains .psc = false) :
    (handle g s).1.hau.lid = s.hau.lid ∧ (handle g s).1.hau.sampleTimer = s.hau.sampleTimer := by
  by_cases hu : g.idleBlocks.contains .hau = false
  · rw [(handle_idleBlocks hq).hau hu]
    exact ⟨rfl, rfl⟩
  cases g
  case hinge => exact hingeAtSample_lid s
  case hauDock b => exact hauDockNotice_lid b s
  case mirror => exact mirrorSample_lid s
  case hauHall =>
    change (hallChange s).1.hau.lid = _ ∧ (hallChange s).1.hau.sampleTimer = _
    unfold hallChange
    split
    · split
      · exact hingeUpdate_lid _ s
      · split
        · exact hingeUpdate_lid _ s
        · exact ⟨rfl, rfl⟩
    · exact ⟨rfl, rfl⟩
  case report r f => by_cases hr : r = .forceCut <;> exact (hu rfl).elim
  all_goals first
    | exact (hu rfl).elim
    | exact absurd hb (of_decide_eq_false rfl)
    | exact absurd hg (of_decide_eq_false rfl)

theorem restarted_handle {g : Signal} (hg : g.kind ∈ restartKinds) (hq : s.ulp.queue = []) (hp : s.psc.power = .run)
    (hd : 0 < s.par.dozeDelay) : Restarted s (handle g s).1 ∧ ∀ x ∈ (handle g s).2, x.kind ∈ restartKinds := by
  by_cases hpsc : g.kind ∈ pscKinds
  · obtain ⟨d, he⟩ := psc_of_delay hp hd hpsc
    rw [he]
    exact ⟨⟨rfl, rfl, rfl, rfl, rfl, rfl⟩, nofun⟩
  have hall := List.all_eq_true.mp (show ((restartKinds.filter fun k => decide (k ∉ pscKinds)).all fun k =>
      !k.idleBlocks.contains .psc && !k.idleBlocks.contains .oru && !k.idleBlocks.contains .par &&
        k.idleFollows.all restartKinds.contains) = true by decide)
    g.kind (List.mem_filter.mpr ⟨hg, decide_eq_true hpsc⟩)
  simp only [Bool.and_eq_true, Bool.not_eq_true', idleBlocks_kind, idleFollows_kind] at hall
  obtain ⟨⟨⟨hb, horu⟩, hpar⟩, hfol⟩ := hall
  have ho := handle_idleBlocks (g := g) hq
  obtain ⟨hlid, hsample⟩ := lid_restart hg hq hb
  refine ⟨⟨by rw [ho.psc hb], ho.oru horu, hlid, hsample, rx_handle hg hq hb, ho.par hpar⟩, ?_⟩
  exact (handle_idleFollows hq).mono fun k hk => List.contains_iff_mem.mp (List.all_eq_true.mp hfol k hk)

/-- The entry to RUN, with a doze delay and no command waiting. -/
theorem Ends.restarted (hl : ∀ g ∈ l, g.kind ∈ restartKinds) (hq : s.ulp.queue = []) (hp : s.psc.power = .run)
    (hd : 0 < s.par.dozeDelay) : Ends k l s (Restarted s) := by
  refine Ends.of_keeps (fun g => g.kind ∈ restartKinds) (fun t => Restarted s t ∧ t.ulp.queue = []) ?_ hl ⟨.refl s, hq⟩ fun _ h => h.1
  rintro g t hg ⟨ht, hqt⟩
  obtain ⟨h1, h2⟩ := restarted_handle hg hqt (by rw [ht.psc]; exact hp) (by rw [ht.par]; exact hd)
  exact ⟨⟨ht.trans h1, handle_queue (fun h => by rw [h] at hg; exact absurd hg (by decide)) hqt⟩, h2⟩

/-! ### RUN from SETTLE -/

theorem enterPhase_readings (new : Phase) (c : Option ChargeCause) (n : Nat) (s : State) :
    (enterPhase new c n s).1.sbu.rail = s.sbu.rail ∧ (enterPhase new c n s).1.sbu.temp = s.sbu.temp := ⟨rfl, rfl⟩

/-- A measurement leaves the readings of rail and temperature. -/
theorem pccRestart_readings (mv ma : Int) (s : State) :
    (pccRestart mv ma s).1.sbu.rail = s.sbu.rail ∧ (pccRestart mv ma s).1.sbu.temp = s.sbu.temp := by
  unfold pccRestart
  split
  · unfold takeMeasurement
    dsimp only
    split
    · exact enterPhase_readings _ _ _ _
    · split
      · exact enterPhase_readings _ _ _ _
      · exact ⟨rfl, rfl⟩
  · exact ⟨rfl, rfl⟩

theorem sbuRestart_readings (rail temp : Int) (s : State) :
    (sbuRestart rail temp s).1.sbu.rail = (max 0 (min 6000 rail)).toNat ∧
      (sbuRestart rail temp s).1.sbu.temp = max (-40) (min 125 temp) := by
  have htemp : ∀ u, (takeTemperature temp u).1.sbu.rail = u.sbu.rail := fun u => by
    unfold takeTemperature
    dsimp only
    split <;> rfl
  exact ⟨(htemp _).trans (takeRail_sbu rail _).1, (takeTemperature_sbu temp _).1⟩

/-- The blocks' records when the handovers of the entry begin. -/
structure Restarts (w : WakeSense) (s t : State) : Prop where
  psc : t.psc = { s.psc with power := .run, settle := none, latched := [] }
  lid : t.hau.lid = none
  sample : t.hau.sampleTimer = some (samplePeriod .run s.par.lidRate)
  hinge : t.hau.hinge = (hallForced s).getD Hinge.lost
  oru : t.oru = { s.oru with committed := .unknown, candidate := none, dwell := none, flat := false, angle := none }
  rail : t.sbu.rail = (max 0 (min 6000 w.rail)).toNat
  temp : t.sbu.temp = max (-40) (min 125 w.temp)
  rx : t.ulp.rx = []
  queue : t.ulp.queue = s.ulp.queue
  par : t.par = s.par
  sib : t.sib = s.sib

theorem hauRestart_fields (s : State) :
    (hauRestart s).1.hau.lid = none ∧ (hauRestart s).1.hau.sampleTimer = some (samplePeriod .run s.par.lidRate) ∧
      (hauRestart s).1.hau.hinge = (hallForced s).getD Hinge.lost := by
  unfold hauRestart
  dsimp only
  split <;> exact ⟨rfl, rfl, rfl⟩

/-- The blocks restart one after the other. -/
theorem enterRunFromSettle_fst (w : WakeSense) (s : State) :
    (enterRunFromSettle w s).1 = (pccRestart w.cellV w.cellI (sbuRestart w.rail w.temp (dlcRestart (pclRestart (orientRestart
      (hauRestart (runBlocks s)).1).1).1)).1).1 := by
  simp only [enterRunFromSettle, andThen_fst, quiet_fst, emitWith]

theorem enterRunFromSettle_restarts (w : WakeSense) (s : State) : Restarts w s (enterRunFromSettle w s).1 := by
  rw [enterRunFromSettle_fst]
  obtain ⟨hlid, hsample, hhinge⟩ := hauRestart_fields (runBlocks s)
  have h1 := hauRestart_only (runBlocks s) (T := [.hau]) rfl
  have h2 := orientRestart_only (hauRestart (runBlocks s)).1 (T := [.oru]) rfl
  have h4 : Only [.pcl, .dlc, .fbf] (orientRestart (hauRestart (runBlocks s)).1).1
      (dlcRestart (pclRestart (orientRestart (hauRestart (runBlocks s)).1).1).1) :=
    (pclRestart_only _ rfl).trans (dlcRestart_only _ rfl)
  generalize dlcRestart (pclRestart (orientRestart (hauRestart (runBlocks s)).1).1).1 = u at h4
  obtain ⟨hr1, ht1⟩ := sbuRestart_readings w.rail w.temp u
  obtain ⟨hr2, ht2⟩ := pccRestart_readings w.cellV w.cellI (sbuRestart w.rail w.temp u).1
  have h7 : Only [.sbu, .pcc] u (pccRestart w.cellV w.cellI (sbuRestart w.rail w.temp u).1).1 :=
    (sbuRestart_only _ _ _ rfl).trans (pccRestart_only _ _ _ rfl)
  generalize pccRestart w.cellV w.cellI (sbuRestart w.rail w.temp u).1 = a at hr2 ht2 h7
  have hhau : a.1.hau = (hauRestart (runBlocks s)).1.hau := (h7.hau rfl).trans ((h4.hau rfl).trans (h2.hau rfl))
  have hulp : a.1.ulp = (runBlocks s).ulp := (h7.ulp rfl).trans ((h4.ulp rfl).trans ((h2.ulp rfl).trans (h1.ulp rfl)))
  exact {
    psc := (h7.psc rfl).trans ((h4.psc rfl).trans ((h2.psc rfl).trans (h1.psc rfl)))
    lid := by rw [hhau, hlid]
    sample := by rw [hhau, hsample]; rfl
    hinge := by rw [hhau, hhinge]; rfl
    oru := by
      rw [h7.oru rfl, h4.oru rfl]
      change { (hauRestart (runBlocks s)).1.oru with committed := .unknown, candidate := none, dwell := none, flat := false, angle := none } = _
      rw [h1.oru rfl]
      rfl
    rail := hr2.trans hr1
    temp := ht2.trans ht1
    rx := by rw [hulp]; rfl
    queue := by rw [hulp]; rfl
    par := (h7.par rfl).trans ((h4.par rfl).trans ((h2.par rfl).trans (h1.par rfl)))
    sib := (h7.sib rfl).trans ((h4.sib rfl).trans ((h2.sib rfl).trans (h1.sib rfl))) }

theorem exec_settleTimer (w : WakeSense) {r : Nat} (hr : s.psc.settle = some r) (hd : 0 < s.par.dozeDelay) (hq : s.ulp.queue = []) :
    ∃ t, exec (.settleTimerExpiry w) s = .next t ∧ t.psc.power = .run ∧ t.psc.settle = none ∧ t.psc.latched = [] ∧
      t.psc.wakeCause = s.psc.wakeCause ∧ t.hau.lid = none ∧ t.hau.sampleTimer = some (samplePeriod .run s.par.lidRate) ∧
      t.oru = { s.oru with committed := .unknown, candidate := none, dwell := none, flat := false, angle := none } ∧
      t.sbu.rail = (max 0 (min 6000 w.rail)).toNat ∧ t.sbu.temp = max (-40) (min 125 w.temp) ∧
      (s.sib.lid.asserted = true → t.hau.hinge = ⟨some 0, .hall, 0⟩) ∧ t.ulp.rx = [] ∧ s.SameConfig t ∧
      t.sib = (elapse r s).sib := by
  have hsome : (elapse r s).psc.settle.isSome = true := by
    change (s.psc.settle.pass r).isSome = true
    rw [hr]; rfl
  have ha := enterRunFromSettle_restarts w (elapse r s)
  have hhands := hands_enterRunFromSettle w (elapse r s)
  generalize hx : enterRunFromSettle w (elapse r s) = a at ha hhands
  have hqa : a.1.ulp.queue = [] := ha.queue.trans hq
  have hforced : s.sib.lid.asserted = true → a.1.Forced ⟨some 0, .hall, 0⟩ := fun h => by
    have hall : hallForced (elapse r s) = some ⟨some 0, .hall, 0⟩ := if_pos h
    exact ⟨(hallForced_of_sib ha.sib).trans hall, ha.hinge.trans (by rw [hall]; rfl)⟩
  obtain ⟨t, ht, ⟨hs, hg, hf⟩, hc, hsib, -⟩ := exec_event (c := .settleTimerExpiry w) (s := s) (u := elapse r s) (a := a)
    (Q := fun t => Restarted a.1 t ∧ Gauged a.1 t ∧ (s.sib.lid.asserted = true → t.hau.hinge = ⟨some 0, .hall, 0⟩))
    rfl (State.SameConfig.refl s) hq ((finish_expiry hr).trans (congrArg finish hx)) ((if_pos hsome).trans hx) rfl rfl (fun n hn =>
      ⟨Ends.restarted (hhands.mono (by decide)) hqa (by rw [ha.psc]) (by rw [ha.par]; exact hd) n hn,
        Ends.gauged (hhands.mono (by decide)) hqa n hn,
        fun h => Ends.forced (hhands.mono (by decide)) hqa (hforced h) n hn⟩)
  refine ⟨t, ht, ?_, ?_, ?_, ?_, hs.lid.trans ha.lid, hs.sample.trans ha.sample, hs.oru.trans ha.oru, hg.rail.trans ha.rail,
    hg.temp.trans ha.temp, hf, hs.rx.trans ha.rx, hc, hsib⟩
  all_goals rw [hs.psc, ha.psc]
  rfl

end

/-- Settles O44: a wake event is one handover to the PSC; with a doze delay nothing that the entry to RUN hands on leaves it. -/
theorem wakeEventsAndSettleTimer : Obligations.WakeEventsAndSettleTimer := by
  refine ⟨fun s hp => ?_, fun w r s hr hd hq => exec_settleTimer w hr hd hq⟩
  obtain ⟨h1, h2⟩ := exec_dockAttention hp
  exact ⟨h1, h2, exec_uplinkActivity hp⟩

end Sys2Proof.Machine
end

section
/-! PROOFS. Head processing step by step, and the commands that begin it: GATE_RESCAN and GATE_FLUSH (O54). -/

namespace Sys2Proof.Machine
open Sys2Proof

section
variable {s u : State} {f : HoldFrame} {rest : List HoldFrame} {p : HeadProc} {b : HoldBody} {c k : Nat} {l : List Signal}
  {Q : State → Prop}

/-! ### Admission -/

/-- A frame that is no release, or a release: what a frame needs to be admitted (05 R94). -/
def State.Admits (s : State) (b : HoldBody) : Prop :=
  ∀ c, b = .press c → s.igt.keys.contains c = false ∧ s.igt.keys.length < 16

theorem admission_of_absent (h : s.gateDir.present = false) : admission b s = .refused := if_pos (by simp [h])

theorem admission_of_present (h : s.gateDir.present = true) (ha : s.Admits b) (hp : s.igt.pend = []) :
    admission b s = if s.fbf.inputFree < b.payload.length + 4 then .refused else .entered := by
  unfold admission
  rw [h, hp]
  cases b with
  | press c =>
    obtain ⟨h1, h2⟩ := ha c rfl
    simp only [h1, show ¬ 16 ≤ s.igt.keys.length by omega]
    simp
  | release c q => simp
  | point bs => simp

theorem admission_of_fits (h : s.gateDir.present = true) (ha : s.Admits b) (hp : s.igt.pend = [])
    (hf : b.payload.length + 4 ≤ s.fbf.inputFree) : admission b s = .entered :=
  (admission_of_present h ha hp).trans (if_neg (by omega))

theorem enterInput_eq_entered (hb : ∀ c q, b ≠ .release c q) (s : State) : enterInput b s = s.entered b := by
  cases b with
  | press c => rfl
  | release c q => exact (hb c q rfl).elim
  | point bs => simp [enterInput, State.entered, State.putInput, State.clearIdle, HoldBody.stored, HoldBody.key]

theorem afterEntry_nil (b : HoldBody) : afterEntry b [] = [] := by cases b <;> rfl

/-- A base release in the Input area, with its code out of the set. -/
def State.releasedKey (c : Nat) (s : State) : State :=
  { s with
    fbf := { s.fbf with input := s.fbf.input ++ [⟨.key, [byte c, 1]⟩] }
    igt := { s.igt with keys := s.igt.keys.erase c, idle := 0, idleLeft := 1000 } }

/-- The Hold area is empty, and the spill episode over. -/
def State.holdEnded (s : State) : State :=
  { s with
    fbf := { s.fbf with hold := [] }
    igt := { s.igt with displaced := false, expired := false } }

/-! ### The steps of a procedure -/

/-- A procedure in progress. -/
def State.processing (p : HeadProc) (s : State) : State := { s with igt := { s.igt with proc := some p, head := .idle } }

/-- No procedure in progress, paused as told. -/
def State.paused (m : HeadState) (s : State) : State := { s with igt := { s.igt with proc := none, head := m } }

/-- The step at a decided head that the Input area has room for (05 R103). -/
def decidedStep (f : HoldFrame) (rest : List HoldFrame) (s : State) : Act :=
  match f.body with
  | .release c _ =>
    if s.igt.keys.contains c then ((s.releasedKey c).setHold rest, [.arbiter, .headStep]) else (s.setHold rest, [.headStep])
  | .press _ | .point _ => admitHead f rest s

theorem decidedStep_of_release {q : Bool} (hb : f.body = .release c q) (hc : s.igt.keys.contains c = true) :
    decidedStep f rest s = ((s.releasedKey c).setHold rest, [.arbiter, .headStep]) := by
  rw [decidedStep, hb]
  exact if_pos hc

theorem decidedStep_of_judged (hb : ∀ c q, f.body ≠ .release c q) : decidedStep f rest s = admitHead f rest s := by
  rw [decidedStep]
  split
  · next heq => exact (hb _ _ heq).elim
  · rfl
  · rfl

theorem headStep_of_frame (hp : s.igt.proc = some p) (hh : s.fbf.hold = f :: rest) :
    headStep s =
      if s.igt.pend ≠ [] ∨ s.fbf.inputFree < f.size then pauseHead p s
      else if f.decided then decidedStep f rest s
      else if p = .drain then stopHead s
      else judgeHead f rest s := by
  rw [headStep, hp]
  simp only
  rw [hh]
  rfl

/-- A decided head that the Input area has room for. -/
theorem headStep_of_decided (hp : s.igt.proc = some p) (hh : s.fbf.hold = f :: rest) (hd : f.decided = true)
    (hpend : s.igt.pend = []) (hf : f.size ≤ s.fbf.inputFree) : headStep s = decidedStep f rest s := by
  rw [headStep_of_frame hp hh, if_neg (by rintro (h | h) <;> [exact h hpend; omega]), if_pos hd]

/-- A decided head is not tested for its age. -/
theorem holdCheck_of_decided (hh : s.fbf.hold = f :: rest) (hd : f.decided = true) : holdCheck false s = quiet s := by
  rw [holdCheck, hh]
  exact (if_pos hd).trans (if_neg nofun)

/-- A decided frame that has become the head of an IDLE gate drains (05 R101). -/
theorem holdCheck_drains (hh : s.fbf.hold = f :: rest) (hd : f.decided = true) (hi : s.igt.head = .idle) (hp : s.igt.proc = none) :
    holdCheck true s = (s.processing .drain, [.headStep]) := by
  rw [holdCheck, hh]
  exact (if_pos hd).trans (if_pos ⟨rfl, hi, by rw [hp]; rfl⟩)

/-- A paused procedure stays paused (05 R101). -/
theorem holdCheck_of_paused (hh : s.fbf.hold = f :: rest) (hd : f.decided = true) (hi : s.igt.head ≠ .idle) :
    holdCheck true s = quiet s := by
  rw [holdCheck, hh]
  exact (if_pos hd).trans (if_neg fun h => hi h.2.1)

/-- The head waits for room or for a pending release: the procedure pauses (05 R103). -/
theorem Ends.headPauses (hp : u.igt.proc = some p) (hh : u.fbf.hold = f :: rest) (hd : f.decided = true)
    (hw : u.igt.pend ≠ [] ∨ u.fbf.inputFree < f.size)
    (h : Ends k l (u.paused (if p = .rescan then .rescanPaused else .drainPaused)) Q) : Ends (k + 2) (.headStep :: l) u Q := by
  refine Ends.step (k := k + 1) ((headStep_of_frame hp hh).trans (if_pos hw)) (by simp) ?_
  exact Ends.skip (k := k) (holdCheck_of_decided (s := u.paused _) hh hd) (by simp) h

/-- Without a directory a decided press or touchpad report stays at the head: the drain stops (05 R94, R103). -/
theorem Ends.headStops (hp : u.igt.proc = some p) (hh : u.fbf.hold = f :: rest) (hd : f.decided = true)
    (hpend : u.igt.pend = []) (hf : f.size ≤ u.fbf.inputFree) (hb : ∀ c q, f.body ≠ .release c q) (hdir : u.gateDir.present = false)
    (h : Ends k l (u.paused .idle) Q) : Ends (k + 2) (.headStep :: l) u Q := by
  have hstep : headStep u = stopHead u := by
    rw [headStep_of_decided hp hh hd hpend hf, decidedStep_of_judged hb, admitHead, admission_of_absent hdir]
  refine Ends.step (k := k + 1) hstep (by simp) ?_
  exact Ends.skip (k := k) (holdCheck_of_decided (s := u.paused .idle) hh hd) (by simp) h

/-- The last frame has left the Hold area, on a busy line: the procedure and the episode end. -/
theorem Ends.headEmptied {t : State} (hstep : headStep u = (t, [.arbiter, .headStep]))
    (hb : t.ulp.lineFree = false) (hh : t.fbf.hold = []) (hp : t.igt.proc = some p)
    (h : Ends k l (t.paused .idle).unspilled Q) : Ends (k + 4) (.headStep :: l) u Q :=
  Ends.step (k := k + 3) hstep (by simp) (Ends.arbiter_busy (k := k + 2) hb (Ends.headStep_empty hh hp h))

/-- A lone decided frame that is admitted enters the Input area. -/
theorem Ends.headEnters (hp : u.igt.proc = some p) (hh : u.fbf.hold = [f]) (hd : f.decided = true)
    (hpend : u.igt.pend = []) (hf : f.size ≤ u.fbf.inputFree) (hb : ∀ c q, f.body ≠ .release c q) (hdir : u.gateDir.present = true)
    (ha : u.Admits f.body) (hbusy : u.ulp.lineFree = false)
    (h : Ends k l (((u.entered f.body).setHold []).paused .idle).unspilled Q) : Ends (k + 4) (.headStep :: l) u Q := by
  refine Ends.headEmptied (t := (u.entered f.body).setHold []) ?_ hbusy rfl hp h
  rw [headStep_of_decided hp hh hd hpend hf, decidedStep_of_judged hb, admitHead, admission_of_fits hdir ha hpend hf,
    enterInput_eq_entered hb, afterEntry_nil]

/-- A lone decided release of a code in the set enters the Input area. -/
theorem Ends.headReleases {q : Bool} (hp : u.igt.proc = some p) (hh : u.fbf.hold = [f]) (hd : f.decided = true)
    (hbody : f.body = .release c q) (hpend : u.igt.pend = []) (hf : f.size ≤ u.fbf.inputFree) (hc : u.igt.keys.contains c = true)
    (hbusy : u.ulp.lineFree = false) (h : Ends k l (((u.releasedKey c).setHold []).paused .idle).unspilled Q) :
    Ends (k + 4) (.headStep :: l) u Q := by
  exact Ends.headEmptied (t := (u.releasedKey c).setHold [])
    ((headStep_of_decided hp hh hd hpend hf).trans (decidedStep_of_release hbody hc)) hbusy rfl hp h

/-- A lone undecided press that the directory passes, no entry matching it, enters the Input area in a rescan. -/
theorem Ends.headPasses {stamp : Stamp} (hp : u.igt.proc = some .rescan) (hh : u.fbf.hold = [⟨.press c, false, stamp⟩])
    (hdir : u.gateDir.present = true) (hact : u.gateDir.action = .pass)
    (hfind : findEntry (.press c) u.igt.entries u.gateDir.first u.gateDir.count = none)
    (ha : u.Admits (.press c)) (hpend : u.igt.pend = []) (hf : 6 ≤ u.fbf.inputFree) (hbusy : u.ulp.lineFree = false)
    (h : Ends k l (((u.entered (.press c)).setHold []).paused .idle).unspilled Q) : Ends (k + 4) (.headStep :: l) u Q := by
  refine Ends.headEmptied (t := (u.entered (.press c)).setHold []) ?_ hbusy rfl hp h
  have hjudge : judge (.press c) u = (.pass, quiet u) := by rw [judge, hdir, hfind, hact]; rfl
  have hsize : (⟨.press c, false, stamp⟩ : HoldFrame).size = 6 := rfl
  rw [headStep_of_frame hp hh, if_neg (by rintro (h | h) <;> [exact h hpend; omega]), if_neg Bool.false_ne_true, if_neg nofun]
  rw [judgeHead, hjudge]
  change (admitHead ⟨.press c, false, stamp⟩ [] u) = _
  rw [admitHead, admission_of_fits hdir ha hpend (by exact hf)]
  rfl

/-! ### Discards (05 R106) -/

theorem paused_self (hp : u.igt.proc = none) (hi : u.igt.head = .idle) : u.paused .idle = u := by
  rw [State.paused, ← hi, ← hp]

theorem flushHold_none {keep : HoldFrame → Bool} (h : u.fbf.hold.filter keep = []) :
    flushHold keep u = ({ u.setHold [] with igt := { u.igt with head := .idle } }, [.holdCheck true]) := by
  rw [flushHold, h]
  rfl

theorem flushHold_some {keep : HoldFrame → Bool} (h : u.fbf.hold.filter keep = f :: rest) :
    flushHold keep u = (u.setHold (f :: rest), [.holdCheck true]) := by
  rw [flushHold, h]
  rfl

/-- Nothing is kept: the episode is over and no procedure is paused. -/
def State.emptied (s : State) : State :=
  { s with
    fbf := { s.fbf with hold := [] }
    igt := { s.igt with displaced := false, expired := false, head := .idle } }

theorem Ends.flushesAll {keep : HoldFrame → Bool} (hk : ∀ f ∈ u.fbf.hold, keep f = false) (h : Ends 5 l u.emptied Q) :
    Ends 10 ((flushHold keep u).2 ++ l) (flushHold keep u).1 Q := by
  have hnone : u.fbf.hold.filter keep = [] := List.filter_eq_nil_iff.mpr fun x hx => by simp [hk x hx]
  rw [flushHold_none hnone]
  exact Ends.le (Ends.step (k := 5) (holdCheck_of_empty (b := true) (s := { u.setHold [] with igt := { u.igt with head := .idle } }) rfl) (by simp) h)
    (by omega)

section
variable {keep : HoldFrame → Bool} (hl : u.fbf.hold.filter keep = f :: rest) (hd : f.decided = true)
include hl hd

/-- A paused procedure stays paused. -/
theorem Ends.flushesPaused (hi : u.igt.head ≠ .idle) (h : Ends 5 l (u.setHold (f :: rest)) Q) :
    Ends 10 ((flushHold keep u).2 ++ l) (flushHold keep u).1 Q := by
  rw [flushHold_some hl]
  exact Ends.le (Ends.skip (k := 5) (holdCheck_of_paused (s := u.setHold (f :: rest)) rfl hd hi) (by simp) h) (by omega)

/-- In IDLE a drain begins at the head that is left. -/
theorem Ends.flushesDrain (hi : u.igt.head = .idle) (hp : u.igt.proc = none)
    (h : Ends 9 (.headStep :: l) ((u.setHold (f :: rest)).processing .drain) Q) :
    Ends 10 ((flushHold keep u).2 ++ l) (flushHold keep u).1 Q := by
  rw [flushHold_some hl]
  exact Ends.step (k := 9) (holdCheck_drains (s := u.setHold (f :: rest)) rfl hd hi hp) (by simp) h

/-- The drain pauses where the head does not fit or a release is pending. -/
theorem Ends.flushesWaits (hi : u.igt.head = .idle) (hp : u.igt.proc = none) (hw : u.igt.pend ≠ [] ∨ u.fbf.inputFree < f.size)
    (h : Ends 5 l { u.setHold (f :: rest) with igt := { u.igt with head := .drainPaused } } Q) :
    Ends 10 ((flushHold keep u).2 ++ l) (flushHold keep u).1 Q := by
  refine Ends.flushesDrain hl hd hi hp (Ends.le (Ends.headPauses (k := 5) rfl rfl hd hw ?_) (by omega))
  have hsame : (u.setHold (f :: rest)).paused .drainPaused = { u.setHold (f :: rest) with igt := { u.igt with head := .drainPaused } } := by
    rw [State.paused, ← hp]
    rfl
  exact hsame ▸ h

/-- The drain stops at a press or a touchpad report without a directory. -/
theorem Ends.flushesStops (hi : u.igt.head = .idle) (hp : u.igt.proc = none) (hpend : u.igt.pend = []) (hf : f.size ≤ u.fbf.inputFree)
    (hb : ∀ c q, f.body ≠ .release c q) (hdir : u.gateDir.present = false) (h : Ends 5 l (u.setHold (f :: rest)) Q) :
    Ends 10 ((flushHold keep u).2 ++ l) (flushHold keep u).1 Q := by
  refine Ends.flushesDrain hl hd hi hp (Ends.le (Ends.headStops (k := 5) rfl rfl hd hpend hf hb hdir ?_) (by omega))
  exact (congrArg (fun x : State => Ends 5 l (x.setHold (f :: rest)) Q) (paused_self hp hi)).mpr h

/-- A lone admitted frame enters the Input area. -/
theorem Ends.flushesEnters (hi : u.igt.head = .idle) (hp : u.igt.proc = none) (hpend : u.igt.pend = []) (hf : f.size ≤ u.fbf.inputFree)
    (hrest : rest = []) (hbusy : u.ulp.lineFree = false) (hb : ∀ c q, f.body ≠ .release c q) (hdir : u.gateDir.present = true)
    (ha : u.Admits f.body) (h : Ends 5 l (u.entered f.body).holdEnded Q) :
    Ends 10 ((flushHold keep u).2 ++ l) (flushHold keep u).1 Q := by
  subst hrest
  refine Ends.flushesDrain hl hd hi hp (Ends.headEnters (k := 5) rfl rfl hd hpend hf hb hdir ha hbusy ?_)
  exact (congrArg (fun x : State => Ends 5 l (x.entered f.body).holdEnded Q) (paused_self hp hi)).mpr h

/-- A lone release of a code in the set enters the Input area. -/
theorem Ends.flushesReleases {q : Bool} (hi : u.igt.head = .idle) (hp : u.igt.proc = none) (hpend : u.igt.pend = [])
    (hf : f.size ≤ u.fbf.inputFree) (hrest : rest = []) (hbusy : u.ulp.lineFree = false) (hbody : f.body = .release c q)
    (hc : u.igt.keys.contains c = true) (h : Ends 5 l (u.releasedKey c).holdEnded Q) :
    Ends 10 ((flushHold keep u).2 ++ l) (flushHold keep u).1 Q := by
  subst hrest
  refine Ends.flushesDrain hl hd hi hp (Ends.headReleases (k := 5) rfl rfl hd hbody hpend hf hc hbusy ?_)
  exact (congrArg (fun x : State => Ends 5 l (x.releasedKey c).holdEnded Q) (paused_self hp hi)).mpr h

end

/-! ### The commands -/

/-- A command that is answered OK, once what it hands on has left a state that no other block's handover needs. -/
theorem exec_handed {i : Instr} {ct : Byte} {pl : List Byte} {need : Option (Group × Bool)} {a : Act} (F : State → State)
    (hc : i.frame = some (ct, pl)) (hr : s.Receptive) (hs : s.Allowed ct need) (hf : Spells pl need) (h18 : commandCode pl ≠ 18)
    (hrun : runCommand (channelOf ct == 0) (s.spu.rxSeq + 1) s.ms pl s.running = ⟨.ok, [], a, [], none⟩)
    (h : ∀ l Q, Ends 5 l (F s.running) Q → Ends 10 (a.2 ++ l) a.1 Q) (hulp : (F s.running).ulp = s.running.ulp)
    (hended : (F s.running).ended = F s.running.ended) (hspu : (F s.running).spu = s.running.spu) :
    exec i s = .next ((F s.afterFrame).answered (replyTo ct (commandCode pl) .ok [])) := by
  have hv : (F s.running).Vacant := by
    rw [State.Vacant, hulp]
    exact (State.Receptive.prompt hr).vacant
  have hheld : (F s.running).held = false := by
    rw [State.held, hspu]
    exact hr.2.1
  obtain ⟨y, hy, rfl⟩ := exec_frame_ends (Q := (· = (F s.afterFrame).answered (replyTo ct (commandCode pl) .ok []))) hc
    (State.Receptive.prompt hr) hf.short ((commandResult_of_permitted hf h18 hs).trans hrun)
    (Ends.le (h _ _ (Ends.answers hv hheld (by rw [hended, running_ended hr.2.2.1]; rfl))) (by omega))
  exact hy

variable {ct : Byte}

theorem exec_gateRescan {F : State → State} (hr : s.Receptive) (hs : s.Permitted ct .gate true)
    (h : ∀ l Q, Ends 5 l (F s.running) Q → Ends 10 ((gateRescan s.running).2 ++ l) (gateRescan s.running).1 Q)
    (hulp : (F s.running).ulp = s.running.ulp) (hended : (F s.running).ended = F s.running.ended)
    (hspu : (F s.running).spu = s.running.spu) :
    exec (.gateRescan ct) s = .next ((F s.afterFrame).answered (replyTo ct 12 .ok [])) :=
  exec_handed (i := .gateRescan ct) F rfl hr hs (spells_one rfl rfl (by decide) (by decide)) (by decide) rfl h hulp hended hspu

theorem exec_gateFlush {F : State → State} (hr : s.Receptive) (hs : s.Permitted ct .gate true)
    (h : ∀ l Q, Ends 5 l (F s.running) Q → Ends 10 ((gateFlush s.running).2 ++ l) (gateFlush s.running).1 Q)
    (hulp : (F s.running).ulp = s.running.ulp) (hended : (F s.running).ended = F s.running.ended)
    (hspu : (F s.running).spu = s.running.spu) :
    exec (.gateFlush ct) s = .next ((F s.afterFrame).answered (replyTo ct 13 .ok [])) :=
  exec_handed (i := .gateFlush ct) F rfl hr hs (spells_one rfl rfl (by decide) (by decide)) (by decide) rfl h hulp hended hspu

theorem rescan_alone (hr : s.Receptive) (hs : s.Permitted ct .gate true) (hproc : s.igt.proc = none) (hh : s.fbf.hold = []) :
    exec (.gateRescan ct) s =
      .next
        (State.answered
          { s.afterFrame with
            igt := { s.igt with missing := false, displaced := false, expired := false, head := .idle } }
          (replyTo ct 12 .ok [])) := by
  refine exec_gateRescan (F := fun x => { x with igt := { s.igt with missing := false, displaced := false, expired := false, head := .idle } })
    hr hs (fun l Q h => ?_) rfl rfl rfl
  refine Ends.le (Ends.headStep_empty (k := 5) (by exact hh) rfl ?_) (by omega)
  rw [← hproc]
  exact h

theorem rescan_passes {code : Nat} {stamp : Stamp} (hr : s.Receptive) (hs : s.Permitted ct .gate true) (hproc : s.igt.proc = none)
    (hh : s.fbf.hold = [⟨.press code, false, stamp⟩]) (hdir : s.gateDir.present = true) (hact : s.gateDir.action = .pass)
    (hfind : findEntry (.press code) s.igt.entries s.gateDir.first s.gateDir.count = none)
    (hkey : s.igt.keys.contains code = false) (hlen : s.igt.keys.length < 16) (hpend : s.igt.pend = []) (hfree : 6 ≤ s.fbf.inputFree)
    (hbusy : s.ulp.lineFree = false) :
    exec (.gateRescan ct) s =
      .next
        (State.answered
          { s.afterFrame with
            fbf := { s.fbf with hold := [], input := s.fbf.input ++ [⟨.key, [byte code, 0]⟩] }
            igt :=
              { s.igt with
                keys := s.igt.keys ++ [code], missing := false, displaced := false, expired := false, head := .idle
                idle := 0, idleLeft := 1000 } }
          (replyTo ct 12 .ok [])) := by
  refine exec_gateRescan (F := fun x => (State.entered { x with igt := { x.igt with missing := false, head := .idle } } (.press code)).holdEnded)
    hr hs (fun l Q h => ?_) rfl rfl rfl
  refine Ends.le (Ends.headPasses (k := 5) rfl (by exact hh) hdir hact hfind ?_ hpend hfree hbusy ?_) (by omega)
  · rintro c hc
    cases hc
    exact ⟨hkey, hlen⟩
  · have hsame : ({ s.running with igt := { s.running.igt with missing := false } } : State).paused .idle =
        { s.running with igt := { s.running.igt with missing := false, head := .idle } } := by
      rw [State.paused, ← hproc]
      rfl
    exact (congrArg (fun x : State => Ends 5 l (x.entered (.press code)).holdEnded Q) hsame).mpr h

/-- GATE_FLUSH with decided frames. -/
theorem flush_decided {f : HoldFrame} {rest : List HoldFrame} (hr : s.Receptive) (hs : s.Permitted ct .gate true)
    (hproc : s.igt.proc = none) (hl : s.fbf.hold.filter HoldFrame.decided = f :: rest) (hi : s.igt.head = .idle) :
    (s.igt.pend ≠ [] ∨ s.fbf.inputFree < f.size →
        exec (.gateFlush ct) s =
          .next (State.answered { s.afterFrame.setHold (f :: rest) with igt := { s.igt with head := .drainPaused } } (replyTo ct 13 .ok []))) ∧
      (s.igt.pend = [] → f.size ≤ s.fbf.inputFree → (∀ c p, f.body ≠ .release c p) → s.gateDir.present = false →
        exec (.gateFlush ct) s = .next (State.answered (s.afterFrame.setHold (f :: rest)) (replyTo ct 13 .ok []))) ∧
      (s.igt.pend = [] → f.size ≤ s.fbf.inputFree → rest = [] → s.ulp.lineFree = false →
        ((∀ c p, f.body ≠ .release c p) → s.gateDir.present = true →
          (∀ c, f.body = .press c → s.igt.keys.contains c = false ∧ s.igt.keys.length < 16) →
          exec (.gateFlush ct) s =
            .next
              (State.answered
                { (s.afterFrame.entered f.body).setHold [] with
                  igt := { (s.entered f.body).igt with displaced := false, expired := false } }
                (replyTo ct 13 .ok []))) ∧
          (∀ c p, f.body = .release c p → s.igt.keys.contains c = true →
            exec (.gateFlush ct) s =
              .next
                (State.answered
                  { s.afterFrame with
                    fbf := { s.fbf with hold := [], input := s.fbf.input ++ [⟨.key, [byte c, 1]⟩] }
                    igt :=
                      { s.igt with
                        keys := s.igt.keys.erase c, displaced := false, expired := false, idle := 0, idleLeft := 1000 } }
                  (replyTo ct 13 .ok [])))) := by
  have hd : f.decided = true := (List.mem_filter.mp (hl ▸ List.mem_cons_self : f ∈ s.fbf.hold.filter HoldFrame.decided)).2
  refine ⟨fun hw => ?_, fun hpend hf hb hdir => ?_, fun hpend hf hrest hbusy => ⟨fun hb hdir ha => ?_, fun c p hbody hc => ?_⟩⟩
  · exact exec_gateFlush (F := fun x => { x.setHold (f :: rest) with igt := { s.igt with head := .drainPaused } }) hr hs
      (fun l Q h => Ends.flushesWaits hl hd hi hproc hw h) rfl rfl rfl
  · exact exec_gateFlush (F := fun x => x.setHold (f :: rest)) hr hs
      (fun l Q h => Ends.flushesStops hl hd hi hproc hpend hf hb hdir h) rfl rfl rfl
  · exact exec_gateFlush (F := fun x => (x.entered f.body).holdEnded) hr hs
      (fun l Q h => Ends.flushesEnters hl hd hi hproc hpend hf hrest hbusy hb hdir ha h) rfl rfl rfl
  · exact exec_gateFlush (F := fun x => (x.releasedKey c).holdEnded) hr hs
      (fun l Q h => Ends.flushesReleases hl hd hi hproc hpend hf hrest hbusy hbody hc h) rfl rfl rfl

end

/-- Settles O54: the steps of the rescan and of the drain, one by one. -/
theorem gateRescanAndFlush : Obligations.GateRescanAndFlush := by
  refine fun ct s hr hs hproc => ⟨fun hh => rescan_alone hr hs hproc hh,
    fun code stamp hh hdir hact hfind hkey hlen hpend hfree hbusy =>
      rescan_passes hr hs hproc hh hdir hact hfind hkey hlen hpend hfree hbusy, fun hk => ?_, fun l hl hne => ⟨fun hi => ?_, ?_⟩⟩
  · exact exec_gateFlush (F := State.emptied) hr hs (fun l Q h => Ends.flushesAll hk h) rfl rfl rfl
  · obtain ⟨f, rest, rfl⟩ := List.exists_cons_of_ne_nil hne
    have hd : f.decided = true := (List.mem_filter.mp (hl ▸ List.mem_cons_self : f ∈ s.fbf.hold.filter HoldFrame.decided)).2
    exact exec_gateFlush (F := fun x => x.setHold (f :: rest)) hr hs
      (fun l Q h => Ends.flushesPaused hl.symm hd hi h) rfl rfl rfl
  · rintro hi f rest rfl
    exact flush_decided hr hs hproc hl.symm hi

end Sys2Proof.Machine
end

section
/-! PROOFS. AREA_MAP and AREA_CLEAR (O59). -/

namespace Sys2Proof.Machine
open Sys2Proof

section
variable {s u : State} {ct : Byte} {k : Nat} {l : List Signal} {Q : State → Prop}

/-! ### The words of a map -/

theorem wordsOf_bytes (ws : List (BitVec 16)) : wordsOf (ws.flatMap fun w => num2 w.toNat) = ws.map BitVec.toNat := by
  induction ws with
  | nil => rfl
  | cons w ws ih =>
    have hw : le2 (byte w.toNat) (byte (w.toNat / 256)) = w.toNat := le2_bytes (by have := w.isLt; omega)
    calc wordsOf ((w :: ws).flatMap fun w => num2 w.toNat)
        = le2 (byte w.toNat) (byte (w.toNat / 256)) :: wordsOf (ws.flatMap fun w => num2 w.toNat) := rfl
      _ = (w :: ws).map BitVec.toNat := by rw [hw, ih, List.map_cons]

theorem length_words (ws : List (BitVec 16)) : (ws.flatMap fun w => num2 w.toNat).length = 2 * ws.length := by
  induction ws with
  | nil => rfl
  | cons w ws ih =>
    rw [List.flatMap_cons, List.length_append, ih]
    simp [num2]
    omega

theorem spells_areaMap {ws : List (BitVec 16)} (h : ws.length = 10) :
    Spells (19 :: ws.flatMap fun w => num2 w.toNat) (some (.buffer, true)) where
  need := rfl
  length := by
    change ((19 :: ws.flatMap fun w => num2 w.toNat).length == 21) = true
    simp only [List.length_cons, length_words, h]
    rfl
  nonzero := nofun
  le := by simp [commandCode]
  short := by simp only [List.length_cons, length_words, h]; omega

theorem runCommand_areaMap {pl : Bool} {q : Nat} {a : Stamp} {ws : List (BitVec 16)} :
    runCommand pl q a (19 :: ws.flatMap fun w => num2 w.toNat) u = areaMapResult (ws.map BitVec.toNat) u := by
  rw [← wordsOf_bytes]
  rfl

/-! ### What an AREA_MAP leaves -/

/-- The reply of a command among the traffic on the line. -/
theorem Ends.replyUpstream {r : Reply} (hs : u.Still) (hheld : u.held = false)
    (h : ∀ t, Upstream { u.ended with ulp := { u.ended.ulp with slot := some r } } t → Q t) : Ends 50 [.reply r, .serve] u Q := by
  have he : handle (.reply r) u = ({ u.ended with ulp := { u.ended.ulp with slot := some r } }, [.arbiter]) :=
    placeReply_of_free (s := u.ended) hheld
  refine Ends.le (Ends.step (k := 44) he (by simp) ?_) (by omega)
  exact Ends.upstreams (k := 0) (m := [.arbiter, .serve]) (l := []) (by simp [Signal.isUpstream]) (by simp) (by exact hs)
    fun t ht => Ends.nil (h t ht)

/-- The map and the areas that a stored map leaves, and the blocks that it does not concern. -/
structure Mapped (m : AreaMap) (s t : State) : Prop where
  map : t.fbf.map = m
  hold : t.fbf.hold = if s.fbf.map.hold = m.hold then s.fbf.hold else []
  passdown : t.fbf.passdown = if s.fbf.map.passdown = m.passdown then s.fbf.passdown else []
  par : t.par = s.par
  sib : t.sib = s.sib
  ms : t.ms = s.ms
  dlc : t.dlc = s.dlc

theorem Mapped.upstream {m : AreaMap} {t : State} (h : Mapped m s u) (ht : Upstream u t) : Mapped m s t :=
  ⟨ht.map.trans h.map, ht.hold.trans h.hold, ht.passdown.trans h.passdown, ht.par.trans h.par, ht.sib.trans h.sib,
    ht.ms.trans h.ms, ht.dlc.trans h.dlc⟩

/-- The state that a stored map leaves before anything is handed on. -/
theorem storeMap_mapped (m : AreaMap) (s : State) : Mapped m s (storeMap m s).1 := ⟨rfl, rfl, rfl, rfl, rfl, rfl, rfl⟩

theorem Ends.mapStored {m : AreaMap} {r : Reply} (hs : s.Still) (hheld : s.held = false) :
    Ends 990 ((storeMap m s).2 ++ [.reply r, .serve]) (storeMap m s).1 (Mapped m s) := by
  have hm := storeMap_mapped m s
  have ho := storeMap_only m s (T := [.fbf]) rfl
  have hrest : ∀ v : State, v.Still → v.held = false → Mapped m s v →
      Ends 100 ((if s.fbf.map.report ≠ m.report ∧ s.fbf.report ≠ [] then [.reportRemoved] else []) ++
        (if s.fbf.map.input.len ≠ m.input.len then [.spaceEvent] else []) ++ [.reply r, .serve]) v (Mapped m s) := by
    intro v hv hvh hvm
    refine Ends.le (Ends.upstreams (k := 50) ?_ ?_ hv fun t ht => Ends.replyUpstream (ht.still hv) (ht.held.trans hvh) fun x hx => ?_)
      (by omega)
    · intro g hg
      rcases List.mem_append.mp hg with hg | hg <;> split at hg <;> simp at hg <;> rw [hg] <;> rfl
    · split <;> split <;> simp
    · have hend : Mapped m s { t.ended with ulp := { t.ended.ulp with slot := some r } } :=
        have h := hvm.upstream ht
        ⟨h.map, h.hold, h.passdown, h.par, h.sib, h.ms, h.dlc⟩
      exact hend.upstream hx
  have hsig : (storeMap m s).2 ++ [.reply r, .serve] = (if s.fbf.map.hold ≠ m.hold then [.holdCheck true] else []) ++
      ((if s.fbf.map.report ≠ m.report ∧ s.fbf.report ≠ [] then [.reportRemoved] else []) ++
        (if s.fbf.map.input.len ≠ m.input.len then [.spaceEvent] else []) ++ [.reply r, .serve]) := by
    simp only [storeMap, List.append_assoc]
  rw [hsig]
  have hqueue : (storeMap m s).1.ulp.queue = [] := (congrArg Ulp.queue (ho.ulp rfl)).trans hs.1
  have hsh : (storeMap m s).1.held = false := by rw [State.held, ho.spu rfl]; exact hheld
  by_cases hchange : s.fbf.map.hold = m.hold
  · rw [if_neg (not_not.mpr hchange)]
    refine Ends.le (hrest _ ⟨hqueue, ?_⟩ hsh hm) (by omega)
    rcases hs.2 with h | h
    · exact .inl (by rw [ho.igt rfl]; exact h)
    · exact .inr (by rw [hm.hold, if_pos hchange]; exact h)
  · have hempty : (storeMap m s).1.fbf.hold = [] := hm.hold.trans (if_neg hchange)
    rw [if_pos hchange]
    refine Ends.le (Ends.step (k := 100) (holdCheck_of_empty hempty) (by simp)
      (hrest _ ⟨hqueue, .inr hempty⟩ hsh ⟨hm.map, hm.hold, hm.passdown, hm.par, hm.sib, hm.ms, hm.dlc⟩)) (by omega)

theorem exec_areaMap {ws : List (BitVec 16)} (hr : s.Receptive) (hs : s.Permitted ct .buffer true) (hw : ws.length = 10) :
    ((adjustMap (mapOfWords (ws.map BitVec.toNat))).valid = false →
        exec (.areaMap ct ws) s = .next (s.afterFrame.answered (replyTo ct 19 .range []))) ∧
      ((adjustMap (mapOfWords (ws.map BitVec.toNat))).valid = true → s.dlc.state.mapLocked = true ∨ s.fbf.input ≠ [] →
        exec (.areaMap ct ws) s = .next (s.afterFrame.answered (replyTo ct 19 .state []))) ∧
      ((adjustMap (mapOfWords (ws.map BitVec.toNat))).valid = true → s.dlc.state.mapLocked = false → s.fbf.input = [] →
        s.igt.head = .idle ∨ s.fbf.hold = [] →
        ∃ t, exec (.areaMap ct ws) s = .next t ∧ Mapped (adjustMap (mapOfWords (ws.map BitVec.toNat))) s.running t) := by
  have hspell := spells_areaMap hw
  generalize hasked : mapOfWords (ws.map BitVec.toNat) = asked
  have hrun : ∀ {st fs a}, (if !(adjustMap asked).valid then (.range, [], quiet s.running)
      else if s.dlc.state.mapLocked ∨ s.fbf.input ≠ [] then (.state, [], quiet s.running)
      else if adjustMap asked = asked then (.ok, [], storeMap (adjustMap asked) s.running)
      else (.adjusted, mapFields (adjustMap asked), storeMap (adjustMap asked) s.running) : Status × List Byte × Act) = (st, fs, a) →
      runCommand (channelOf ct == 0) (s.spu.rxSeq + 1) s.ms (19 :: ws.flatMap fun w => num2 w.toNat) s.running =
        ⟨st, fs, a, [], none⟩ := by
    intro st fs a h
    have hcmd : areaMapCommand (ws.map BitVec.toNat) s.running = (st, fs, a) := by rw [areaMapCommand, hasked]; exact h
    rw [runCommand_areaMap, areaMapResult, hcmd]
  refine ⟨fun hv => ?_, fun hv h => ?_, fun hv hlock hin hstill => ?_⟩
  · exact exec_unmoved (c := .areaMap ct ws) rfl hr hs hspell (fun h => nomatch h) (hrun (if_pos (by rw [hv]; rfl)))
  · exact exec_unmoved (c := .areaMap ct ws) rfl hr hs hspell (fun h => nomatch h)
      (hrun ((if_neg (by rw [hv]; exact nofun)).trans (if_pos h)))
  · have hstored : ∃ st fs, runCommand (channelOf ct == 0) (s.spu.rxSeq + 1) s.ms (19 :: ws.flatMap fun w => num2 w.toNat) s.running =
        ⟨st, fs, storeMap (adjustMap asked) s.running, [], none⟩ := by
      have hok : ¬ (s.dlc.state.mapLocked = true ∨ s.fbf.input ≠ []) := by rw [hlock, hin]; simp
      by_cases hm : adjustMap asked = asked
      · exact ⟨_, _, hrun ((if_neg (by rw [hv]; exact nofun)).trans ((if_neg hok).trans (if_pos hm)))⟩
      · exact ⟨_, _, hrun ((if_neg (by rw [hv]; exact nofun)).trans ((if_neg hok).trans (if_neg hm)))⟩
    obtain ⟨st, fs, hstored⟩ := hstored
    exact exec_frame_ends (c := .areaMap ct ws) rfl (State.Receptive.prompt hr) hspell.short
      ((commandResult_of_permitted hspell (fun h => nomatch h) hs).trans hstored)
      (Ends.mapStored (s := s.running) ⟨(State.Receptive.prompt hr).vacant.2.1, hstill⟩ hr.2.1)

/-! ### AREA_CLEAR -/

theorem exec_areaClear {v : Byte} {a : Act} {F : State → State} (hr : s.Receptive) (hs : s.Permitted ct .buffer true)
    (hrun : areaClearCommand v.toNat s.running = (.ok, a))
    (h : ∀ l Q, Ends 5 l (F s.running) Q → Ends 10 (a.2 ++ l) a.1 Q)
    (hulp : (F s.running).ulp = s.running.ulp) (hended : (F s.running).ended = F s.running.ended)
    (hspu : (F s.running).spu = s.running.spu) :
    exec (.areaClear ct v) s = .next ((F s.afterFrame).answered (replyTo ct 20 .ok [])) :=
  exec_handed (i := .areaClear ct v) F rfl hr hs (spells_two rfl rfl (by decide) (by decide)) (fun h => nomatch h)
    ((congrArg plainResult hrun :)) h hulp hended hspu

theorem areaClear_plain (hr : s.Receptive) (hs : s.Permitted ct .buffer true) (hc : s.Calm) (hlost : s.ulp.lost = 0)
    (hbusy : s.ulp.lineFree = false) :
    exec (.areaClear ct 3) s =
        .next (State.answered { s.afterFrame with fbf := { s.fbf with passdown := [] } } (replyTo ct 20 .ok [])) ∧
      exec (.areaClear ct 4) s =
        .next (State.answered { s.afterFrame with fbf := { s.fbf with mirror := [] } } (replyTo ct 20 .ok [])) ∧
      exec (.areaClear ct 0) s =
        .next
          (State.answered { s.afterFrame with fbf := { s.fbf with input := s.fbf.input.filter Stored.isRelease } }
            (replyTo ct 20 .ok [])) ∧
      exec (.areaClear ct 2) s =
        .next (State.answered { s.afterFrame with fbf := { s.fbf with report := [] } } (replyTo ct 20 .ok [])) := by
  refine ⟨?_, ?_, ?_, ?_⟩
  · exact exec_areaClear (v := 3) (F := fun x => { x with fbf := { x.fbf with passdown := [] } }) hr hs rfl
      (fun l Q h => Ends.le h (by omega)) rfl rfl rfl
  · exact exec_areaClear (v := 4) (F := fun x => { x with fbf := { x.fbf with mirror := [] } }) hr hs rfl
      (fun l Q h => Ends.le h (by omega)) rfl rfl rfl
  · refine exec_areaClear (v := 0) (F := fun x => { x with fbf := { x.fbf with input := x.fbf.input.filter Stored.isRelease } }) hr hs rfl
      (fun l Q h => ?_) rfl rfl rfl
    exact Ends.le (Ends.step (k := 6) (spaceEvent_of_calm (by exact ⟨(State.Receptive.prompt hr).vacant.2.1, hc.2⟩)) (by simp)
      (Ends.arbiter_busy (k := 5) hbusy h)) (by omega)
  · refine exec_areaClear (v := 2) (F := fun x => { x with fbf := { x.fbf with report := [] } }) hr hs rfl (fun l Q h => ?_) rfl rfl rfl
    by_cases hrep : s.fbf.report = []
    · refine Ends.le ?_ (show 5 ≤ 10 by omega)
      simp only [clearArea, show s.running.fbf.report = [] from hrep, if_true]
      exact h
    · refine Ends.le ?_ (show 6 ≤ 10 by omega)
      simp only [clearArea, show s.running.fbf.report ≠ [] from hrep, if_false]
      exact Ends.skip (k := 5) (offerOverflow_of_none (.inl hlost)) (by simp) h

theorem areaClear_hold (hr : s.Receptive) (hs : s.Permitted ct .buffer true) (hc : s.Calm) (hbusy : s.ulp.lineFree = false) :
    ((∀ f ∈ s.fbf.hold, (f.loneRelease && f.decided) = false) →
        exec (.areaClear ct 1) s =
          .next
            (State.answered
              { s.afterFrame with
                fbf := { s.fbf with hold := [] }
                igt := { s.igt with displaced := false, expired := false } }
              (replyTo ct 20 .ok []))) ∧
      (∀ f c stamp, s.fbf.hold = [f, ⟨.release c false, true, stamp⟩] → (f.loneRelease && f.decided) = false →
        (6 ≤ s.fbf.inputFree → s.igt.keys.contains c = true →
          exec (.areaClear ct 1) s =
            .next
              (State.answered
                { s.afterFrame with
                  fbf := { s.fbf with hold := [], input := s.fbf.input ++ [⟨.key, [byte c, 1]⟩] }
                  igt :=
                    { s.igt with
                      displaced := false, expired := false, keys := s.igt.keys.erase c, idle := 0, idleLeft := 1000 } }
                (replyTo ct 20 .ok []))) ∧
          (s.fbf.inputFree < 6 →
            exec (.areaClear ct 1) s =
              .next
                (State.answered
                  { s.afterFrame with
                    fbf := { s.fbf with hold := [⟨.release c false, true, stamp⟩] }
                    igt := { s.igt with head := .drainPaused } }
                  (replyTo ct 20 .ok [])))) := by
  obtain ⟨-, hi, hp, hpend⟩ := hc
  refine ⟨fun hk => ?_, fun f c stamp hh hf => ?_⟩
  · refine exec_areaClear (v := 1) (F := State.holdEnded) hr hs rfl (fun l Q h => Ends.flushesAll hk ?_) rfl rfl rfl
    have hsame : s.running.emptied = s.running.holdEnded := by
      rw [State.emptied, ← hi]
      rfl
    exact hsame ▸ h
  · have hl : s.fbf.hold.filter (fun f => f.loneRelease && f.decided) = [⟨.release c false, true, stamp⟩] := by
      rw [hh, List.filter_cons_of_neg (by rw [hf]; exact nofun)]
      rfl
    refine ⟨fun hfree hkey => ?_, fun hfree => ?_⟩
    · exact exec_areaClear (v := 1) (F := fun x => (x.releasedKey c).holdEnded) hr hs rfl
        (fun l Q h => Ends.flushesReleases hl rfl hi hp hpend hfree rfl hbusy rfl hkey h) rfl rfl rfl
    · exact exec_areaClear (v := 1)
        (F := fun x => { x.setHold [⟨.release c false, true, stamp⟩] with igt := { s.igt with head := .drainPaused } }) hr hs rfl
        (fun l Q h => Ends.flushesWaits hl rfl hi hp (.inr hfree) h) rfl rfl rfl

theorem areaClear_range {v : Byte} (hr : s.Receptive) (hs : s.Permitted ct .buffer true) (hv : 4 < v.toNat) :
    exec (.areaClear ct v) s = .next (s.afterFrame.answered (replyTo ct 20 .range [])) := by
  refine exec_unmoved (c := .areaClear ct v) rfl hr hs (spells_two rfl rfl (by decide) (by decide)) (fun h => nomatch h) ?_
  change plainResult (areaClearCommand v.toNat s.running) = _
  have hnone : areaOf v.toNat = none := by
    unfold areaOf
    split
    case h_6 => rfl
    all_goals omega
  rw [areaClearCommand, hnone]
  rfl

end

/-- Settles O59: a stored map hands on the traffic of the line only; a discard of the Hold area is the GATE_FLUSH of other frames. -/
theorem areaMapAndAreaClear : Obligations.AreaMapAndAreaClear := by
  refine ⟨fun ct ws s hr hs hw => ?_, fun ct v s hr hs hc hlost hbusy => ?_⟩
  · obtain ⟨h1, h2, h3⟩ := exec_areaMap hr hs hw
    refine ⟨h1, h2, fun hv hlock hin _ hstill => ?_⟩
    obtain ⟨t, ht, hm⟩ := h3 hv hlock hin hstill
    refine ⟨t, ht, hm.map, fun h => ?_, fun h => ?_, fun h => ?_, hm.par, hm.sib, hm.ms, hm.dlc⟩
    · rw [hm.map] at h
      exact hm.hold.trans (if_neg fun e => h e.symm)
    · rw [hm.map] at h
      exact hm.passdown.trans (if_neg fun e => h e.symm)
    · rw [hm.map] at h
      exact hm.passdown.trans (if_pos h.symm)
  · obtain ⟨h3, h4, h0, h2⟩ := areaClear_plain hr hs hc hlost hbusy
    obtain ⟨h1, h1'⟩ := areaClear_hold hr hs hc hbusy
    exact ⟨h3, h4, h0, h2, h1, h1', fun hv => areaClear_range hr hs hv⟩

end Sys2Proof.Machine
end

section
/-! PROOFS. KEY and POINT frames at the gate (O32). -/

namespace Sys2Proof.Machine
open Sys2Proof

section
variable {s u t : State} {a : Answer} {b : HoldBody} {e : GateEntry} {i k : Nat} {l : List Signal} {Q : State → Prop}

/-! ### A frame reaches the gate -/

theorem delivers_cases {d : DockState} (h : d.delivers = true) : d = .active ∨ d = .quiesced ∨ d = .waking := by
  cases d <;> simp_all [DockState.delivers]

/-- A KEY or POINT frame. -/
theorem isInput_cases (h : a.isInput = true) : (∃ c up, a = .key c up) ∨ ∃ p, a = .point p := by
  cases a <;> simp_all [Answer.isInput]

/-- A delivering dock hands a KEY or POINT frame to the gate, and the slot is closed. -/
theorem closeSlot_input {f : DockFrame} {o : Outcome} (hdel : s.dlc.state.delivers = true) (hslot : s.dlc.slot = some f)
    (hf : s.dlc.state = .active → f.head ≠ headQuiesce) (ha : a.isInput = true) :
    closeSlot gateArrival (some a) o s = (gateArrival a s.answerTaken).andThen (emit [.openDue]) := by
  have hroute : ∀ u : State, u.dlc.state.delivers = true → routeAnswer gateArrival a u = gateArrival a u := by
    intro u hu
    obtain ⟨c, up, rfl⟩ | ⟨p, rfl⟩ := isInput_cases ha <;> exact if_pos hu
  have hpoll : ∀ u : State, u.dlc.state.delivers = true → pollClose gateArrival (some a) u =
      (gateArrival a { u with dlc := { u.dlc with missed := 0 } }).andThen (emit [.openDue]) := by
    intro u hu
    rw [← hroute { u with dlc := { u.dlc with missed := 0 } } hu]
    obtain ⟨c, up, rfl⟩ | ⟨p, rfl⟩ := isInput_cases ha <;> rfl
  have hrun : ∀ u : State, u.dlc.state.delivers = true → runClose gateArrival (some a) u = (gateArrival a u).andThen (emit [.openDue]) := by
    intro u hu
    rw [← hroute u hu]
    obtain ⟨c, up, rfl⟩ | ⟨p, rfl⟩ := isInput_cases ha <;> rfl
  have htaken : s.dlc.state ≠ .waking → s.answerTaken = { s.slotClosed with dlc := { s.slotClosed.dlc with missed := 0 } } := by
    intro hw
    rw [State.answerTaken, if_neg hw]
    rfl
  obtain hst | hst | hst := delivers_cases hdel
  · rw [closeSlot_poll hslot (.inl ⟨hst, hf hst⟩), hpoll s.slotClosed hdel, htaken (by rw [hst]; nofun)]
  · rw [closeSlot_poll hslot (.inr hst), hpoll s.slotClosed hdel, htaken (by rw [hst]; nofun)]
  · rw [closeSlot_run hslot (.inr hst), hrun s.slotClosed hdel, State.answerTaken, if_pos hst]
    rfl

/-- A delivering dock with a slot open that a VALID answer closes, the next slot not due. -/
structure Delivers (s : State) : Prop where
  state : s.dlc.state.delivers = true
  slot : ∃ f, s.dlc.slot = some f ∧ (s.dlc.state = .active → f.head ≠ headQuiesce)
  timer : s.dlc.slotTimer ≠ some 0

theorem Delivers.notDue (h : Delivers s) : s.answerTaken.dlc.NotDue :=
  notDue_of_slotTimer (fun hs => by
    have := h.state
    rw [show s.dlc.state = .identifying from hs] at this
    exact nomatch this) h.timer

theorem exec_input {bytes : List Byte} (h : Delivers s) (hp : parseAnswer bytes = some a) (ha : a.isInput = true) :
    exec (.dockAnswer bytes) s = finish ((gateArrival a s.answerTaken).andThen (emit [.openDue])) := by
  obtain ⟨f, hslot, hf⟩ := h.slot
  rw [exec_answer hp, closeSlot_input h.state hslot hf ha]

/-- The gate's part of an answer that leaves the dock's record. -/
theorem exec_arrival {bytes : List Byte} (h : Delivers s) (hp : parseAnswer bytes = some a) (ha : a.isInput = true)
    (ht : t.dlc = s.answerTaken.dlc)
    (hg : ∀ Q, Ends 5 [.openDue] t Q → Ends 990 ((gateArrival a s.answerTaken).2 ++ [.openDue]) (gateArrival a s.answerTaken).1 Q) :
    exec (.dockAnswer bytes) s = .next t := by
  rw [exec_input h hp ha]
  refine finish_of_settle (Ends.settle_eq (Ends.le (hg _ ?_) (by omega)))
  exact Ends.skip (k := 4) (openDue_of_notDue (by rw [ht]; exact h.notDue)) (by simp) (Ends.nil rfl)

/-! ### Judgement -/

theorem judge_matched (hdir : u.gateDir.present = true) (hf : findEntry b u.igt.entries u.gateDir.first u.gateDir.count = some i)
    (he : u.igt.entries[i]? = some e) : judge b u =
      (e.action, (u.matched i e, if e.note then [gateNoteReport u.pcl.code i b.cls b.key] else [])) := by
  have hget : u.igt.entries.getD i defaultEntry = e := by rw [List.getD_eq_getElem?_getD, he]; rfl
  simp only [judge, hdir, hf, hget, if_true]
  rfl

theorem judge_unmatched (hdir : u.gateDir.present = true) (hf : findEntry b u.igt.entries u.gateDir.first u.gateDir.count = none) :
    judge b u = (u.gateDir.action, quiet u) := by
  simp only [judge, hdir, hf, if_true]

theorem judge_absent (hdir : u.gateDir.present = false) (hm : u.igt.missing = true) : judge b u = (.hold, quiet u) := by
  simp [judge, hdir, hm]

theorem judge_missing (hdir : u.gateDir.present = false) (hm : u.igt.missing = false) :
    judge b u = (.hold, { u with igt := { u.igt with missing := true } }, [gateMissingReport u.pcl.code]) := by
  simp [judge, hdir, hm]

/-- A judged frame that wakes no host is routed at once. -/
theorem judgeArrival_routed {c : GateAction} {j : Act} (hj : judge b u = (c, j)) (hc : c ≠ .wake) :
    judgeArrival b u = j.andThen (routeJudged c b) := by
  rw [judgeArrival, hj]
  cases c <;> first | rfl | exact (hc rfl).elim

theorem judgeArrival_wake {j : Act} (hj : judge b u = (.wake, j)) :
    judgeArrival b u = j.andThen (emit [.wakeRequest .key, .gateRoute b]) := by rw [judgeArrival, hj]

/-- A frame that goes to judgement. -/
theorem gateArrival_judged (hb : u.judgedBody a = some b) (hh : u.fbf.hold = []) :
    gateArrival a u = judgeArrival b u ∧ a.isInput = true ∧ u.Admits b ∧ (∀ c q, b ≠ .release c q) := by
  cases a with
  | key c up =>
    cases up with
    | true => exact nomatch hb
    | false =>
      change (if _ then _ else _) = some b at hb
      split_ifs at hb with hfull
      obtain rfl := Option.some.inj hb
      have hkey : ¬ u.igt.keys.contains c = true := fun h => hfull (.inl h)
      have hlen : ¬ 16 ≤ u.igt.keys.length := fun h => hfull (.inr h)
      refine ⟨?_, rfl, fun c' hc => ?_, nofun⟩
      · change pressArrival c u = _
        rw [pressArrival, hh]
        exact (if_neg (by rintro (h | h) <;> [exact hkey h; exact nomatch h])).trans (if_neg hlen)
      · cases hc
        exact ⟨Bool.eq_false_iff.mpr hkey, by omega⟩
  | point p =>
    obtain rfl := Option.some.inj hb
    exact ⟨rfl, rfl, nofun, nofun⟩
  | ident _ | tilt _ _ _ | stat _ _ | nil => exact nomatch hb

/-! ### Routes -/

/-- What a frame needs that reaches a gate with nothing held or pending, while the line is busy. -/
structure Routable (b : HoldBody) (u : State) : Prop where
  hold : u.fbf.hold = []
  pend : u.igt.pend = []
  busy : u.ulp.lineFree = false
  admits : u.Admits b
  judged : ∀ c q, b ≠ .release c q

/-- The Input area takes the frame, or is too full. -/
theorem Ends.offered (h : Routable b u) (hdir : u.gateDir.present = true)
    (hQ : Ends k l (if b.payload.length + 4 ≤ u.fbf.inputFree then u.entered b else u) Q) :
    Ends (k + 1) ((toInput b u).2 ++ l) (toInput b u).1 Q := by
  by_cases hfit : b.payload.length + 4 ≤ u.fbf.inputFree
  · have hto : toInput b u = (u.entered b, [.arbiter]) := by
      rw [toInput, if_pos h.hold, admission_of_fits hdir h.admits h.pend hfit, ← enterInput_eq_entered h.judged]
    rw [hto]
    rw [if_pos hfit] at hQ
    exact Ends.arbiter_busy h.busy hQ
  · have hto : toInput b u = quiet u := by
      rw [toInput, if_pos h.hold, admission_of_present hdir h.admits h.pend, if_pos (by omega)]
    rw [hto]
    rw [if_neg hfit] at hQ
    exact Ends.le hQ (by omega)

/-- An empty Hold area takes the frame undecided. -/
theorem routeJudged_hold (hh : u.fbf.hold = []) (hlen : b.payload.length + 4 ≤ u.fbf.map.hold.len) (hb : ∀ c q, b ≠ .release c q) :
    routeJudged .hold b u = (u.setHold [⟨b, false, u.ms⟩], [.holdCheck true]) := by
  have hstored : decide (HoldFrame.size ⟨b, false, u.ms⟩ ≤ u.fbf.map.hold.len - holdOccupancy []) = true :=
    decide_eq_true (show b.payload.length + 4 ≤ u.fbf.map.hold.len - 0 by omega)
  have happ : appendHold b false u = (u.setHold [⟨b, false, u.ms⟩], [.holdCheck true]) := by
    cases b with
    | release c q => exact (hb c q rfl).elim
    | press c => simp only [appendHold, hh, List.length_nil, displaceHold, hstored]; rfl
    | point bs => simp only [appendHold, hh, List.length_nil, displaceHold, hstored]; rfl
  exact (if_neg (show u.fbf.map.hold.len ≠ 0 by omega)).trans happ

/-- An undecided frame of this millisecond is not due for its age. -/
theorem holdCheck_of_young {c : Bool} {rest : List HoldFrame} (hh : u.fbf.hold = ⟨b, false, u.ms⟩ :: rest) (hg : 0 < u.par.gateHold) :
    holdCheck c u = quiet u := by
  rw [holdCheck, hh]
  refine (if_neg Bool.false_ne_true).trans (if_neg ?_)
  rintro ⟨h, -⟩
  rw [since_self] at h
  omega

theorem Ends.holds (hh : u.fbf.hold = []) (hlen : b.payload.length + 4 ≤ u.fbf.map.hold.len) (hg : 0 < u.par.gateHold)
    (hb : ∀ c q, b ≠ .release c q) (hQ : Ends k l (u.setHold [⟨b, false, u.ms⟩]) Q) :
    Ends (k + 1) ((routeJudged .hold b u).2 ++ l) (routeJudged .hold b u).1 Q := by
  rw [routeJudged_hold hh hlen hb]
  exact Ends.skip (k := k) (holdCheck_of_young (c := true) (u := u.setHold [⟨b, false, u.ms⟩]) rfl hg) (by simp) hQ

/-- The frame of a WAKE is routed after its wake request. -/
theorem Ends.gateRouted (hdel : u.dlc.state.delivers = true) (h : Routable b u) (hdir : u.gateDir.present = true)
    (hfit : b.payload.length + 4 ≤ u.fbf.inputFree) (hQ : Ends k l (u.entered b) Q) : Ends (k + 2) (.gateRoute b :: l) u Q := by
  refine Ends.cons (k := k + 1) (by simp) ?_
  have he : handle (.gateRoute b) u = toInput b u := if_pos hdel
  rw [he]
  exact Ends.offered h hdir (by rw [if_pos hfit]; exact hQ)

/-! ### Judged frames -/

theorem composeReport_of_disabled {r : ReportKind} {f : List Byte} (h : reportEnabled u.ulp.mask r = false) :
    composeReport r f u = quiet u := if_neg (by rw [h]; exact Bool.false_ne_true)

/-- A judged frame at a gate with nothing held or pending. -/
structure Judged (s : State) (a : Answer) (b : HoldBody) : Prop where
  delivers : Delivers s
  body : s.judgedBody a = some b
  hold : s.fbf.hold = []
  pend : s.igt.pend = []
  busy : s.ulp.lineFree = false

theorem Judged.arrival (h : Judged s a b) : gateArrival a s.answerTaken = judgeArrival b s.answerTaken :=
  (gateArrival_judged (u := s.answerTaken) h.body h.hold).1

theorem Judged.isInput (h : Judged s a b) : a.isInput = true := (gateArrival_judged h.body h.hold).2.1

theorem Judged.routable (h : Judged s a b) (hu : u.fbf = s.fbf) (hi : u.igt.keys = s.igt.keys) (hp : u.igt.pend = s.igt.pend)
    (hb : u.ulp.lineFree = s.ulp.lineFree) : Routable b u := by
  obtain ⟨-, -, hadm, hjudged⟩ := gateArrival_judged h.body h.hold
  exact ⟨by rw [hu]; exact h.hold, hp.trans h.pend, hb.trans h.busy, fun c hc => by rw [hi]; exact hadm c hc, hjudged⟩

variable {bytes : List Byte}

/-- A judgement that wakes no host: the judgement's reports, then the route. -/
theorem exec_judged {c : GateAction} {sig : List Signal} (h : Judged s a b) (hp : parseAnswer bytes = some a)
    (hj : judge b s.answerTaken = (c, (u, sig))) (hc : c ≠ .wake) (ht : t.dlc = s.answerTaken.dlc)
    (hg : ∀ Q, Ends 5 [.openDue] t Q → Ends 990 (sig ++ (routeJudged c b u).2 ++ [.openDue]) (routeJudged c b u).1 Q) :
    exec (.dockAnswer bytes) s = .next t := by
  refine exec_arrival h.delivers hp h.isInput ht fun Q hQ => ?_
  rw [h.arrival, judgeArrival_routed hj hc]
  exact hg Q hQ

/-- The frame of a matching entry whose note is clear, by the entry's action. -/
theorem exec_matched (h : Judged s a b) (hp : parseAnswer bytes = some a) (hdir : s.gateDir.present = true)
    (hf : findEntry b s.igt.entries s.gateDir.first s.gateDir.count = some k) (he : s.igt.entries[k]? = some e) (hn : e.note = false) :
    (e.action = .drop → exec (.dockAnswer bytes) s = .next (s.answerTaken.matched k e)) ∧
      (e.action = .pass →
        exec (.dockAnswer bytes) s =
          .next
            (if b.payload.length + 4 ≤ s.fbf.inputFree then (s.answerTaken.matched k e).entered b
            else s.answerTaken.matched k e)) ∧
      (e.action = .hold → b.payload.length + 4 ≤ s.fbf.map.hold.len → 0 < s.par.gateHold →
        exec (.dockAnswer bytes) s = .next ((s.answerTaken.matched k e).setHold [⟨b, false, s.ms⟩])) := by
  have hj : ∀ {c}, e.action = c → judge b s.answerTaken = (c, (s.answerTaken.matched k e, [])) := by
    rintro c rfl
    have := judge_matched (u := s.answerTaken) hdir hf he
    rwa [hn] at this
  have hroute : Routable b (s.answerTaken.matched k e) := h.routable rfl rfl rfl rfl
  refine ⟨fun ha => ?_, fun ha => ?_, fun ha hlen hgate => ?_⟩
  · exact exec_judged (c := .drop) h hp (hj ha) nofun rfl fun Q hQ => Ends.le (k := 990) hQ (by omega)
  · refine exec_judged (c := .pass) h hp (hj ha) nofun (by split <;> rfl) fun Q hQ => ?_
    exact Ends.le (Ends.offered (k := 5) hroute hdir hQ) (by omega)
  · exact exec_judged (c := .hold) h hp (hj ha) nofun rfl fun Q hQ => Ends.le (k := 990) (Ends.holds (k := 5) hroute.hold hlen hgate hroute.judged hQ) (by omega)

/-- The frame that no entry matches, by the directory's action. -/
theorem exec_unmatched (h : Judged s a b) (hp : parseAnswer bytes = some a) (hdir : s.gateDir.present = true)
    (hf : findEntry b s.igt.entries s.gateDir.first s.gateDir.count = none) :
    (s.gateDir.action = .drop → exec (.dockAnswer bytes) s = .next s.answerTaken) ∧
      (s.gateDir.action = .pass →
        exec (.dockAnswer bytes) s =
          .next (if b.payload.length + 4 ≤ s.fbf.inputFree then s.answerTaken.entered b else s.answerTaken)) ∧
      (s.gateDir.action = .hold → b.payload.length + 4 ≤ s.fbf.map.hold.len → 0 < s.par.gateHold →
        exec (.dockAnswer bytes) s = .next (s.answerTaken.setHold [⟨b, false, s.ms⟩])) := by
  have hj : ∀ {c}, s.gateDir.action = c → judge b s.answerTaken = (c, (s.answerTaken, [])) := by
    rintro c rfl
    exact judge_unmatched (u := s.answerTaken) hdir hf
  have hroute : Routable b s.answerTaken := h.routable rfl rfl rfl rfl
  refine ⟨fun ha => ?_, fun ha => ?_, fun ha hlen hgate => ?_⟩
  · exact exec_judged (c := .drop) h hp (hj ha) nofun rfl fun Q hQ => Ends.le (k := 990) hQ (by omega)
  · refine exec_judged (c := .pass) h hp (hj ha) nofun (by split <;> rfl) fun Q hQ => ?_
    exact Ends.le (Ends.offered (k := 5) hroute hdir hQ) (by omega)
  · exact exec_judged (c := .hold) h hp (hj ha) nofun rfl fun Q hQ => Ends.le (k := 990) (Ends.holds (k := 5) hroute.hold hlen hgate hroute.judged hQ) (by omega)

/-- Without a directory entry the frame is held, with one GATE_MISSING report. -/
theorem exec_absent (h : Judged s a b) (hp : parseAnswer bytes = some a) (hdir : s.gateDir.present = false)
    (hlen : b.payload.length + 4 ≤ s.fbf.map.hold.len) (hgate : 0 < s.par.gateHold) :
    (s.igt.missing = true → exec (.dockAnswer bytes) s = .next (s.answerTaken.setHold [⟨b, false, s.ms⟩])) ∧
      (s.igt.missing = false → reportEnabled s.ulp.mask .gateMissing = true → s.ulp.lost = 0 → 10 ≤ s.fbf.reportFree →
        exec (.dockAnswer bytes) s =
          .next
            (({ s.answerTaken with igt := { s.igt with missing := true } }.setHold [⟨b, false, s.ms⟩]).withReport
              (reportPayload .gateMissing s.ms [byte s.pcl.code]))) := by
  have hjudged := (gateArrival_judged h.body h.hold).2.2.2
  refine ⟨fun hm => ?_, fun hm hen hlost hfree => ?_⟩
  · exact exec_judged (c := .hold) h hp (judge_absent (u := s.answerTaken) hdir hm) nofun rfl fun Q hQ =>
      Ends.le (Ends.holds (k := 5) (u := s.answerTaken) h.hold hlen hgate hjudged hQ) (by omega)
  · refine exec_judged (c := .hold) h hp (judge_missing (u := s.answerTaken) hdir hm) nofun rfl fun Q hQ => ?_
    rw [routeJudged_hold (u := { s.answerTaken with igt := { s.answerTaken.igt with missing := true } }) h.hold hlen hjudged]
    have hyoung : ∀ x, holdCheck true (({ s.answerTaken with igt := { s.igt with missing := true } }.setHold [⟨b, false, s.ms⟩] : State).withReport x) =
        quiet (({ s.answerTaken with igt := { s.igt with missing := true } }.setHold [⟨b, false, s.ms⟩] : State).withReport x) :=
      fun x => holdCheck_of_young (c := true) (b := b) (rest := []) rfl hgate
    refine Ends.le (Ends.reportStored (k := 6) hen hlost hfree h.busy ?_) (show 8 ≤ 990 by omega)
    exact Ends.skip (k := 5) (hyoung _) (by simp) hQ

/-- The note of a DROP entry. -/
theorem exec_noted (h : Judged s a b) (hp : parseAnswer bytes = some a) (hdir : s.gateDir.present = true)
    (hf : findEntry b s.igt.entries s.gateDir.first s.gateDir.count = some k) (he : s.igt.entries[k]? = some e) (hn : e.note = true)
    (ha : e.action = .drop) :
    (reportEnabled s.ulp.mask .gateNote = false →
        exec (.dockAnswer bytes) s = .next (s.answerTaken.matched k e)) ∧
      (reportEnabled s.ulp.mask .gateNote = true → s.ulp.lost = 0 → 14 ≤ s.fbf.reportFree →
        exec (.dockAnswer bytes) s =
          .next
            ((s.answerTaken.matched k e).withReport
              (reportPayload .gateNote s.ms
                ([byte s.pcl.code, byte k, byte b.cls.code] ++ (match b.key with | some c => [1, byte c] | none => [0]))))) := by
  have hj : judge b s.answerTaken = (.drop, (s.answerTaken.matched k e, [gateNoteReport s.pcl.code k b.cls b.key])) := by
    have := judge_matched (u := s.answerTaken) hdir hf he
    rwa [hn, ha] at this
  refine ⟨fun hen => ?_, fun hen hlost hfree => ?_⟩
  · refine exec_judged (c := .drop) h hp hj nofun rfl fun Q hQ => ?_
    exact Ends.le (Ends.skip (k := 5) (composeReport_of_disabled (by exact hen)) (by simp [gateNoteReport]) hQ) (by omega)
  · have hlength : (num1 s.pcl.code ++ num1 k ++ num1 b.cls.code ++ optField num1 b.key).length ≤ 5 := by
      cases b <;> simp [num1, optField, HoldBody.key]
    have hfields : num1 s.pcl.code ++ num1 k ++ num1 b.cls.code ++ optField num1 b.key =
        [byte s.pcl.code, byte k, byte b.cls.code] ++ (match b.key with | some c => [1, byte c] | none => [0]) := by
      cases b <;> rfl
    rw [← hfields]
    refine exec_judged (c := .drop) h hp hj nofun rfl fun Q hQ => ?_
    exact Ends.le (Ends.reportStored (k := 5) hen hlost (by exact (Nat.add_le_add_right hlength 9).trans hfree) h.busy hQ) (by omega)

/-- A duplicate press and a press beyond the sixteenth key. -/
theorem exec_unjudged {code : Nat} (h : Delivers s) (hp : parseAnswer bytes = some (.key code false)) (hbusy : s.ulp.lineFree = false)
    (hh : s.fbf.hold = []) :
    (s.igt.keys.contains code = true → exec (.dockAnswer bytes) s = .next s.answerTaken) ∧
      (s.igt.keys.contains code = false → 16 ≤ s.igt.keys.length → reportEnabled s.ulp.mask .rollover = true →
        s.ulp.lost = 0 → 11 ≤ s.fbf.reportFree →
        exec (.dockAnswer bytes) s =
          .next (s.answerTaken.withReport (reportPayload .rollover s.ms [byte code, byte s.pcl.code]))) := by
  refine ⟨fun hk => ?_, fun hk hlen hen hlost hfree => ?_⟩
  · have he : gateArrival (.key code false) s.answerTaken = quiet s.answerTaken := if_pos (.inl hk)
    refine exec_arrival h hp rfl rfl fun Q hQ => ?_
    rw [he]
    exact Ends.le hQ (show 5 ≤ 990 by omega)
  · have he : gateArrival (.key code false) s.answerTaken = (s.answerTaken, [rolloverReport code s.pcl.code]) := by
      change pressArrival code s.answerTaken = _
      rw [pressArrival, show s.answerTaken.fbf.hold = [] from hh]
      refine (if_neg ?_).trans (if_pos hlen)
      rintro (h' | h')
      · exact nomatch hk.symm.trans h'
      · exact nomatch h'
    refine exec_arrival h hp rfl rfl fun Q hQ => ?_
    rw [he]
    exact Ends.le (Ends.reportStored (k := 5) hen hlost hfree hbusy hQ) (show 7 ≤ 990 by omega)

/-! ### A WAKE -/

/-- A wake request that has no effect on the host. -/
theorem wakeRequest_quiet {src : WakeSource} (hc : s.spu.cutStage = .none) (hh : s.spu.host = .running ∨ s.spu.host = .waking) :
    wakeRequest src s = quiet s := by
  rw [wakeRequest, if_neg (by rw [hc]; simp)]
  rcases hh with hh | hh <;> rw [hh]

theorem exec_wake {sig : List Signal} (h : Judged s a b) (hp : parseAnswer bytes = some a) (hj : judge b s.answerTaken = (.wake, (u, sig))) :
    exec (.dockAnswer bytes) s = finish (u, sig ++ [.wakeRequest .key, .gateRoute b] ++ [.openDue]) := by
  rw [exec_input h.delivers hp h.isInput, h.arrival, judgeArrival_wake hj]
  rfl

/-- Where the request hands nothing on, the frame is routed on what it leaves. -/
theorem exec_wakes (h : Judged s a b) (hp : parseAnswer bytes = some a) (hdir : s.gateDir.present = true)
    (hf : findEntry b s.igt.entries s.gateDir.first s.gateDir.count = some k) (he : s.igt.entries[k]? = some e) (hn : e.note = false)
    (ha : e.action = .wake) (hfit : b.payload.length + 4 ≤ s.fbf.inputFree) :
    (s.spu.cutStage = .none → s.spu.host = .running ∨ s.spu.host = .waking →
        exec (.dockAnswer bytes) s = .next ((s.answerTaken.matched k e).entered b)) ∧
      (s.spu.cutStage ≠ .none →
        exec (.dockAnswer bytes) s =
          .next { (s.answerTaken.matched k e).entered b with spu := { s.spu with pendingWake := some .key } }) := by
  have hj : judge b s.answerTaken = (.wake, (s.answerTaken.matched k e, [])) := by
    have := judge_matched (u := s.answerTaken) hdir hf he
    rwa [hn, ha] at this
  rw [exec_wake h hp hj]
  have hend : ∀ t : State, t.dlc = s.answerTaken.dlc → ∀ Q : State → Prop, Q t → Ends 1 [.openDue] t Q := fun t ht Q hQ =>
    Ends.skip (k := 0) (openDue_of_notDue (by rw [ht]; exact h.delivers.notDue)) (by simp) (Ends.nil hQ)
  refine ⟨fun hc hh => finish_of_settle (Ends.settle_eq ?_), fun hc => finish_of_settle (Ends.settle_eq ?_)⟩
  · refine Ends.le (Ends.skip (k := 3) (wakeRequest_quiet hc hh) (by simp) ?_) (by omega)
    exact Ends.gateRouted (k := 1) h.delivers.state (h.routable rfl rfl rfl rfl) hdir hfit
      (hend ((s.answerTaken.matched k e).entered b) rfl _ rfl)
  · refine Ends.le (Ends.step (k := 3) (if_pos hc) (by simp) ?_) (by omega)
    exact Ends.gateRouted (k := 1) h.delivers.state (h.routable rfl rfl rfl rfl) hdir hfit
      (hend { (s.answerTaken.matched k e).entered b with spu := { s.spu with pendingWake := some .key } } rfl _ rfl)

/-! ### A WAKE that moves the host

On a busy line the change of host state hands on nothing that meets the gate. -/

/-- `t` is `s` after reports and a change of the upstream hold on a busy line. -/
structure Carried (s t : State) : Prop where
  only : Only [.fbf, .psc, .ulp] s t
  hold : t.fbf.hold = s.fbf.hold
  input : t.fbf.input = s.fbf.input
  map : t.fbf.map = s.fbf.map
  lineFree : s.ulp.lineFree = false → t.ulp.lineFree = false
  queue : t.ulp.queue = s.ulp.queue
  power : t.psc.power = s.psc.power

theorem Carried.trans {v : State} (h : Carried s t) (h' : Carried t v) : Carried s v :=
  ⟨h.only.trans h'.only, h'.hold.trans h.hold, h'.input.trans h.input, h'.map.trans h.map, fun hb => h'.lineFree (h.lineFree hb),
    h'.queue.trans h.queue, h'.power.trans h.power⟩

theorem Ends.reportCarried {r : ReportKind} {f : List Byte} (hr : r ≠ .forceCut) (hb : u.ulp.lineFree = false)
    (h : ∀ t, Carried u t → Ends k l t Q) : Ends (k + 3) (.report r f :: l) u Q := by
  obtain ⟨hq, hl⟩ := composeReport_quietly hr f u
  have ho : Only [.fbf, .ulp] u (composeReport r f u).1 := composeReport_only r f u rfl
  have hc : Carried u (composeReport r f u).1 :=
    ⟨ho.mono rfl, hq.hold, hq.input, hq.map, hq.lineFree.trans, hq.queue, by rw [ho.psc rfl]⟩
  have hbusy : (composeReport r f u).1.ulp.lineFree = false := hq.lineFree.trans hb
  have he : ∀ {new}, (composeReport r f u).2 = new → handle (.report r f) u = ((composeReport r f u).1, new) := fun hl =>
    Prod.ext (Eq.refl (composeReport r f u).1) hl
  rcases hl with hl | hl | hl
  · exact Ends.le (Ends.step (he hl) (by simp) (h _ hc)) (by omega)
  · exact Ends.le (Ends.step (he hl) (by simp) (Ends.arbiter_busy hbusy (h _ hc))) (by omega)
  · exact Ends.step (he hl) (by simp) (Ends.arbiter_busy (k := k + 1) hbusy (Ends.arbiter_busy hbusy (h _ hc)))

theorem beginHold_lineFree (h : u.ulp.lineFree = false) : (beginHold u).1.ulp.lineFree = false := by
  unfold Ulp.lineFree at h ⊢
  simp only [beginHold]
  rw [Bool.and_eq_false_iff] at h ⊢
  refine h.imp_right fun hd => ?_
  split
  · split
    · next hr => simpa using hr
    · exact hd
  · exact hd

/-- In RUN, with no sleep rule, a host that is held stays so or is taken under the hold, and does not doze. -/
theorem Ends.hostCarried {old new : HostState} (hp : u.psc.power = .run) (hu : u.Unruled) (hheld : old.held = true → new.held = true)
    (hn : new.dozes = false) (h : ∀ t m, m = l ∨ m = l ++ [.serve] → Carried u t → Ends k m t Q) :
    Ends (k + 3) (hostSignals old new ++ l) u Q := by
  have hrest : ∀ (v : State) (m : List Signal), v.psc.power = .run → v.Unruled → m = l ∨ m = l ++ [.serve] → Carried u v →
      Ends (k + 2) (.pscHost old new :: .spuEval .host :: m) v Q := by
    intro v m hvp hvu hm hc
    refine Ends.step (k := k + 1) (hostChanged_of_run hvp hn) (by simp) ?_
    refine Ends.spuEval_unruled (k := k) (by exact hvu) (h _ m hm (hc.trans ⟨rfl, rfl, rfl, rfl, id, rfl, rfl⟩))
  have hself : Carried u u := ⟨Only.refl _ _, rfl, rfl, rfl, id, rfl, rfl⟩
  unfold hostSignals
  cases ho : old.held <;> cases hw : new.held
  · exact Ends.le (hrest u l hp hu (.inl rfl) hself) (by omega)
  · exact Ends.holdBegin (k := k + 2) (hrest (beginHold u).1 (l ++ [Signal.serve]) hp hu (.inr rfl)
      ⟨rfl, rfl, rfl, rfl, beginHold_lineFree, rfl, rfl⟩)
  · exact (nomatch hw.symm.trans (hheld ho))
  · exact Ends.le (hrest u l hp hu (.inl rfl) hself) (by omega)

/-- The reply slot served on a busy line, with no command waiting. -/
theorem Ends.serveBusy (hq : u.ulp.queue = []) (hb : u.ulp.lineFree = false) (h : ∀ x : Ulp, Q { u with ulp := x }) :
    Ends 2 [.serve] u Q := by
  rcases serveQueue_cases u with he | ⟨r, rs, -, he⟩ | ⟨f, q, hf, -⟩
  · exact Ends.le (Ends.skip (k := 0) he (by simp) (Ends.nil (h u.ulp))) (by omega)
  · exact Ends.step (k := 1) he (by simp) (Ends.arbiter_busy (k := 0) hb (Ends.nil (h _)))
  · exact nomatch hq.symm.trans hf

/-- What a WAKE that moves the host leaves besides the Uplink: the policy's record, and the frame in the Input area. -/
structure Woken (b : HoldBody) (u : State) (p : Spu) (t : State) : Prop where
  spu : t.spu = p
  dlc : t.dlc = u.dlc
  igt : t.igt = (u.entered b).igt
  input : t.fbf.input = u.fbf.input ++ [⟨b.kind, b.payload⟩]

/-- A report, the change of the host's state, and the frame behind it. -/
theorem Ends.wakeRouted {r : ReportKind} {f : List Byte} {old new : HostState} (hr : r ≠ .forceCut) (hroute : Routable b u)
    (hdir : u.gateDir.present = true) (hfit : b.payload.length + 4 ≤ u.fbf.inputFree) (hdel : u.dlc.state.delivers = true)
    (hdue : u.dlc.NotDue) (hq : u.ulp.queue = []) (hp : u.psc.power = .run) (hun : u.Unruled)
    (hheld : old.held = true → new.held = true) (hn : new.dozes = false) :
    Ends 20 (.report r f :: hostSignals old new ++ [.gateRoute b, .openDue]) u (Woken b u u.spu) := by
  refine Ends.le (Ends.reportCarried (k := 10) hr hroute.busy fun v hv => ?_) (by omega)
  have hvs : v.spu = u.spu := hv.only.spu rfl
  refine Ends.le (Ends.hostCarried (k := 7) (hv.power.trans hp) (by rw [State.Unruled, hvs]; exact hun) hheld hn
    fun w m hm hw => ?_) (by omega)
  have hc := hv.trans hw
  have hspu : w.spu = u.spu := hc.only.spu rfl
  have hdlc : w.dlc = u.dlc := hc.only.dlc rfl
  have higt : w.igt = u.igt := hc.only.igt rfl
  have hbusy : w.ulp.lineFree = false := hc.lineFree hroute.busy
  have hwr : Routable b w :=
    ⟨hc.hold.trans hroute.hold, by rw [higt]; exact hroute.pend, hbusy, fun c h => by rw [higt]; exact hroute.admits c h, hroute.judged⟩
  have hwdir : w.gateDir.present = true := by rw [State.gateDir, higt, hc.only.pcl rfl]; exact hdir
  have hwfit : b.payload.length + 4 ≤ w.fbf.inputFree := by rw [Fbf.inputFree, hc.map, hc.input]; exact hfit
  have hwoken : ∀ x : Ulp, Woken b u u.spu { w.entered b with ulp := x } := fun x =>
    ⟨hspu, hdlc, by change (w.entered b).igt = _; rw [State.entered, higt]; rfl,
      by change w.fbf.input ++ _ = _; rw [hc.input]⟩
  have hopen : openDue (w.entered b) = quiet (w.entered b) := openDue_of_notDue (by change w.dlc.NotDue; rw [hdlc]; exact hdue)
  rcases hm with rfl | rfl
  · refine Ends.le (Ends.gateRouted (k := 1) (by rw [hdlc]; exact hdel) hwr hwdir hwfit ?_) (by omega)
    exact Ends.skip (k := 0) hopen (by simp) (Ends.nil (hwoken w.ulp))
  · refine Ends.le (Ends.gateRouted (k := 3) (by rw [hdlc]; exact hdel) hwr hwdir hwfit ?_) (by omega)
    exact Ends.skip (k := 2) hopen (by simp) (Ends.serveBusy (by change w.ulp.queue = []; rw [hc.queue]; exact hq) hbusy hwoken)

/-- A WAKE in RUN with no sleep rule: a host that sleeps, enters sleep or is off wakes, an advised one runs. -/
theorem exec_wakes_host (h : Judged s a b) (hp : parseAnswer bytes = some a) (hdir : s.gateDir.present = true)
    (hf : findEntry b s.igt.entries s.gateDir.first s.gateDir.count = some k) (he : s.igt.entries[k]? = some e) (hn : e.note = false)
    (ha : e.action = .wake) (hfit : b.payload.length + 4 ≤ s.fbf.inputFree) (hc : s.spu.cutStage = .none)
    (hrun : s.psc.power = .run) (hun : s.Unruled) (hq : s.ulp.queue = []) :
    (s.spu.host = .sleeping ∨ s.spu.host = .entering ∨ s.spu.host = .off →
        ∃ t, exec (.dockAnswer bytes) s = .next t ∧ t.spu.host = .waking ∧ t.spu.before = some s.spu.host ∧
          t.spu.wakeSrc = some .key ∧ t.spu.wakeReq = true ∧ t.spu.wakeTimer = some (s.par.wakeTime * 1000) ∧
          t.spu.compliance = none ∧ t.spu.advising = none ∧ t.dlc = s.answerTaken.dlc ∧
          t.igt = ((s.answerTaken.matched k e).entered b).igt ∧
          t.fbf.input = s.fbf.input ++ [⟨b.kind, b.payload⟩] ∧ s.SameConfig t) ∧
      (s.spu.host = .advised →
        ∃ t, exec (.dockAnswer bytes) s = .next t ∧ t.spu.host = .running ∧ t.spu.compliance = none ∧
          t.spu.advising = none ∧ t.dlc = s.answerTaken.dlc ∧
          t.igt = ((s.answerTaken.matched k e).entered b).igt ∧
          t.fbf.input = s.fbf.input ++ [⟨b.kind, b.payload⟩] ∧ s.SameConfig t) := by
  have hj : judge b s.answerTaken = (.wake, (s.answerTaken.matched k e, [])) := by
    have := judge_matched (u := s.answerTaken) hdir hf he
    rwa [hn, ha] at this
  have hact : dockAnswer bytes s = (s.answerTaken.matched k e, [.wakeRequest .key, .gateRoute b, .openDue]) := by
    obtain ⟨f, hslot, hfq⟩ := h.delivers.slot
    rw [dockAnswer, hp, closeSlot_input h.delivers.state hslot hfq h.isInput, h.arrival, judgeArrival_wake hj]
    rfl
  have hmove : ∀ (p : Spu) (r : ReportKind) (f : List Byte) (new : HostState), r ≠ .forceCut →
      wakeRequest .key (s.answerTaken.matched k e) =
        ({ s.answerTaken.matched k e with spu := p }, .report r f :: hostSignals s.spu.host new) →
      p.rules = s.spu.rules → p.governing = s.spu.governing → (s.spu.host.held = true → new.held = true) → new.dozes = false →
      ∃ t, exec (.dockAnswer bytes) s = .next t ∧ Woken b (s.answerTaken.matched k e) p t ∧ s.SameConfig t := by
    intro p r f new hr hw hrules hgov hheld hdz
    have hpun : ({ s.answerTaken.matched k e with spu := p } : State).Unruled := by
      change (∀ r ∈ p.rules, r.enabled = false) ∧ p.governing = none
      rw [hrules, hgov]
      exact hun
    obtain ⟨t, ht, hwk, hcfg, -⟩ := exec_event (c := .dockAnswer bytes) (s := s) (u := s) (Q := Woken b { s.answerTaken.matched k e with spu := p } p)
      rfl (State.SameConfig.refl s) hq (congrArg finish hact) hact rfl rfl
      (Ends.le (Ends.step (k := 20) hw (by simp)
        (Ends.wakeRouted (u := { s.answerTaken.matched k e with spu := p }) hr (h.routable rfl rfl rfl rfl) hdir hfit h.delivers.state
          h.delivers.notDue hq hrun hpun hheld hdz)) (by omega))
    exact ⟨t, ht, ⟨hwk.spu, hwk.dlc, hwk.igt, hwk.input⟩, hcfg⟩
  refine ⟨fun hh => ?_, fun hh => ?_⟩
  · obtain ⟨f, hrep⟩ := wakeAdvice_report .key s.spu.host
    have hw := wakeRequest_wakes_host (s := s.answerTaken.matched k e) (src := .key) hc hh
    rw [show (s.answerTaken.matched k e).spu.host = s.spu.host from rfl, hrep] at hw
    obtain ⟨t, ht, hwk, hcfg⟩ := hmove _ _ f .waking (by simp) hw rfl rfl (fun _ => rfl) rfl
    refine ⟨t, ht, ?_, ?_, ?_, ?_, ?_, ?_, ?_, hwk.dlc, hwk.igt, hwk.input, hcfg⟩
    all_goals rw [hwk.spu]
    all_goals rfl
  · obtain ⟨f, hwd⟩ := withdraw_eq (.wake .key) s.spu.governing (s.answerTaken.matched k e)
    have hw := (wakeRequest_withdraws (s := s.answerTaken.matched k e) (src := .key) hc hh).trans hwd
    obtain ⟨t, ht, hwk, hcfg⟩ := hmove _ _ f .running (by simp) hw rfl rfl (fun hx => by rw [hh] at hx; exact nomatch hx) rfl
    refine ⟨t, ht, ?_, ?_, ?_, hwk.dlc, hwk.igt, hwk.input, hcfg⟩
    all_goals rw [hwk.spu]

/-! ### A release -/

/-- A release of a code in the set with nothing held or pending, and room for it. -/
theorem exec_release {code : Nat} (h : Delivers s) (hp : parseAnswer bytes = some (.key code true)) (hh : s.fbf.hold = [])
    (hpend : s.igt.pend = []) (hbusy : s.ulp.lineFree = false) (hfree : 6 ≤ s.fbf.inputFree) (hk : s.igt.keys.contains code = true) :
    exec (.dockAnswer bytes) s = .next (s.answerTaken.releasedKey code) := by
  have he : gateArrival (.key code true) s.answerTaken = (s.answerTaken.releasedKey code, [.arbiter]) := by
    change releaseArrival code s.answerTaken = _
    rw [releaseArrival, show s.answerTaken.fbf.hold = [] from hh]
    refine (if_pos hk).trans ?_
    rw [show s.answerTaken.igt.pend = [] from hpend]
    refine (if_neg (by simp)).trans ((if_neg (by simp)).trans (if_pos ⟨rfl, hfree⟩))
  refine exec_arrival h hp rfl rfl fun Q hQ => ?_
  rw [he]
  exact Ends.le (Ends.arbiter_busy (k := 5) hbusy hQ) (show 6 ≤ 990 by omega)

/-- In ACTIVE a VALID answer clears the missed count. -/
theorem answerTaken_of_active (h : s.dlc.state = .active) : s.answerTaken = s.slotAnswered := by
  rw [State.answerTaken, if_neg (by rw [h]; nofun)]
  rfl

end

/-- Settles O32: the frame is judged once; its route is the entry's, the directory's, or the wait in the Hold area. -/
theorem keyFramesMeetTheGate : Obligations.KeyFramesMeetTheGate := by
  refine ⟨fun bytes f code s hst hslot hf htimer hh hpend hbusy hfree => ?_,
    fun bytes f s hdel hslot hf htimer hh hpend hbusy => ?_⟩
  · have hD : Delivers s := ⟨by rw [hst]; rfl, ⟨f, hslot, fun _ => hf⟩, htimer⟩
    have htaken := answerTaken_of_active hst
    refine ⟨fun hp hk => ?_, fun hp hk hlen hdir hfind => ?_⟩
    · have := exec_release hD hp hh hpend hbusy hfree hk
      rw [htaken] at this
      exact this
    · have hbody : s.judgedBody (.key code false) = some (.press code) := if_neg (by
        rintro (h | h)
        · exact nomatch hk.symm.trans h
        · omega)
      obtain ⟨h1, h2, h3⟩ := exec_unmatched ⟨hD, hbody, hh, hpend, hbusy⟩ hp hdir hfind
      rw [htaken] at h1 h2 h3
      refine ⟨fun ha => (h2 ha).trans ?_, h1, fun ha hlen hgate => h3 ha hlen hgate⟩
      rw [if_pos (by exact hfree)]
      rfl
  · have hD : Delivers s := ⟨hdel, ⟨f, hslot, hf⟩, htimer⟩
    refine ⟨fun a hp b hb => ?_, fun code up hp hup => ?_⟩
    · have hJ : Judged s a b := ⟨hD, hb, hh, hpend, hbusy⟩
      refine ⟨fun k hfind e he hdir => ⟨fun hn => ?_, fun hn ha => exec_noted hJ hp hdir hfind he hn ha⟩,
        fun hfind hdir => exec_unmatched hJ hp hdir hfind, fun hdir hlen hgate => exec_absent hJ hp hdir hlen hgate⟩
      obtain ⟨h1, h2, h3⟩ := exec_matched hJ hp hdir hfind he hn
      refine ⟨h1, h2, h3, fun ha hfit => ?_⟩
      obtain ⟨h4, h5⟩ := exec_wakes hJ hp hdir hfind he hn ha hfit
      exact ⟨h4, h5, fun hc hrun hun hq => exec_wakes_host hJ hp hdir hfind he hn ha hfit hc hrun hun hq⟩
    · subst hup
      exact exec_unjudged hD hp hbusy hh

end Sys2Proof.Machine
end

section
/-! PROOFS. What the handovers at the end of a reset leave (O3, O4, O5). -/

namespace Sys2Proof.Machine
open Sys2Proof

section
variable {s t u : State} {k : Nat} {l : List Signal} {Q : State → Prop}

/-! ### The blocks at the end of a reset -/

/-- The blocks while the handovers of a reset run: the part in RUN with a host that is not held, a dock and a pen that ask for
nothing, no base vector, nothing in the gate's and the Uplink's areas but reports. -/
structure State.Starting (s : State) : Prop where
  power : s.psc.power = .run
  host : s.spu.host = .running ∨ s.spu.host = .advised
  cut : s.spu.cutStage = .none
  await : s.dlc.await = none
  overdraw : s.dlc.overdraw = 0
  tilt : s.dlc.tiltAvailable = false
  base : s.dlc.baseCond = s.pcl.cond
  cond : s.hau.cond = .absent
  requested : s.sbu.requested = 0
  grant : s.sbu.grant = 0
  pending : s.sbu.pending = false
  keys : s.igt.keys = []
  pend : s.igt.pend = []
  input : s.fbf.input = []
  hold : s.fbf.hold = []
  passdown : s.fbf.passdown = []
  mirror : s.fbf.mirror = []
  slot : s.ulp.slot = none
  overruns : s.ulp.overruns = []
  queue : s.ulp.queue = []

theorem State.Starting.held (h : s.Starting) : s.held = false := by
  rw [State.held]
  rcases h.host with h | h <;> rw [h] <;> rfl

/-- `t` is `s` with other reports stored, sent or counted. -/
structure Reported (s t : State) : Prop where
  only : Only [.fbf, .ulp] s t
  input : t.fbf.input = s.fbf.input
  hold : t.fbf.hold = s.fbf.hold
  passdown : t.fbf.passdown = s.fbf.passdown
  mirror : t.fbf.mirror = s.fbf.mirror
  slot : t.ulp.slot = s.ulp.slot
  overruns : t.ulp.overruns = s.ulp.overruns
  queue : t.ulp.queue = s.ulp.queue

theorem Reported.refl (s : State) : Reported s s := ⟨Only.refl _ _, rfl, rfl, rfl, rfl, rfl, rfl, rfl⟩

theorem Reported.trans (h : Reported s t) (h' : Reported t u) : Reported s u :=
  ⟨h.only.trans h'.only, h'.input.trans h.input, h'.hold.trans h.hold, h'.passdown.trans h.passdown, h'.mirror.trans h.mirror,
    h'.slot.trans h.slot, h'.overruns.trans h.overruns, h'.queue.trans h.queue⟩

theorem State.Starting.reported (h : s.Starting) (h' : Reported s t) : t.Starting where
  power := by rw [h'.only.psc rfl]; exact h.power
  host := by rw [h'.only.spu rfl]; exact h.host
  cut := by rw [h'.only.spu rfl]; exact h.cut
  await := by rw [h'.only.dlc rfl]; exact h.await
  overdraw := by rw [h'.only.dlc rfl]; exact h.overdraw
  tilt := by rw [h'.only.dlc rfl]; exact h.tilt
  base := by rw [h'.only.dlc rfl, h'.only.pcl rfl]; exact h.base
  cond := by rw [h'.only.hau rfl]; exact h.cond
  requested := by rw [h'.only.sbu rfl]; exact h.requested
  grant := by rw [h'.only.sbu rfl]; exact h.grant
  pending := by rw [h'.only.sbu rfl]; exact h.pending
  keys := by rw [h'.only.igt rfl]; exact h.keys
  pend := by rw [h'.only.igt rfl]; exact h.pend
  input := h'.input.trans h.input
  hold := h'.hold.trans h.hold
  passdown := h'.passdown.trans h.passdown
  mirror := h'.mirror.trans h.mirror
  slot := h'.slot.trans h.slot
  overruns := h'.overruns.trans h.overruns
  queue := h'.queue.trans h.queue

/-! ### Reports, dock and pen -/

theorem offerOverflow_reported (s : State) : Reported s (offerOverflow s).1 ∧ ∀ x ∈ (offerOverflow s).2, x = .arbiter := by
  unfold offerOverflow storeReport
  dsimp only
  split
  · exact ⟨⟨rfl, rfl, rfl, rfl, rfl, rfl, rfl, rfl⟩, by simp [Act.andThen, quiet]⟩
  · exact ⟨.refl s, nofun⟩

theorem composeReport_reported {r : ReportKind} (hr : r ≠ .forceCut) (f : List Byte) (s : State) :
    Reported s (composeReport r f s).1 ∧ ∀ x ∈ (composeReport r f s).2, x = .arbiter := by
  have hoffer : ∀ u : State, Reported u (offerReport r f u).1 ∧ ∀ x ∈ (offerReport r f u).2, x = .arbiter := by
    intro u
    unfold offerReport storeReport
    simp only [if_neg hr]
    split
    · exact ⟨⟨rfl, rfl, rfl, rfl, rfl, rfl, rfl, rfl⟩, by simp⟩
    · exact ⟨⟨rfl, rfl, rfl, rfl, rfl, rfl, rfl, rfl⟩, nofun⟩
  unfold composeReport
  split
  · obtain ⟨h1, h2⟩ := offerOverflow_reported s
    obtain ⟨h3, h4⟩ := hoffer (offerOverflow s).1
    exact ⟨h1.trans h3, fun x hx => (List.mem_append.mp hx).elim (h2 x) (h4 x)⟩
  · exact ⟨.refl s, nofun⟩

/-- With no reply and no area but the reports', the arbiter sends a report or nothing. -/
theorem arbiterChoice_reported (h : s.Starting) :
    Reported s (arbiterChoice s).1 ∧ ∀ x ∈ (arbiterChoice s).2, x = .reportRemoved := by
  by_cases hf : s.ulp.lineFree = true
  · rw [arbiterChoice_of_free hf h.held h.slot, chooseArea, h.input, h.mirror]
    cases s.fbf.report with
    | nil => exact ⟨.refl s, nofun⟩
    | cons r rs => exact ⟨⟨rfl, rfl, rfl, rfl, rfl, rfl, rfl, rfl⟩, by simp [sendReport]⟩
  · rw [arbiterChoice_of_busy (Bool.eq_false_iff.mpr hf)]
    exact ⟨.refl s, nofun⟩

theorem dockRequest_nothing (h : s.Starting) : dockRequest 0 s = (s, [.grantApplied false]) := by
  have hsame : ({ s with sbu := { s.sbu with requested := 0 } } : State) = s := by rw [← h.requested]
  have hpend : ({ s with sbu := { s.sbu with pending := false } } : State) = s := by rw [← h.pending]
  have happ : applyRequest s = (s, [.grantApplied false]) := by
    refine (if_pos (h.requested.trans h.grant.symm)).trans ?_
    rw [hpend]
  rw [dockRequest, hsame, budgetEvent_eq, happ]
  simp [budgetTail]

theorem grantApplied_nothing (h : s.Starting) (b : Bool) : grantApplied b s = quiet s := by
  have hsame : (if b then { s.dlc with overdraw := 0 } else s.dlc) = s.dlc := by
    split
    · rw [← h.overdraw]
    · rfl
  have hd : s.dlc.granted b s.par.pollPeriod = s.dlc := by
    unfold Dlc.granted
    rw [hsame]
    simp [h.await]
  rw [grantApplied_eq, hd]

/-! ### The handovers of a reset -/

/-- The handovers that every reset hands on. -/
abbrev startKinds : List Signal :=
  [Kind.report, .reportRemoved, .arbiter, Kind.grantApplied, .pscDeferred, Kind.dockLevel, Kind.hauDock, .pclDock, .pscRecheck]

/-- A handover of a reset: a dock demand is 0. -/
def Signal.Starts (g : Signal) : Prop :=
  g.kind ∈ startKinds ∧ ∀ n, g = .dockLevel n → n = 0

theorem starts_of_upstream {g : Signal} (h : g.kind ∈ [Kind.report, Signal.reportRemoved, .arbiter]) : g.Starts := by
  refine ⟨(show ∀ k ∈ [Kind.report, Signal.reportRemoved, .arbiter], k ∈ startKinds by decide) _ h, ?_⟩
  rintro n rfl
  exact absurd h (by simp [Signal.kind])

/-- The dock, the pen and the power state have nothing to do, and reports go their way. -/
theorem starting_handle {g : Signal} (h : s.Starting) (hg : g.Starts) :
    Reported s (handle g s).1 ∧ ∀ x ∈ (handle g s).2, x.Starts := by
  obtain ⟨hk, hlevel⟩ := hg
  have hone : ∀ {a : Act}, (Reported s a.1 ∧ ∀ x ∈ a.2, x = Signal.arbiter) → Reported s a.1 ∧ ∀ x ∈ a.2, x.Starts :=
    fun ha => ⟨ha.1, fun x hx => by rw [ha.2 x hx]; exact starts_of_upstream (by decide)⟩
  have hnone : ∀ {a : Act}, a = quiet s → Reported s a.1 ∧ ∀ x ∈ a.2, x.Starts := by
    rintro a rfl
    exact ⟨.refl s, nofun⟩
  cases g
  case report r f =>
    by_cases hr : r = .forceCut
    · simp [Signal.kind, hr] at hk
    · exact hone (composeReport_reported hr f s)
  case reportRemoved => exact hone (offerOverflow_reported s)
  case arbiter =>
    obtain ⟨h1, h2⟩ := arbiterChoice_reported h
    exact ⟨h1, fun x hx => by rw [h2 x hx]; exact starts_of_upstream (by decide)⟩
  case grantApplied b => exact hnone (grantApplied_nothing h b)
  case pscDeferred => exact hnone (deferredRecheck_of_run h.power)
  case pscRecheck => exact hnone (standbyRecheck_of_run h.power)
  case hauDock b => exact hnone (hauDockNotice_of_absent h.tilt h.cond)
  case pclDock => exact hnone (pclDockNotice_of_same h.base)
  case dockLevel n =>
    obtain rfl := hlevel n rfl
    have he : handle (.dockLevel 0) s = _ := dockRequest_nothing h
    rw [he]
    exact ⟨.refl s, by simp [Signal.Starts, Signal.kind]⟩
  all_goals simp [Signal.kind] at hk

/-! ### The blocks at the end of a reset, before what it hands on -/

/-- The blocks that every reset takes to its values, before its end. -/
structure State.Blank (s : State) : Prop where
  hau : s.hau = Hau.atReset
  pcl : s.pcl = Pcl.atReset s.pcl.table
  dlc : s.dlc = Dlc.atReset
  igt : s.igt = Igt.atReset s.igt.dir s.igt.entries
  fbf : s.fbf = Fbf.atReset s.fbf.map s.fbf.report
  sbu : s.sbu = Sbu.atReset
  pcc : s.pcc = Pcc.atReset s.pcc.profile
  spu : s.spu = Spu.atReset s.spu.forceMode s.spu.rules
  psc : s.psc = Psc.atReset
  slot : s.ulp.slot = none
  overruns : s.ulp.overruns = []
  queue : s.ulp.queue = []

theorem fullResetBlocks_blank (c : ResetCause) (b : Sib) (s : State) : (fullResetBlocks c b s).Blank :=
  ⟨rfl, rfl, rfl, rfl, rfl, rfl, rfl, rfl, rfl, rfl, rfl, rfl⟩

theorem softResetBlocks_blank (s : State) : (softResetBlocks s).Blank :=
  ⟨rfl, rfl, rfl, rfl, rfl, rfl, rfl, rfl, rfl, rfl, rfl, rfl⟩

/-- The SBU's record asks for nothing, and nothing is granted. -/
structure State.Unbudgeted (s : State) : Prop where
  requested : s.sbu.requested = 0
  grant : s.sbu.grant = 0
  pending : s.sbu.pending = false
  penSet : s.sbu.penSet = 0
  iPhase : s.sbu.iPhase = 0

theorem penSetpoint_zero (h : s.sbu.iPhase = 0) (room : Nat) : penSetpoint room s = 0 := by
  have : penCandidate room s = 0 := by
    unfold penCandidate
    simp [h]
  unfold penSetpoint
  rw [this]
  simp

theorem recompute_unbudgeted (told : Bool) (h : s.Unbudgeted) : (recompute told s).1.Unbudgeted :=
  ⟨h.requested, h.grant, h.pending, penSetpoint_zero h.iPhase _, h.iPhase⟩

theorem takeRail_unbudgeted (mv : Int) (h : s.Unbudgeted) : (takeRail mv s).1.Unbudgeted := by
  rw [takeRail, budgetEvent_eq]
  unfold moveRail
  dsimp only
  rw [h.pending]
  simp only [Bool.and_false, Bool.false_eq_true, if_false]
  split
  · exact recompute_unbudgeted true ⟨h.requested, h.grant, rfl, h.penSet, h.iPhase⟩
  · exact ⟨h.requested, h.grant, rfl, h.penSet, h.iPhase⟩

theorem startSession_unbudgeted (h : s.Unbudgeted) : (startSession s).1.Unbudgeted :=
  recompute_unbudgeted (s := { s with pcc := s.pcc.entered .probe none s.awake, sbu := { s.sbu with iPhase := 0 } }) false
    ⟨h.requested, h.grant, h.pending, h.penSet, rfl⟩

theorem takeRail_kept (mv : Int) (hp : s.sbu.pending = false) :
    (takeRail mv s).1.sbu.temp = s.sbu.temp ∧ (takeRail mv s).1.pcc.phase = s.pcc.phase ∧
      (takeRail mv s).1.pcc.profile = s.pcc.profile := by
  rw [takeRail, budgetEvent_eq]
  unfold moveRail
  dsimp only
  rw [hp]
  simp only [Bool.and_false, Bool.false_eq_true, if_false]
  split
  · exact ⟨rfl, rfl, rfl⟩
  · exact ⟨rfl, rfl, rfl⟩

/-- The state in which the DLC reads PRESENCE: the PCL has evaluated the first readings. -/
def State.evaluated (rail temp : Int) (s : State) : State := (postureChoose (firstReadings rail temp (hauAtReset s)).1).1

theorem evaluated_only (rail temp : Int) (s : State) : Only [.hau, .pcl, .sbu, .pcc] s (s.evaluated rail temp) :=
  ((hauAtReset_only s rfl).trans (firstReadings_only rail temp _ rfl)).trans (postureChoose_only _ rfl)

theorem endReset_fst (rail temp : Int) (s : State) :
    (endReset rail temp s).1 = (penAtReset (dockAtReset (s.evaluated rail temp)).1).1 := rfl

theorem evaluated_unbudgeted (rail temp : Int) (h : s.Blank) : (s.evaluated rail temp).Unbudgeted := by
  have h1 : ({ hauAtReset s with sbu := { (hauAtReset s).sbu with temp := max (-40) (min 125 temp) } } : State).Unbudgeted := by
    have hs : (hauAtReset s).sbu = Sbu.atReset := h.sbu
    constructor <;> dsimp only <;> rw [hs] <;> rfl
  have ho : Only [.pcl] (firstReadings rail temp (hauAtReset s)).1 (s.evaluated rail temp) := postureChoose_only _ rfl
  have h2 : (firstReadings rail temp (hauAtReset s)).1.Unbudgeted := takeRail_unbudgeted rail h1
  obtain ⟨h3, h4, h5, h6, h7⟩ := h2
  constructor <;> rw [ho.sbu rfl] <;> assumption

theorem dockAtReset_unbudgeted (h : s.Unbudgeted) : (dockAtReset s).1.Unbudgeted := by
  have ho : Only [.dlc, .fbf] s (dockAtReset s).1 := dockAtReset_only s rfl
  have hs := ho.sbu rfl
  obtain ⟨h1, h2, h3, h4, h5⟩ := h
  constructor <;> rw [hs] <;> assumption

theorem penAtReset_unbudgeted (h : s.Unbudgeted) : (penAtReset s).1.Unbudgeted := by
  unfold penAtReset
  split
  · split
    · exact ⟨h.requested, h.grant, h.pending, h.penSet, h.iPhase⟩
    · exact startSession_unbudgeted h
  · exact h

theorem endReset_unbudgeted (rail temp : Int) (h : s.Blank) : (endReset rail temp s).1.Unbudgeted := by
  rw [endReset_fst]
  exact penAtReset_unbudgeted (dockAtReset_unbudgeted (evaluated_unbudgeted rail temp h))

/-- The dock after a reset: settling where a base is present. -/
def Dlc.sensed (present : Bool) (settleTime : Nat) : Dlc :=
  if present then { Dlc.atReset with state := .settling, settle := some settleTime } else Dlc.atReset

theorem dockAtReset_of_blank (h : s.dlc = Dlc.atReset) :
    (dockAtReset s).1.dlc = Dlc.sensed s.sib.presence.asserted s.par.settleTime := by
  unfold dockAtReset Dlc.sensed
  split
  · unfold presenceAsserted
    rw [if_pos (by rw [h]; rfl), h]
    rfl
  · exact h

theorem endReset_dlc (rail temp : Int) (h : s.Blank) :
    (endReset rail temp s).1.dlc = Dlc.sensed s.sib.presence.asserted s.par.settleTime := by
  have ho := evaluated_only rail temp s
  have hpen := penAtReset_only (dockAtReset (s.evaluated rail temp)).1 (T := [.sbu, .pcc]) rfl
  rw [endReset_fst, hpen.dlc rfl, dockAtReset_of_blank (by rw [ho.dlc rfl]; exact h.dlc), ho.sib rfl, ho.par rfl]

theorem endReset_hau (rail temp : Int) (s : State) : (endReset rail temp s).1.hau = (hauAtReset s).hau := by
  have h1 := firstReadings_only rail temp (hauAtReset s) (T := [.sbu, .pcc]) rfl
  have h2 := postureChoose_only (firstReadings rail temp (hauAtReset s)).1 (T := [.pcl]) rfl
  have h3 := dockAtReset_only (s.evaluated rail temp) (T := [.dlc, .fbf]) rfl
  have h4 := penAtReset_only (dockAtReset (s.evaluated rail temp)).1 (T := [.sbu, .pcc]) rfl
  rw [endReset_fst, h4.hau rfl, h3.hau rfl]
  exact (h2.hau rfl).trans (h1.hau rfl)

theorem endReset_pcl (rail temp : Int) (s : State) :
    (endReset rail temp s).1.pcl =
      (s.pcl.settled s.par.postureDwell (choosePosture (firstReadings rail temp (hauAtReset s)).1)).1 := by
  have h1 := firstReadings_only rail temp (hauAtReset s) (T := [.sbu, .pcc]) rfl
  have h3 := dockAtReset_only (s.evaluated rail temp) (T := [.dlc, .fbf]) rfl
  have h4 := penAtReset_only (dockAtReset (s.evaluated rail temp)).1 (T := [.sbu, .pcc]) rfl
  have h5 : (s.evaluated rail temp).pcl = ((firstReadings rail temp (hauAtReset s)).1.pcl.settled
    (firstReadings rail temp (hauAtReset s)).1.par.postureDwell (choosePosture (firstReadings rail temp (hauAtReset s)).1)).1 := rfl
  rw [endReset_fst, h4.pcl rfl, h3.pcl rfl, h5, h1.pcl rfl, h1.par rfl]
  rfl

theorem Pcl.settled_kept (d : Nat) (c : Nat × Option Nat) (p : Pcl) :
    (p.settled d c).1.code = p.code ∧ (p.settled d c).1.stamp = p.stamp ∧ (p.settled d c).1.table = p.table ∧
      (p.settled d c).1.cond = p.cond ∧ (c.1 ≠ p.code → (p.settled d c).1.row = p.row) := by
  unfold Pcl.settled
  dsimp only
  split_ifs
  all_goals simp_all

theorem sensed_rests (b : Bool) (n : Nat) :
    (Dlc.sensed b n).await = none ∧ (Dlc.sensed b n).overdraw = 0 ∧ (Dlc.sensed b n).tiltAvailable = false ∧
      (Dlc.sensed b n).baseCond = .detached := by
  cases b
  · exact ⟨rfl, rfl, rfl, rfl⟩
  · exact ⟨rfl, rfl, rfl, rfl⟩

/-- What a reset leaves is ready for what it hands on. -/
theorem endReset_starting (rail temp : Int) (h : s.Blank) : (endReset rail temp s).1.Starting := by
  have hdlc := endReset_dlc rail temp h
  have hhau := endReset_hau rail temp s
  have hpcl := endReset_pcl rail temp s
  have hspu := endReset_spu rail temp s
  have hpsc := endReset_psc rail temp s
  have hulp := endReset_ulp rail temp s
  have hfbf := endReset_fbf rail temp s
  have higt : (endReset rail temp s).1.igt = s.igt :=
    (endReset_only rail temp s (T := [.hau, .pcl, .dlc, .fbf, .sbu, .pcc]) rfl).igt rfl
  obtain ⟨ha, ho, ht, hb⟩ := sensed_rests s.sib.presence.asserted s.par.settleTime
  obtain ⟨-, -, -, hc, -⟩ := Pcl.settled_kept s.par.postureDwell (choosePosture (firstReadings rail temp (hauAtReset s)).1) s.pcl
  obtain ⟨hr, hg, hp, -, -⟩ := endReset_unbudgeted rail temp h
  constructor
  case power => rw [hpsc, h.psc]; rfl
  case host => rw [hspu, h.spu]; exact .inl rfl
  case cut => rw [hspu, h.spu]; rfl
  case await => rw [hdlc, ha]
  case overdraw => rw [hdlc, ho]
  case tilt => rw [hdlc, ht]
  case base => rw [hdlc, hb, hpcl, hc, h.pcl]; rfl
  case cond => rw [hhau]; rfl
  case requested => exact hr
  case grant => exact hg
  case pending => exact hp
  case keys => rw [higt, h.igt]; rfl
  case pend => rw [higt, h.igt]; rfl
  case input => rw [hfbf, h.fbf]; rfl
  case hold => rw [hfbf, h.fbf]; rfl
  case passdown => rw [hfbf, h.fbf]; rfl
  case mirror => rw [hfbf, h.fbf]; rfl
  case slot => rw [hulp, h.slot]
  case overruns => rw [hulp, h.overruns]
  case queue => rw [hulp, h.queue]

theorem starts_of_kind {g : Signal} (h : g.kind ∈ startKinds) (hn : g.kind ≠ Kind.dockLevel) : g.Starts := by
  refine ⟨h, ?_⟩
  rintro n rfl
  exact absurd rfl hn

theorem dockMove_starts {new : Dlc} (h : s.dlc.state.delivers = false) (hl : new.level = 0) :
    ∀ g ∈ (dockMove new s).2, g.Starts := by
  rw [dockMove_signals, h, hl]
  simp [Signal.Starts, Signal.kind, moveNotices]

theorem dockAtReset_starts (h : s.dlc = Dlc.atReset) : ∀ g ∈ (dockAtReset s).2, g.Starts := by
  unfold dockAtReset
  split
  · unfold presenceAsserted
    rw [if_pos (by rw [h]; rfl)]
    intro g hg
    rcases List.mem_append.mp hg with hg | hg
    · exact dockMove_starts (by rw [h]; rfl) (by rw [h]; rfl) g hg
    · rw [List.mem_singleton.mp hg]
      exact starts_of_upstream (by simp [dockReport, Signal.kind])
  · exact nofun

theorem penAtReset_starts (s : State) : ∀ g ∈ (penAtReset s).2, g.Starts := by
  unfold penAtReset
  split
  · split
    · exact nofun
    · intro g hg
      have hk := hands_enterPhase .probe none 0 s g hg
      refine starts_of_kind ((show ∀ k ∈ [Kind.report, .pscDeferred], k ∈ startKinds by decide) _ hk) fun e => ?_
      rw [e] at hk
      exact absurd hk (by decide)
  · exact nofun

/-- What a reset hands on. -/
theorem endReset_hands (rail temp : Int) (h : s.Blank) :
    ∀ g ∈ (endReset rail temp s).2,
      g.Starts ∨ g = .pclCommit ∧ (s.pcl.settled s.par.postureDwell
        (choosePosture (firstReadings rail temp (hauAtReset s)).1)).2 = true ∨ g = .spuEval .other := by
  have ho := evaluated_only rail temp s
  have hsnd : (endReset rail temp s).2 = [startReport s.ulp, .arbiter] ++ (firstReadings rail temp (hauAtReset s)).2 ++
      (postureChoose (firstReadings rail temp (hauAtReset s)).1).2 ++ (dockAtReset (s.evaluated rail temp)).2 ++
      (penAtReset (dockAtReset (s.evaluated rail temp)).1).2 ++ [.spuEval .other] := rfl
  intro g hg
  rw [hsnd] at hg
  simp only [List.mem_append] at hg
  rcases hg with ((((hg | hg) | hg) | hg) | hg) | hg
  · refine .inl (starts_of_upstream ?_)
    rcases List.mem_cons.mp hg with rfl | hg
    · simp [startReport, Signal.kind]
    · rw [List.mem_singleton.mp hg]; decide
  · have hk := hands_takeRail rail _ g hg
    refine .inl (starts_of_kind ((show ∀ k ∈ [Kind.report, Kind.grantApplied], k ∈ startKinds by decide) _ hk) fun e => ?_)
    rw [e] at hk
    exact absurd hk (by decide)
  · have h1 := firstReadings_only rail temp (hauAtReset s) (T := [.sbu, .pcc]) rfl
    have he : (postureChoose (firstReadings rail temp (hauAtReset s)).1).2 =
        if (s.pcl.settled s.par.postureDwell (choosePosture (firstReadings rail temp (hauAtReset s)).1)).2 then [.pclCommit]
        else [] := by
      rw [postureChoose, h1.pcl rfl, h1.par rfl]
      rfl
    rw [he] at hg
    split at hg
    · exact .inr (.inl ⟨List.mem_singleton.mp hg, by assumption⟩)
    · exact nomatch hg
  · exact .inl (dockAtReset_starts (by rw [ho.dlc rfl]; exact h.dlc) g hg)
  · exact .inl (penAtReset_starts _ g hg)
  · exact .inr (.inr (List.mem_singleton.mp hg))

/-! ### A reset to the defaults -/

/-- The handovers of a reset under which no rule is enabled and no posture commits: reports go their way, the rest is quiet. -/
theorem Ends.started (hl : ∀ g ∈ l, g.Starts ∨ g = .spuEval .other) (h : s.Starting) (hu : s.Unruled) :
    Ends k l s (Reported s) := by
  refine Ends.of_keeps (fun g => g.Starts ∨ g = .spuEval .other) (Reported s) ?_ hl (.refl s) fun _ ht => ht
  intro g t hg ht
  have hut : t.Unruled := by
    rw [State.Unruled, ht.only.spu rfl]
    exact hu
  rcases hg with hg | rfl
  · obtain ⟨h1, h2⟩ := starting_handle (h.reported ht) hg
    exact ⟨ht.trans h1, fun x hx => .inl (h2 x hx)⟩
  · have he : handle (.spuEval .other) t = quiet t := spuEvaluate_of_unruled hut .other
    rw [he]
    exact ⟨ht, nofun⟩

theorem penAtReset_pcc (s : State) :
    (penAtReset s).1.pcc.phase =
        (if s.sib.garage.asserted then if s.par.autoCharge = 0 then .idleDocked else .probe else s.pcc.phase) ∧
      (penAtReset s).1.sbu.rail = s.sbu.rail ∧ (penAtReset s).1.sbu.temp = s.sbu.temp := by
  unfold penAtReset
  split
  · split
    · exact ⟨rfl, rfl, rfl⟩
    · obtain ⟨h1, h2⟩ := enterPhase_readings .probe none 0 s
      refine ⟨?_, h1, h2⟩
      rw [startSession, (enterPhase_pcc .probe none 0 s).1]
      rfl
  · exact ⟨rfl, rfl, rfl⟩

/-- The readings and the charging phase that a reset leaves. -/
theorem endReset_readings (rail temp : Int) (h : s.Blank) :
    (endReset rail temp s).1.sbu.rail = (max 0 (min 6000 rail)).toNat ∧
      (endReset rail temp s).1.sbu.temp = max (-40) (min 125 temp) ∧
      (endReset rail temp s).1.pcc.phase =
        (if s.sib.garage.asserted then if s.par.autoCharge = 0 then .idleDocked else .probe else .none) := by
  have hsense := evaluated_only rail temp s
  have hdock : Only [.dlc, .fbf] (s.evaluated rail temp) (dockAtReset (s.evaluated rail temp)).1 := dockAtReset_only _ rfl
  have hpcl : Only [.pcl] (firstReadings rail temp (hauAtReset s)).1 (s.evaluated rail temp) := postureChoose_only _ rfl
  obtain ⟨hphase, hrail, htemp⟩ := penAtReset_pcc (dockAtReset (s.evaluated rail temp)).1
  have hpend : s.sbu.pending = false := by rw [h.sbu]; rfl
  obtain ⟨ht, hp, -⟩ := takeRail_kept
    (s := { hauAtReset s with sbu := { (hauAtReset s).sbu with temp := max (-40) (min 125 temp) } }) rail hpend
  obtain ⟨hr, -⟩ := takeRail_sbu rail { hauAtReset s with sbu := { (hauAtReset s).sbu with temp := max (-40) (min 125 temp) } }
  rw [endReset_fst, hphase, hrail, htemp, hdock.sbu rfl, hdock.pcc rfl, hdock.sib rfl, hdock.par rfl, hsense.sib rfl, hsense.par rfl,
    hpcl.sbu rfl, hpcl.pcc rfl]
  refine ⟨hr, ht, ?_⟩
  have hnone : (firstReadings rail temp (hauAtReset s)).1.pcc.phase = .none := by
    refine hp.trans ?_
    change s.pcc.phase = _
    rw [h.pcc]
    rfl
  rw [hnone]

/-- With the default table a base that is DETACHED has the posture of its second row. -/
theorem choosePosture_default (hrow : s.pcl.row = none) (ht : s.pcl.table = defaultPostures) (hc : s.pcl.cond = .detached)
    (ho : s.oru.committed = .unknown) (ha : s.hau.hinge.angle = none ∨ s.hau.hinge.angle = some 0 ∨ s.hau.hinge.angle = some 5760) :
    choosePosture s = (7, some 1) := by
  unfold choosePosture retest
  rw [hrow, ht]
  simp only [Bool.false_eq_true, if_false, defaultPostures, List.cons_append, scanRows, rowMatches, hc, ho]
  rcases ha with ha | ha | ha
  · rw [ha]; rfl
  · rw [ha]; rfl
  · rw [ha]; rfl

theorem kinds_of_endReset (rail temp : Int) (h : s.Blank) : ∀ g ∈ (endReset rail temp s).2, g.kind ∈ eventKinds := by
  intro g hg
  rcases endReset_hands rail temp h g hg with hg | hg | hg
  · exact (show ∀ k ∈ startKinds, k ∈ eventKinds by decide) _ hg.1
  · rw [hg.1]; decide
  · rw [hg]; decide

/-- A reset keeps the configuration that its blocks hold, and the queue of commands. -/
theorem Ends.resetConfig (rail temp : Int) (h : s.Blank) :
    Ends k (endReset rail temp s).2 (endReset rail temp s).1 fun t =>
      s.SameConfig t ∧ t.sib = s.sib ∧ t.ms = s.ms ∧ t.pending = s.pending := by
  have ho := endReset_only rail temp s (T := [.hau, .pcl, .dlc, .fbf, .sbu, .pcc]) rfl
  have hconf : s.SameConfig (endReset rail temp s).1 :=
    sameConfig_iff_keeps.mp (keeps_endReset (E := fun _ => True) rail temp (sameConfig_iff_keeps.mpr (.refl s)))
  have hq := (endReset_starting rail temp h).queue
  refine Ends.mono (Ends.and (Ends.sameConfig (kinds_of_endReset rail temp h) hq hconf)
    (Ends.only eventKinds
      [.hau, .oru, .pcl, .dlc, .igt, .fbf, .sbu, .pcc, .spu, .psc, .ulp] (by decide) (by decide) (kinds_of_endReset rail temp h) hq)) ?_
  rintro t ⟨⟨h1, h2, -, h4⟩, h5⟩
  exact ⟨h1, h2.trans (ho.sib rfl), h4.trans (ho.ms rfl), (h5.pending rfl).trans (ho.pending rfl)⟩

theorem hallForced_angle (s : State) :
    ((hallForced s).getD Hinge.lost).angle = none ∨ ((hallForced s).getD Hinge.lost).angle = some 0 ∨
      ((hallForced s).getD Hinge.lost).angle = some 5760 := by
  unfold hallForced
  split_ifs
  · exact .inr (.inl rfl)
  · exact .inr (.inr rfl)
  · exact .inl rfl

theorem asserted_default (high : Bool) :
    (switchFromPin Params.default.presencePolarity high).asserted = high ∧
      (switchFromPin Params.default.garagePolarity high).asserted = !high := by
  cases high <;> exact ⟨rfl, rfl⟩

/-- A reset to the defaults, whatever the part has been doing. -/
theorem finish_defaults (c : ResetCause) (pins : Pins) (rail temp : Int) (s : State) :
    ∃ t, finish (endReset rail temp (fullResetBlocks c (sibFromPins pins) s)) = .next t ∧
      State.FreshFrom c pins rail temp s t := by
  generalize hb : fullResetBlocks c (sibFromPins pins) s = b
  have hblank : b.Blank := hb ▸ fullResetBlocks_blank c _ s
  have hstart := endReset_starting rail temp hblank
  have hchoose : choosePosture (firstReadings rail temp (hauAtReset b)).1 = (7, some 1) := by
    have ho : Only [.sbu, .pcc] (hauAtReset b) (firstReadings rail temp (hauAtReset b)).1 := firstReadings_only rail temp _ rfl
    refine choosePosture_default ?_ ?_ ?_ ?_ ?_
    · rw [ho.pcl rfl, ← hb]; rfl
    · rw [ho.pcl rfl, ← hb]; rfl
    · rw [ho.pcl rfl, ← hb]; rfl
    · rw [ho.oru rfl, ← hb]; rfl
    · rw [ho.hau rfl]
      exact hallForced_angle b
  have hsettled : b.pcl.settled b.par.postureDwell (7, some 1) =
      ({ Pcl.atReset defaultPostures with cand := some 7, candRow := some 1, dwell := some 120 }, false) := by
    rw [← hb]; rfl
  have hunruled : (endReset rail temp b).1.Unruled := by
    rw [State.Unruled, endReset_spu, ← hb]
    exact ⟨fun r hr => by rw [List.eq_of_mem_replicate hr]; rfl, rfl⟩
  have hl : ∀ g ∈ (endReset rail temp b).2, g.Starts ∨ g = .spuEval .other := by
    intro g hg
    rcases endReset_hands rail temp hblank g hg with h | h | h
    · exact .inl h
    · rw [hchoose, hsettled] at h
      exact nomatch h.2
    · exact .inr h
  obtain ⟨hrep, hconf, hsib, hms, hpending⟩ :=
    Ends.settle (a := endReset rail temp b) (Ends.and (Ends.started hl hstart hunruled) (Ends.resetConfig rail temp hblank))
  obtain ⟨h1, h2, -, -, h5, h6, -, -, h9, h10, h11, h12, h13, h14⟩ := hconf
  obtain ⟨hreq, hgrant, hpend, hpen, -⟩ := endReset_unbudgeted rail temp hblank
  obtain ⟨hrail, htemp, hphase⟩ := endReset_readings rail temp hblank
  obtain ⟨hpres, -⟩ := asserted_default pins.presence
  obtain ⟨-, hgar⟩ := asserted_default pins.garage
  have hone := endReset_only rail temp b (T := [.hau, .pcl, .dlc, .fbf, .sbu, .pcc]) rfl
  have ho := hrep.only
  have hpcl : (settle (endReset rail temp b)).pcl =
      { Pcl.atReset defaultPostures with cand := some 7, candRow := some 1, dwell := some 120 } := by
    rw [ho.pcl rfl, endReset_pcl, hchoose, hsettled]
  have hsibs : (settle (endReset rail temp b)).sib = sibFromPins pins := by
    rw [hsib, ← hb]; rfl
  refine ⟨_, rfl, ?_, hsibs, ?_, ?_, ?_, ?_, ?_, ?_, ?_, ?_, ?_, ?_, ?_, ?_, ?_, ?_, ?_, ?_, ?_, ?_, ?_, ?_, ?_, ?_, ?_, ?_, ?_, ?_, ?_, ?_,
    ?_, ?_, ?_, ?_, ?_, ?_⟩
  · rw [h1, ← hb]; rfl
  · rw [ho.hau rfl, endReset_hau, hsibs, ← hb]; rfl
  · rw [ho.oru rfl, hone.oru rfl, ← hb]; rfl
  · rw [hpcl]; rfl
  · rw [hpcl]; rfl
  · rw [hpcl]; rfl
  · rw [hpcl]; rfl
  · rw [ho.dlc rfl, endReset_dlc rail temp hblank, ← hb]
    change Dlc.sensed (switchFromPin Params.default.presencePolarity pins.presence).asserted 50 = _
    rw [hpres]
    rfl
  · rw [ho.igt rfl, hone.igt rfl, ← hb]; rfl
  · rw [h6, ← hb]; rfl
  · exact hrep.input.trans hstart.input
  · exact hrep.hold.trans hstart.hold
  · exact hrep.passdown.trans hstart.passdown
  · exact hrep.mirror.trans hstart.mirror
  · rw [ho.sbu rfl, hreq]
  · rw [ho.sbu rfl, hgrant]
  · rw [ho.sbu rfl, hpend]
  · rw [ho.sbu rfl, hpen]
  · rw [ho.sbu rfl, hrail]
  · rw [ho.sbu rfl, htemp]
  · rw [ho.pcc rfl, hphase, ← hb]
    change (if (switchFromPin Params.default.garagePolarity pins.garage).asserted then _ else _) = _
    rw [hgar]
    cases pins.garage <;> rfl
  · rw [h5, ← hb]; rfl
  · rw [ho.spu rfl, endReset_spu, ← hb]; rfl
  · rw [ho.psc rfl, endReset_psc, ← hb]; rfl
  · rw [h13, ← hb]; rfl
  · rw [h14, ← hb]; rfl
  · rw [h9, ← hb]; rfl
  · rw [h10, ← hb]; rfl
  · rw [h11, ← hb]; rfl
  · rw [h12, ← hb]; rfl
  · exact hrep.queue.trans hstart.queue
  · exact hrep.overruns.trans hstart.overruns
  · exact hrep.slot.trans hstart.slot
  · rw [hms, ← hb]; rfl
  · rw [hpending, ← hb]; rfl

end

/-- Settles O4: with the default posture dwell and no rule enabled, what such a reset hands on moves reports only. -/
theorem fullKindResetsGiveDefaults : Obligations.FullKindResetsGiveDefaults := by
  refine ⟨fun r s => ⟨?_, ?_, ?_⟩, fun rail temp s h => ?_⟩
  · exact finish_defaults .powerOn r.pins r.rail r.temp s
  · exact finish_defaults .brownout r.pins r.rail r.temp s
  · exact finish_defaults .pin r.pins r.rail r.temp s
  · have he : fullReset rail temp s = endReset rail temp (fullResetBlocks .fullCommand (sibFromPins s.sib.pins) s) := if_pos h
    obtain ⟨t, ht, hf⟩ := finish_defaults .fullCommand s.sib.pins rail temp s
    exact ⟨t, (congrArg finish he).trans ht, hf⟩

end Sys2Proof.Machine
end

section
/-! PROOFS. The reset state (O3). -/

namespace Sys2Proof.Machine
open Sys2Proof

/-- The blocks of a power-on reset with every switch deasserted and no frame on the line. -/
def State.unpowered (p : List Instr) : State :=
  { State.reset with
    pcl := Pcl.atReset defaultPostures
    sbu := Sbu.atReset
    ulp := Ulp.atReset .powerOn false none (BitVec.allOnes 21) 0 defaultPlatform defaultDriver false
    pending := p }

theorem fullResetBlocks_unpowered (s : State) (h : s.ulp.sending = none) :
    fullResetBlocks .powerOn (sibFromPins ⟨true, true, true, false⟩) s = State.unpowered s.pending := by
  unfold fullResetBlocks
  rw [h]
  rfl

/-- The state at the end of that reset, with START still to be composed. -/
def State.unstarted (p : List Instr) : State :=
  { State.reset with
    ulp := Ulp.atReset .powerOn false none (BitVec.allOnes 21) 0 defaultPlatform defaultDriver false
    pending := p }

theorem endReset_unpowered (p : List Instr) :
    endReset 5000 25 (State.unpowered p) =
      (State.unstarted p, [startReport (State.unpowered p).ulp, .arbiter, .spuEval .other]) := by
  have h1 : hauAtReset (State.unpowered p) = State.unpowered p := rfl
  have h2 : firstReadings 5000 25 (State.unpowered p) = quiet { State.unpowered p with sbu := State.reset.sbu } :=
    takeRail_of_same (s := { State.unpowered p with sbu := { (State.unpowered p).sbu with temp := 25 } }) rfl
  have h3 : postureChoose { State.unpowered p with sbu := State.reset.sbu } = quiet (State.unstarted p) := by
    have hc : choosePosture { State.unpowered p with sbu := State.reset.sbu } = (7, some 1) :=
      choosePosture_default rfl rfl rfl rfl (.inl rfl)
    unfold postureChoose
    rw [hc]
    rfl
  have h4 : dockAtReset (State.unstarted p) = quiet (State.unstarted p) := rfl
  have h5 : penAtReset (State.unstarted p) = quiet (State.unstarted p) := rfl
  unfold endReset
  simp only [h1, Act.andThen, h2, h3, h4, h5, quiet]
  rfl

/-- START stored, before the line takes it. -/
def State.startStored (p : List Instr) : State :=
  { State.unstarted p with
    fbf := { State.reset.fbf with report := [⟨.report, [1, 0, 0, 0, 0, 0, 0, Config.siliconRevision]⟩] } }

theorem start_unstarted (p : List Instr) :
    handle (startReport (State.unpowered p).ulp) (State.unstarted p) = (State.startStored p, [.arbiter]) := by
  have hfree : 3 + 9 ≤ (State.unstarted p).fbf.reportFree := show 3 + 9 ≤ State.reset.fbf.reportFree by decide
  have hoffer := offerReport_of_fits (s := State.unstarted p) .start (f := num1 0 ++ flagField false ++ [Config.siliconRevision]) hfree
  have hpay : reportPayload .start 0 (num1 0 ++ flagField false ++ [Config.siliconRevision]) =
      [1, 0, 0, 0, 0, 0, 0, Config.siliconRevision] := rfl
  have hms : (State.unstarted p).ms = 0 := rfl
  have hstart : startReport (State.unpowered p).ulp = .report .start (num1 0 ++ flagField false ++ [Config.siliconRevision]) := rfl
  rw [hms, hpay] at hoffer
  rw [hstart]
  exact (composeReport_of_alone (s := State.unstarted p) rfl (.inl rfl)).trans hoffer

theorem powerOn_reset (p : List Instr) :
    finish (endReset 5000 25 (State.unpowered p)) = .next { State.reset with pending := p } := by
  rw [endReset_unpowered]
  refine congrArg Host.Outcome.next (Ends.settle_eq ?_)
  have harb : handle .arbiter (State.startStored p) = ({ State.reset with pending := p }, [.reportRemoved]) := rfl
  have hover : handle .reportRemoved { State.reset with pending := p } = quiet { State.reset with pending := p } := rfl
  refine Ends.le (j := 5) (Ends.step (k := 4) (start_unstarted p) (by simp [startReport]) ?_) (by omega)
  refine Ends.step (k := 3) harb (by simp) (Ends.skip (k := 2) hover (by simp) ?_)
  refine Ends.arbiter_busy (k := 1) rfl (Ends.spuEval_unruled (k := 0) ?_ (Ends.nil rfl))
  exact ⟨fun r hr => by rw [List.eq_of_mem_replicate hr]; rfl, rfl⟩

/-- Settles O3: the handovers of that reset are START, its transmission and an evaluation without rules. -/
theorem powerOnGivesSoundResetState : Obligations.PowerOnGivesSoundResetState := by
  refine ⟨fun s hl hr => ?_, ?_⟩
  · have hs : s.ulp.sending = none := by rw [Ulp.sending, hr, hl]
    exact (congrArg (fun b => finish (endReset 5000 25 b)) (fullResetBlocks_unpowered s hs)).trans (powerOn_reset s.pending)
  · refine ⟨?_, ?_, ?_, ?_, ?_, ?_, ?_, ?_, ?_⟩
    · decide
    · decide
    · decide
    · decide
    · decide
    · decide
    · decide
    · exact (State.paramsSound_iff _).mpr ⟨paramsInRange_default, Nat.zero_le _⟩
    · exact tablesSound_default rfl rfl rfl rfl

end Sys2Proof.Machine
end

section
/-! PROOFS. The soft reset (O5). -/

namespace Sys2Proof.Machine
open Sys2Proof

section
variable {s t u : State} {k : Nat} {l : List Signal} {Q : State → Prop}

/-- The handovers of a soft reset: those of every reset, a posture commit, an evaluation of the rules that stand, and what
they hand on. -/
def Signal.Resumes (g : Signal) : Prop :=
  g.Starts ∨ g.kind ∈ [.pclCommit, Kind.igtCommit, Kind.spuEval, .spuAction, .headStep, Kind.holdCheck] ∨
    ∃ old new, g = .pscHost old new ∧ new.dozes = false

/-- `t` is `s` after handovers of a soft reset. -/
structure Resumed (s t : State) : Prop where
  only : Only [.pcl, .igt, .fbf, .spu, .psc, .ulp] s t
  entries : t.igt.entries = s.igt.entries
  starting : t.Starting

theorem resumed_of_reported (h : s.Starting) (h' : Reported s t) : Resumed s t :=
  ⟨h'.only.mono rfl, congrArg Igt.entries (h'.only.igt rfl), h.reported h'⟩

theorem resumes_of_report {r : ReportKind} (hr : r ≠ .forceCut) (f : List Byte) : (Signal.report r f).Resumes :=
  .inl (starts_of_upstream (by simp [Signal.kind, hr]))

/-- The host moves between RUNNING and ADVISED. -/
theorem resumes_of_hostSignals {old new : HostState} (ho : old = .running ∨ old = .advised) (hn : new = .running ∨ new = .advised) :
    ∀ g ∈ hostSignals old new, g.Resumes := by
  have he : hostSignals old new = [.pscHost old new, .spuEval .host] := by
    rcases ho with rfl | rfl <;> rcases hn with rfl | rfl <;> rfl
  have hd : new.dozes = false := by
    rcases hn with rfl | rfl <;> rfl
  intro g hg
  rw [he] at hg
  rcases List.mem_cons.mp hg with rfl | hg
  · exact .inr (.inr ⟨old, new, rfl, hd⟩)
  · rw [List.mem_singleton.mp hg]
    exact .inr (.inl (by decide))

/-- A change of the SPU's record that leaves the host RUNNING or ADVISED and begins no cut. -/
theorem resumed_spu (h : s.Starting) {b : Spu} (hh : b.host = .running ∨ b.host = .advised) (hc : b.cutStage = .none) :
    Resumed s { s with spu := b } :=
  ⟨rfl, rfl, { h with host := hh, cut := hc }⟩

theorem Resumed.trans (h : Resumed s t) (h' : Resumed t u) : Resumed s u :=
  ⟨h.only.trans h'.only, h'.entries.trans h.entries, h'.starting⟩

theorem Resumed.refl (h : s.Starting) : Resumed s s := ⟨Only.refl _ _, rfl, h⟩

/-- The evaluation of the rules withdraws advice, and begins an episode. -/
theorem withdraw_resumed (h : s.Starting) (c : WithdrawCause) (g : Option Nat) :
    Resumed s (withdraw c g s).1 ∧ ∀ x ∈ (withdraw c g s).2, x.Resumes := by
  refine ⟨resumed_spu h (.inl rfl) h.cut, fun x hx => ?_⟩
  rcases List.mem_cons.mp hx with rfl | hx
  · exact resumes_of_report (by decide) _
  · exact resumes_of_hostSignals h.host (.inl rfl) x hx

theorem beginEpisode_resumed (h : s.Starting) (g : Option Nat) :
    Resumed s (beginEpisode g s).1 ∧ ∀ x ∈ (beginEpisode g s).2, x.Resumes := by
  unfold beginEpisode
  split
  · exact ⟨resumed_spu h h.host h.cut, nofun⟩
  · dsimp only
    split
    · exact ⟨resumed_spu h h.host h.cut, fun x hx => by rw [List.mem_singleton.mp hx]; exact .inr (.inl (by decide))⟩
    · exact ⟨resumed_spu h h.host h.cut, nofun⟩

/-- One effect after another. -/
theorem andThen_resumed {a : Act} {f : State → Act} (ha : Resumed s a.1 ∧ ∀ x ∈ a.2, x.Resumes)
    (hf : Resumed a.1 (f a.1).1 ∧ ∀ x ∈ (f a.1).2, x.Resumes) :
    Resumed s (a.andThen f).1 ∧ ∀ x ∈ (a.andThen f).2, x.Resumes :=
  ⟨ha.1.trans hf.1, fun x hx => (List.mem_append.mp hx).elim (ha.2 x) (hf.2 x)⟩

theorem spuEvaluate_resumed (h : s.Starting) (c : SpuTrigger) :
    Resumed s (spuEvaluate c s).1 ∧ ∀ x ∈ (spuEvaluate c s).2, x.Resumes := by
  have hquiet : Resumed s (quiet s).1 ∧ ∀ x ∈ (quiet s).2, x.Resumes := ⟨.refl h, nofun⟩
  have hbegin : ∀ {a : Act} (g : Option Nat), (Resumed s a.1 ∧ ∀ x ∈ a.2, x.Resumes) →
      Resumed s (a.andThen (beginEpisode g)).1 ∧ ∀ x ∈ (a.andThen (beginEpisode g)).2, x.Resumes :=
    fun g ha => andThen_resumed ha (beginEpisode_resumed ha.1.starting g)
  unfold spuEvaluate
  dsimp only
  split
  · refine hbegin _ ?_
    split
    · exact withdraw_resumed h _ _
    · exact hquiet
  · split
    · refine hbegin _ ?_
      split
      · exact withdraw_resumed h _ _
      · exact hquiet
    · exact hquiet

/-- With no cut, a wake request of a host that is RUNNING or ADVISED withdraws advice at most. -/
theorem wakeRequest_resumed (h : s.Starting) (src : WakeSource) :
    Resumed s (wakeRequest src s).1 ∧ ∀ x ∈ (wakeRequest src s).2, x.Resumes := by
  unfold wakeRequest
  rw [if_neg (by rw [h.cut]; decide)]
  rcases h.host with hh | hh
  · rw [hh]
    exact ⟨.refl h, nofun⟩
  · rw [hh]
    exact withdraw_resumed h _ _

theorem adviseSleep_resumed (h : s.Starting) (i : Nat) :
    Resumed s (adviseSleep i s).1 ∧ ∀ x ∈ (adviseSleep i s).2, x.Resumes := by
  unfold adviseSleep
  split
  · refine ⟨resumed_spu h (.inr rfl) h.cut, fun x hx => ?_⟩
    rcases List.mem_cons.mp hx with rfl | hx
    · exact resumes_of_report (by decide) _
    · exact resumes_of_hostSignals (.inl rfl) (.inr rfl) x hx
  · exact ⟨.refl h, nofun⟩

theorem spuAction_resumed (h : s.Starting) : Resumed s (spuAction s).1 ∧ ∀ x ∈ (spuAction s).2, x.Resumes := by
  unfold spuAction
  split
  · exact ⟨.refl h, nofun⟩
  · split
    · exact ⟨.refl h, nofun⟩
    · have hfired : Resumed s { s with spu := { s.spu with fired := true, dwell := none } } := resumed_spu h h.host h.cut
      dsimp only
      split
      · obtain ⟨h1, h2⟩ := adviseSleep_resumed hfired.starting _
        exact ⟨hfired.trans h1, h2⟩
      · obtain ⟨h1, h2⟩ := wakeRequest_resumed hfired.starting _
        exact ⟨hfired.trans h1, h2⟩
      · exact ⟨hfired, nofun⟩

/-! ### The gate with nothing held and no key down -/

/-- A change of the gate's record that leaves no key down and nothing pending. -/
theorem resumed_igt (h : s.Starting) {g : Igt} (he : g.entries = s.igt.entries) (hk : g.keys = []) (hp : g.pend = []) :
    Resumed s { s with igt := g } :=
  ⟨rfl, he, { h with keys := hk, pend := hp }⟩

theorem synthesize_nothing (hk : s.igt.keys = []) (hp : s.igt.pend = []) (hh : s.fbf.hold = []) : synthesize s = s := by
  have hm : s.igt.markAll = s.igt := by
    have hnone : s.igt.pend ++ (s.igt.keys.filter fun c => !s.igt.pend.any fun p => p.code == c).map (fun c => ⟨c, .synth⟩) =
        s.igt.pend := by
      rw [hk, hp]
      rfl
    rw [Igt.markAll, hnone]
  have hs : s.setHold [] = s := by rw [State.setHold, ← hh]
  unfold synthesize
  simp only [hm, hh, List.filter_nil, hs, hp, queuePending]

theorem gateCommit_resumed (h : s.Starting) (c : Nat) :
    Resumed s (gateCommit c s).1 ∧ ∀ x ∈ (gateCommit c s).2, x.Resumes := by
  have hmiss : Resumed s { s with igt := { s.igt with missing := false } } := resumed_igt h rfl h.keys h.pend
  have hsynth : synthesize { s with igt := { s.igt with missing := false } } = { s with igt := { s.igt with missing := false } } :=
    synthesize_nothing h.keys h.pend h.hold
  have harb : ∀ x ∈ [Signal.arbiter], x.Resumes := fun x hx => by
    rw [List.mem_singleton.mp hx]
    exact .inl (starts_of_upstream (by decide))
  unfold gateCommit
  dsimp only
  rw [hsynth]
  have hfirst : ∀ b : Bool, Resumed s (if b then (({ s with igt := { s.igt with missing := false } } : State), [Signal.arbiter])
        else quiet { s with igt := { s.igt with missing := false } }).1 ∧
      ∀ x ∈ (if b then (({ s with igt := { s.igt with missing := false } } : State), [Signal.arbiter])
        else quiet { s with igt := { s.igt with missing := false } }).2, x.Resumes := by
    intro b
    cases b
    · exact ⟨hmiss, nofun⟩
    · exact ⟨hmiss, harb⟩
  split
  · refine andThen_resumed (hfirst _) ⟨?_, ?_⟩
    · exact resumed_igt (hfirst _).1.starting rfl (hfirst _).1.starting.keys (hfirst _).1.starting.pend
    · intro x hx
      rw [List.mem_singleton.mp hx]
      exact .inr (.inl (by decide))
  · refine andThen_resumed (hfirst _) ⟨.refl (hfirst _).1.starting, ?_⟩
    intro x hx
    change x ∈ (if _ then _ else _) at hx
    split at hx
    · rw [List.mem_singleton.mp hx]
      exact .inr (.inl (by simp [Signal.kind]))
    · exact nomatch hx

theorem headStep_resumed (h : s.Starting) : Resumed s (headStep s).1 ∧ ∀ x ∈ (headStep s).2, x.Resumes := by
  unfold headStep
  split
  · exact ⟨.refl h, nofun⟩
  · rw [h.hold]
    refine ⟨resumed_igt h rfl h.keys h.pend, fun x hx => ?_⟩
    rw [List.mem_singleton.mp hx]
    exact .inr (.inl (by decide))

theorem holdCheck_resumed (h : s.Starting) (b : Bool) : Resumed s (holdCheck b s).1 ∧ ∀ x ∈ (holdCheck b s).2, x.Resumes := by
  unfold holdCheck
  rw [h.hold]
  exact ⟨resumed_igt h rfl h.keys h.pend, nofun⟩

theorem postureCommit_resumed (h : s.Starting) : Resumed s (postureCommit s).1 ∧ ∀ x ∈ (postureCommit s).2, x.Resumes := by
  unfold postureCommit
  split
  · exact ⟨.refl h, nofun⟩
  · refine ⟨⟨rfl, rfl, { h with base := h.base }⟩, fun x hx => ?_⟩
    simp only [List.mem_cons, List.not_mem_nil, or_false] at hx
    rcases hx with rfl | rfl | rfl
    · exact resumes_of_report (by decide) _
    · exact .inr (.inl (by simp [Signal.kind]))
    · exact .inr (.inl (by decide))

theorem resuming_handle {g : Signal} (h : s.Starting) (hg : g.Resumes) :
    Resumed s (handle g s).1 ∧ ∀ x ∈ (handle g s).2, x.Resumes := by
  rcases hg with hg | hg | ⟨old, new, rfl, hn⟩
  · obtain ⟨h1, h2⟩ := starting_handle h hg
    exact ⟨resumed_of_reported h h1, fun x hx => .inl (h2 x hx)⟩
  · cases g
    case pclCommit => exact postureCommit_resumed h
    case igtCommit c => exact gateCommit_resumed h c
    case spuEval c => exact spuEvaluate_resumed h c
    case spuAction => exact spuAction_resumed h
    case headStep => exact headStep_resumed h
    case holdCheck b => exact holdCheck_resumed h b
    case report r f => by_cases hr : r = .forceCut <;> simp [Signal.kind, hr] at hg
    all_goals simp [Signal.kind] at hg
  · have he : handle (.pscHost old new) s = quiet { s with psc := { s.psc with doze := none } } := hostChanged_of_run h.power hn
    rw [he]
    exact ⟨⟨rfl, rfl, { h with power := h.power }⟩, nofun⟩

/-- The handovers of a soft reset. -/
theorem Ends.resumed (hl : ∀ g ∈ l, g.Resumes) (h : s.Starting) : Ends k l s (Resumed s) :=
  Ends.of_keeps Signal.Resumes (Resumed s)
    (fun _ _ hg ht => ⟨ht.trans (resuming_handle ht.starting hg).1, (resuming_handle ht.starting hg).2⟩) hl (.refl h) fun _ ht => ht

theorem exec_softReset (rail temp : Int) (h : s.ulp.resetDue = some .soft) :
    ∃ t, exec (.softReset rail temp) s = .next t ∧ Resumed (endReset rail temp (softResetBlocks s)).1 t ∧
      (softResetBlocks s).SameConfig t ∧ t.sib = s.sib ∧ t.ms = 0 ∧ t.pending = s.pending := by
  have he : softReset rail temp s = endReset rail temp (softResetBlocks s) := if_pos h
  have hb := softResetBlocks_blank s
  have hl : ∀ g ∈ (endReset rail temp (softResetBlocks s)).2, g.Resumes := by
    intro g hg
    rcases endReset_hands rail temp hb g hg with h | ⟨rfl, -⟩ | rfl
    · exact .inl h
    · exact .inr (.inl (by decide))
    · exact .inr (.inl (by decide))
  exact ⟨_, congrArg finish he, Ends.settle (a := endReset rail temp (softResetBlocks s))
    (Ends.and (Ends.resumed hl (endReset_starting rail temp hb)) (Ends.resetConfig rail temp hb))⟩

end

/-- Settles O5: what the end of a soft reset hands on, the rules that stand and a posture commit among it, finds no key down,
nothing held and no frame of the base. -/
theorem softResetKeepsConfiguration : Obligations.SoftResetKeepsConfiguration := by
  refine ⟨fun rail temp s h => ?_, fun rail temp s => ⟨fun h => ?_, fun h => ?_⟩⟩
  · obtain ⟨t, ht, ⟨ho, hentries, hstart⟩, hconf, hsib, hms, hpending⟩ := exec_softReset rail temp h
    obtain ⟨h1, h2, h3, h4, h5, h6, h7, h8, h9, h10, h11, h12, h13, h14⟩ := hconf
    have hb := softResetBlocks_blank s
    have hone := endReset_only rail temp (softResetBlocks s) (T := [.hau, .pcl, .dlc, .fbf, .sbu, .pcc]) rfl
    have hdlc : t.dlc = Dlc.sensed s.sib.presence.asserted s.par.settleTime := (ho.dlc rfl).trans (endReset_dlc rail temp hb)
    have hhau : t.hau = (hauAtReset (softResetBlocks s)).hau := (ho.hau rfl).trans (endReset_hau rail temp _)
    refine ⟨t, ht, hsib, h1, h2, h3, ?_, hstart.keys, hstart.pend, h4, h8, h5, h6, hstart.input, hstart.hold, hstart.passdown,
      hstart.mirror, ?_, ?_, hstart.cond, ?_, ?_, hstart.grant, h9, h10, h11, h12, h13, h14, hstart.queue, hms, hpending⟩
    · exact hentries.trans (congrArg Igt.entries (hone.igt rfl :) :)
    · exact (ho.oru rfl).trans (hone.oru rfl)
    · rw [hhau]; rfl
    · rw [hdlc]
      cases s.sib.presence.asserted <;> rfl
    · rw [hdlc]
      cases s.sib.presence.asserted <;> rfl
  · have he : fullReset rail temp s = quiet s := if_neg h
    exact (congrArg finish he).trans (finish_quiet s)
  · have he : softReset rail temp s = quiet s := if_neg h
    exact (congrArg finish he).trans (finish_quiet s)

end Sys2Proof.Machine
end

section
/-! PROOFS. An evaluation of the sleep rules with all it hands on, in RUN over an empty Hold area. -/

namespace Sys2Proof.Machine
open Sys2Proof

section
variable {s t u : State} {k c : Nat} {l m x : List Signal} {Q P E : State → Prop}

/-! ### What an evaluation leaves -/

/-- In RUN, no command waits and nothing is held. -/
structure State.Runs (s : State) : Prop where
  power : s.psc.power = .run
  queue : s.ulp.queue = []
  hold : s.fbf.hold = []

theorem State.Runs.still (h : s.Runs) : s.Still := ⟨h.queue, .inr h.hold⟩

/-- `t` is `s` after an evaluation of the rules: the host, its lines and the traffic may have moved, and the idle count may have
restarted. -/
structure Ruled (s t : State) : Prop where
  only : Only [.igt, .fbf, .spu, .psc, .ulp] s t
  hold : t.fbf.hold = s.fbf.hold
  passdown : t.fbf.passdown = s.fbf.passdown
  queue : t.ulp.queue = s.ulp.queue
  power : t.psc.power = s.psc.power
  rules : t.spu.rules = s.spu.rules
  idle : t.igt.idle = s.igt.idle ∨ t.igt.idle = 0

theorem Ruled.refl (s : State) : Ruled s s := ⟨Only.refl _ _, rfl, rfl, rfl, rfl, rfl, .inl rfl⟩

theorem Ruled.trans (h : Ruled s t) (h' : Ruled t u) : Ruled s u := by
  refine ⟨h.only.trans h'.only, h'.hold.trans h.hold, h'.passdown.trans h.passdown, h'.queue.trans h.queue,
    h'.power.trans h.power, h'.rules.trans h.rules, ?_⟩
  rcases h'.idle with hi | hi
  · rw [hi]
    exact h.idle
  · exact .inr hi

theorem Ruled.of_upstream (h : Upstream s t) : Ruled s t :=
  ⟨h.only.mono rfl, h.hold, h.passdown, h.queue, by rw [h.psc], by rw [h.spu], h.idle⟩

theorem ruled_spu {b : Spu} (h : b.rules = s.spu.rules) : Ruled s { s with spu := b } := ⟨rfl, rfl, rfl, rfl, rfl, h, .inl rfl⟩

theorem State.Runs.ruled (h : s.Runs) (h' : Ruled s t) : t.Runs :=
  ⟨h'.power.trans h.power, h'.queue.trans h.queue, h'.hold.trans h.hold⟩

/-- The governing rule turns on the idle count only. -/
theorem governingRule_ruled (h : Ruled s t) (hi : t.igt.idle = s.igt.idle) : governingRule t = governingRule s := by
  have hr : ruleHolds t = ruleHolds s := by
    funext r
    unfold ruleHolds
    rw [h.only.pcl rfl, h.only.sib rfl, h.only.pcc rfl, h.only.sbu rfl, hi]
  rw [governingRule, governingRule, hr, h.rules]

/-- The governing rule of the record is the one that governs. -/
def State.Synced (s : State) : Prop := s.spu.governing = governingRule s

theorem synced_spu {b : Spu} (hr : b.rules = s.spu.rules) (hg : b.governing = governingRule s) :
    State.Synced { s with spu := b } := hg.trans (governingRule_ruled (ruled_spu hr) rfl).symm

/-! ### A change of the host state -/

/-- The reports and the lines of a change of the host state, up to the evaluation that it triggers. -/
theorem Ends.hostRuled {r : ReportKind} {f : List Byte} {old new : HostState} (hr : r ≠ .forceCut) (hs : s.Runs)
    (hheld : old.held = true → new.held = true) (hn : new.dozes = false)
    (h : ∀ u x, Ruled s u → u.spu = s.spu → (∀ y ∈ x, y = Signal.serve) → Ends k (.spuEval .host :: (l ++ x)) u Q) :
    Ends (k + 13) (.report r f :: (hostSignals old new ++ l)) s Q := by
  have hpsc : ∀ (v : State) (x : List Signal), Ruled s v → v.spu = s.spu → (∀ y ∈ x, y = Signal.serve) →
      Ends (k + 1) (.pscHost old new :: .spuEval .host :: (l ++ x)) v Q := fun v x hv hspu hx =>
    Ends.step (hostChanged_of_run (hv.power.trans hs.power) hn) (by simp)
      (h _ x (hv.trans ⟨rfl, rfl, rfl, rfl, rfl, rfl, .inl rfl⟩) hspu hx)
  refine Ends.upstream (k := k + 2) (by simpa [Signal.isUpstream] using hr) hs.still fun v hv => ?_
  have hv' := Ruled.of_upstream hv
  unfold hostSignals
  cases ho : old.held <;> cases hw : new.held
  · have := hpsc v [] hv' hv.spu nofun
    rw [List.append_nil] at this
    exact Ends.le this (by omega)
  · have := hpsc (beginHold v).1 [.serve] (hv'.trans ⟨rfl, rfl, rfl, rfl, rfl, rfl, .inl rfl⟩) hv.spu (by simp)
    exact Ends.holdBegin (k := k + 1) this
  · exact (nomatch hw.symm.trans (hheld ho))
  · have := hpsc v [] hv' hv.spu nofun
    rw [List.append_nil] at this
    exact Ends.le this (by omega)

/-! ### Episodes and actions -/

/-- An action finds the host where it has nothing to do. -/
def SleepAction.Rests (a : SleepAction) (h : HostState) (cut : CutStage) : Prop :=
  match a with
  | .adviseSleep => h ≠ .running
  | .adviseWake => cut ≠ .none ∨ h = .running ∨ h = .waking
  | .keepAwake => True

/-- The governing rule's action has nothing to do. -/
def State.Resting (s : State) : Prop :=
  ∀ i, s.spu.governing = some i → (s.spu.rules.getD i defaultRule).action.Rests s.spu.host s.spu.cutStage

theorem spuAction_of_resting (h : s.Resting) :
    ∃ b : Spu, spuAction s = quiet { s with spu := b } ∧ b.rules = s.spu.rules ∧ b.governing = s.spu.governing := by
  unfold spuAction
  cases hg : s.spu.governing with
  | none => exact ⟨s.spu, rfl, rfl, hg⟩
  | some i =>
    dsimp only
    split
    · exact ⟨s.spu, rfl, rfl, hg⟩
    · have hi := h i hg
      refine ⟨if s.spu.cutStage ≠ .none ∧ (s.spu.rules.getD i defaultRule).action = .adviseWake then
          { s.spu with fired := true, dwell := none, pendingWake := some (.rule i) }
        else { s.spu with fired := true, dwell := none }, ?_, ?_, ?_⟩
      · cases ha : (s.spu.rules.getD i defaultRule).action with
        | adviseSleep =>
          rw [ha] at hi
          dsimp only
          rw [adviseSleep, if_neg (by exact hi), if_neg (by simp)]
        | adviseWake =>
          rw [ha] at hi
          dsimp only
          rw [wakeRequest]
          by_cases hc : s.spu.cutStage = .none
          · rw [if_neg (by simpa using hc), if_neg (by simp [hc])]
            rcases hi with hi | hi | hi
            · exact absurd hc hi
            · dsimp only; rw [hi]
            · dsimp only; rw [hi]
          · rw [if_pos (by simpa using hc), if_pos ⟨hc, rfl⟩]
        | keepAwake =>
          dsimp only
          rw [if_neg (by simp)]
      · split <;> rfl
      · split <;> exact hg

/-- A new episode: the record, and the action at a dwell of 0. -/
theorem beginEpisode_cases (g : Option Nat) (s : State) :
    ∃ (b : Spu) (m : List Signal), beginEpisode g s = ({ s with spu := b }, m) ∧ b.rules = s.spu.rules ∧ b.governing = g ∧
      b.host = s.spu.host ∧ b.cutStage = s.spu.cutStage ∧ (m = [] ∨ m = [.spuAction]) := by
  unfold beginEpisode
  split
  · exact ⟨_, _, rfl, rfl, rfl, rfl, rfl, .inl rfl⟩
  · dsimp only
    split
    · exact ⟨_, _, rfl, rfl, rfl, rfl, rfl, .inr rfl⟩
    · exact ⟨_, _, rfl, rfl, rfl, rfl, rfl, .inl rfl⟩

/-- The evaluation at a change of the host state renews the episode of the rule that goes on governing. -/
theorem spuEvaluate_of_synced (h : s.Synced) : spuEvaluate .host s = beginEpisode s.spu.governing s ∨ spuEvaluate .host s = quiet s := by
  unfold spuEvaluate
  dsimp only
  rw [if_neg (by rw [← h]; simp)]
  split
  · left
    simp only [SpuTrigger.writes, Bool.false_eq_true, false_and, and_false, if_false, ← h.symm, Act.andThen, quiet, List.nil_append]
  · exact .inr rfl

/-- What the governing rule's action does where it has something to do: one change of the host state, after which it rests. -/
theorem spuAction_cases (s : State) :
    (∃ b : Spu, spuAction s = quiet { s with spu := b } ∧ b.rules = s.spu.rules ∧ b.governing = s.spu.governing) ∨
      ∃ (b : Spu) (r : ReportKind) (f : List Byte) (old new : HostState),
        spuAction s = ({ s with spu := b }, .report r f :: hostSignals old new) ∧ r ≠ .forceCut ∧
          (old.held = true → new.held = true) ∧ new.dozes = false ∧ b.rules = s.spu.rules ∧ b.governing = s.spu.governing ∧
          State.Resting { s with spu := b } := by
  by_cases hrest : s.Resting
  · exact .inl (spuAction_of_resting hrest)
  by_cases hfired : s.spu.fired = true
  · left
    refine ⟨s.spu, ?_, rfl, rfl⟩
    unfold spuAction
    rw [hfired]
    cases s.spu.governing <;> rfl
  · obtain ⟨i, hi⟩ := not_forall.mp hrest
    obtain ⟨hg, hact⟩ := Classical.not_imp.mp hi
    right
    have hrests : ∀ {b : Spu} {h : HostState}, b.rules = s.spu.rules → b.governing = s.spu.governing → b.host = h →
        (∀ cut, (s.spu.rules.getD i defaultRule).action.Rests h cut) → State.Resting { s with spu := b } := by
      intro b h h1 h2 h3 h4 j hj
      have hij : j = i := by
        have : b.governing = some j := hj
        rw [h2, hg] at this
        exact (Option.some.inj this).symm
      subst hij
      change (b.rules.getD j defaultRule).action.Rests b.host b.cutStage
      rw [h1, h3]
      exact h4 _
    unfold spuAction
    rw [hg]
    simp only [hfired, Bool.false_eq_true, if_false]
    cases ha : (s.spu.rules.getD i defaultRule).action with
    | keepAwake => rw [ha] at hact; exact (hact trivial).elim
    | adviseSleep =>
      rw [ha] at hact
      have hrun : s.spu.host = .running := not_not.mp hact
      dsimp only
      rw [adviseSleep, if_pos (by exact hrun)]
      refine ⟨_, _, _, _, _, rfl, by decide, nofun, rfl, rfl, hg.symm ▸ rfl, hrests rfl rfl rfl fun _ => ?_⟩
      rw [ha]
      exact nofun
    | adviseWake =>
      rw [ha] at hact
      have hcut : s.spu.cutStage = .none := by
        by_contra h
        exact hact (.inl h)
      dsimp only
      rw [wakeRequest, if_neg (by simp [hcut])]
      cases hh : s.spu.host with
      | running => exact (hact (.inr (.inl hh))).elim
      | waking => exact (hact (.inr (.inr hh))).elim
      | advised =>
        dsimp only
        refine ⟨_, _, _, _, _, rfl, by decide, ?_, rfl, rfl, hg.symm ▸ rfl, hrests rfl rfl rfl fun _ => ?_⟩
        · exact nofun
        · rw [ha]; exact .inr (.inl rfl)
      | sleeping | entering | off =>
        dsimp only
        refine ⟨_, _, _, _, _, rfl, by decide, fun _ => rfl, rfl, rfl, hg.symm ▸ rfl, hrests rfl rfl rfl fun _ => ?_⟩
        rw [ha]; exact .inr (.inr rfl)

/-! ### The chain of evaluations -/

/-- What is to be run goes on from every state that an evaluation leaves. -/
def Onward (k : Nat) (l : List Signal) (Q : State → Prop) (s : State) : Prop :=
  ∀ t x, Ruled s t → (∀ y ∈ x, y = Signal.serve) → t.Synced → Ends k (l ++ x) t Q

theorem Onward.ruled (h : Onward k l Q s) (hu : Ruled s u) (hx : ∀ y ∈ x, y = Signal.serve) : Onward k (l ++ x) Q u := by
  intro t x' ht hx' hs
  rw [List.append_assoc]
  exact h t (x ++ x') (hu.trans ht) (fun y hy => (List.mem_append.mp hy).elim (hx y) (hx' y)) hs

theorem Onward.here (h : Onward k l Q s) (hs : s.Synced) : Ends k l s Q := by
  have := h s [] (.refl s) nofun hs
  rwa [List.append_nil] at this

/-- From the states of a class, an evaluation or an action ends within a count of handovers. -/
def Ruling (c : Nat) (E : State → Prop) : Prop :=
  ∀ (k : Nat) (l : List Signal) (s : State) (Q : State → Prop) (g : Signal), s.Runs → E s →
    (g = .spuEval .host ∨ g = .spuEval .other ∨ g = .spuAction ∧ s.Synced) → Onward k l Q s → Ends (k + c) (g :: l) s Q

/-- Within a class `P` the governing rule stays the same, or the state falls into a class from which the end is near. -/
structure Escaping (c : Nat) (P E : State → Prop) : Prop where
  keeps : ∀ s u, P s → Ruled s u → P u
  keepsE : ∀ s u, E s → Ruled s u → E u
  escapes : ∀ s u, P s → Ruled s u → u.igt.idle = s.igt.idle ∨ E u
  ruling : Ruling c E

/-- The evaluation of a rule that goes on governing, whose action rests. -/
theorem Ends.rested (hs : s.Synced) (hr : s.Resting) (h : Onward k l Q s) : Ends (k + 2) (.spuEval .host :: l) s Q := by
  rcases spuEvaluate_of_synced hs with he | he
  · obtain ⟨b, m, hb, hrules, hgov, hhost, hcut, hm⟩ := beginEpisode_cases s.spu.governing s
    have hstep : handle (.spuEval .host) s = ({ s with spu := b }, m) := he.trans hb
    have hsync : State.Synced { s with spu := b } := synced_spu hrules (hgov.trans hs)
    rcases hm with rfl | rfl
    · have hfin := h { s with spu := b } [] (ruled_spu hrules) nofun hsync
      rw [List.append_nil] at hfin
      exact Ends.le (Ends.step (k := k) hstep (by simp) hfin) (by omega)
    · have hrest : State.Resting { s with spu := b } := by
        intro i hi
        change (b.rules.getD i defaultRule).action.Rests b.host b.cutStage
        rw [hrules, hhost, hcut]
        exact hr i (hgov ▸ hi)
      obtain ⟨b', hb', hrules', hgov'⟩ := spuAction_of_resting hrest
      have hrules2 : b'.rules = s.spu.rules := hrules'.trans hrules
      have hfin := h { s with spu := b' } [] (ruled_spu hrules2) nofun
        (synced_spu hrules2 ((hgov'.trans hgov).trans hs))
      rw [List.append_nil] at hfin
      exact Ends.step hstep (by simp) (Ends.step hb' (by simp) hfin)
  · exact Ends.le (Ends.skip he (by simp) (h.here hs)) (by omega)

/-- A change of the host state after which the action rests. -/
theorem Ends.hostRested {r : ReportKind} {f : List Byte} {old new : HostState} (he : Escaping c P E) (hs : s.Runs) (hP : P s)
    (hsync : s.Synced) (hrest : s.Resting) (hr : r ≠ .forceCut) (hheld : old.held = true → new.held = true)
    (hn : new.dozes = false) (h : Onward k l Q s) : Ends (k + c + 15) (.report r f :: (hostSignals old new ++ l)) s Q := by
  refine Ends.le (Ends.hostRuled (k := k + c + 2) hr hs hheld hn fun u x hu hspu hx => ?_) (by omega)
  have hon := h.ruled hu hx
  rcases he.escapes s u hP hu with hi | hE
  · have hsyncu : u.Synced := by rw [State.Synced, hspu, governingRule_ruled hu hi]; exact hsync
    have hrestu : u.Resting := by rw [State.Resting, hspu]; exact hrest
    exact Ends.le (Ends.rested hsyncu hrestu hon) (by omega)
  · exact Ends.le (he.ruling k (l ++ x) u Q _ (hs.ruled hu) hE (.inl rfl) hon) (by omega)

/-- The action of the rule that governs. -/
theorem Ends.acted (he : Escaping c P E) (hs : s.Runs) (hP : P s) (hsync : s.Synced) (h : Onward k l Q s) :
    Ends (k + c + 16) (.spuAction :: l) s Q := by
  rcases spuAction_cases s with ⟨b, hb, hrules, hgov⟩ | ⟨b, r, f, old, new, hb, hr, hheld, hn, hrules, hgov, hrest⟩
  · have hfin := h { s with spu := b } [] (ruled_spu hrules) nofun (synced_spu hrules (hgov.trans hsync))
    rw [List.append_nil] at hfin
    exact Ends.le (Ends.step (k := k) (new := []) hb (by simp) hfin) (by omega)
  · have hr1 : Ruled s { s with spu := b } := ruled_spu hrules
    have hon := h.ruled hr1 (x := []) nofun
    rw [List.append_nil] at hon
    exact Ends.step hb (by simp) (Ends.hostRested he (hs.ruled hr1) (he.keeps _ _ hP hr1)
      (synced_spu hrules (hgov.trans hsync)) hrest hr hheld hn hon)

/-- What an episode begins with. -/
theorem Ends.episode (he : Escaping c P E) (hm : m = [] ∨ m = [.spuAction]) (hs : s.Runs) (hP : P s) (hsync : s.Synced)
    (h : Onward k l Q s) : Ends (k + c + 16) (m ++ l) s Q := by
  rcases hm with rfl | rfl
  · exact Ends.le (h.here hsync) (by omega)
  · exact Ends.acted he hs hP hsync h

theorem Ends.evaluatedHost (he : Escaping c P E) (hs : s.Runs) (hP : P s) (hsync : s.Synced) (h : Onward k l Q s) :
    Ends (k + c + 17) (.spuEval .host :: l) s Q := by
  rcases spuEvaluate_of_synced hsync with hv | hv
  · obtain ⟨b, m, hb, hrules, hgov, -, -, hm⟩ := beginEpisode_cases s.spu.governing s
    have hr1 : Ruled s { s with spu := b } := ruled_spu hrules
    have hon := h.ruled hr1 (x := []) nofun
    rw [List.append_nil] at hon
    exact Ends.step (hv.trans hb) (by simp) (Ends.episode he hm (hs.ruled hr1) (he.keeps _ _ hP hr1)
      (synced_spu hrules (hgov.trans hsync)) hon)
  · exact Ends.le (Ends.skip hv (by simp) (h.here hsync)) (by omega)

/-- An evaluation that is no write of a rule: advice of another rule is withdrawn, then an episode begins. -/
theorem spuEvaluate_cases {a : SpuTrigger} (ha : a.writes = false) (s : State) :
    (∃ (b : Spu) (m : List Signal), spuEvaluate a s = ({ s with spu := b }, m) ∧ b.rules = s.spu.rules ∧
        b.governing = governingRule s ∧ (m = [] ∨ m = [.spuAction])) ∨
      ∃ (b : Spu) (f : List Byte) (m : List Signal),
        spuEvaluate a s = ({ s with spu := b }, .report .adviceWithdrawn f :: (hostSignals .advised .running ++ m)) ∧
          b.rules = s.spu.rules ∧ b.governing = governingRule s ∧ (m = [] ∨ m = [.spuAction]) := by
  have hbegin : ∀ g, g = governingRule s → ∃ (b : Spu) (m : List Signal), (quiet s).andThen (beginEpisode g) = ({ s with spu := b }, m) ∧
      b.rules = s.spu.rules ∧ b.governing = governingRule s ∧ (m = [] ∨ m = [.spuAction]) := by
    rintro g rfl
    obtain ⟨b, m, hb, hrules, hgov, -, -, hm⟩ := beginEpisode_cases (governingRule s) s
    exact ⟨b, m, by rw [Act.andThen, quiet]; exact hb, hrules, hgov, hm⟩
  unfold spuEvaluate
  dsimp only
  split
  · by_cases hw : s.spu.host = .advised ∧ s.spu.advising ≠ governingRule s
    · right
      obtain ⟨b, m, hb, hrules, hgov, -, -, hm⟩ := beginEpisode_cases (governingRule s) (withdraw .governingChanged (governingRule s) s).1
      obtain ⟨f, hf⟩ : ∃ f, adviceWithdrawnReport (s.spu.advising.getD 0) .governingChanged (governingRule s) =
        .report .adviceWithdrawn f := ⟨_, rfl⟩
      have hfst : (withdraw .governingChanged (governingRule s) s).2 =
          .report .adviceWithdrawn f :: hostSignals .advised .running := by
        rw [withdraw, hw.1, hf]
      refine ⟨b, f, m, ?_, hrules, hgov, hm⟩
      rw [if_pos (by simpa using hw), Act.andThen, hb, hfst]
      rfl
    · left
      rw [if_neg (by simpa using hw)]
      exact hbegin _ rfl
  · next hsame =>
    have hg : governingRule s = s.spu.governing := not_not.mp hsame
    split
    · left
      rw [if_neg (by rw [ha]; simp)]
      exact hbegin _ rfl
    · exact .inl ⟨s.spu, [], rfl, rfl, hg.symm, .inl rfl⟩

theorem Ends.evaluated {a : SpuTrigger} (he : Escaping c P E) (ha : a.writes = false) (hs : s.Runs) (hP : P s) (h : Onward k l Q s) :
    Ends (k + 3 * c + 60) (.spuEval a :: l) s Q := by
  rcases spuEvaluate_cases ha s with ⟨b, m, hb, hrules, hgov, hm⟩ | ⟨b, f, m, hb, hrules, hgov, hm⟩
  · have hr1 : Ruled s { s with spu := b } := ruled_spu hrules
    have hon := h.ruled hr1 (x := []) nofun
    rw [List.append_nil] at hon
    refine Ends.le (Ends.step (k := k + c + 16) hb (by simp) ?_) (by omega)
    exact Ends.episode he hm (hs.ruled hr1) (he.keeps _ _ hP hr1) (synced_spu hrules hgov) hon
  · have hr1 : Ruled s { s with spu := b } := ruled_spu hrules
    have hs1 := hs.ruled hr1
    have hP1 := he.keeps _ _ hP hr1
    have hsync1 : State.Synced { s with spu := b } := synced_spu hrules hgov
    have hon := h.ruled hr1 (x := []) nofun
    rw [List.append_nil] at hon
    refine Ends.le (Ends.step (k := k + 3 * c + 59) hb (by simp) ?_) (by omega)
    rw [List.cons_append, List.append_assoc]
    refine Ends.le (Ends.hostRuled (k := k + 2 * c + 33) (by decide) hs1 nofun rfl fun u x hu hspu hx => ?_) (by omega)
    have honu := hon.ruled hu hx
    rw [List.append_assoc]
    rcases he.escapes _ u hP1 hu with hi | hE
    · have hsyncu : u.Synced := by rw [State.Synced, hspu, governingRule_ruled hu hi]; exact hsync1
      refine Ends.le (Ends.evaluatedHost (k := k + c + 16) he (hs1.ruled hu) (he.keeps _ _ hP1 hu) hsyncu fun t y ht hy hst => ?_) (by omega)
      rw [List.append_assoc]
      exact Ends.episode he hm ((hs1.ruled hu).ruled ht) (he.keeps _ _ (he.keeps _ _ hP1 hu) ht) hst (honu.ruled ht hy)
    · refine Ends.le (he.ruling (k + c) (m ++ (l ++ x)) u Q _ (hs1.ruled hu) hE (.inl rfl) fun t y ht hy hst => ?_) (by omega)
      rw [List.append_assoc]
      have hont := honu.ruled ht hy
      rcases hm with rfl | rfl
      · exact Ends.le (hont.here hst) (by omega)
      · exact he.ruling k _ t Q _ ((hs1.ruled hu).ruled ht) (he.keepsE _ _ hE ht) (.inr (.inr ⟨rfl, hst⟩)) hont

theorem Escaping.run (he : Escaping c P E) : Ruling (3 * c + 60) P := by
  intro k l s Q g hs hP hg h
  rcases hg with rfl | rfl | ⟨rfl, hsync⟩
  · exact Ends.evaluated he rfl hs hP h
  · exact Ends.evaluated he rfl hs hP h
  · exact Ends.le (Ends.acted he hs hP hsync h) (by omega)

/-- With the idle count at 0 nothing restarts it. -/
theorem ruling_of_idle : Ruling 60 fun s => s.igt.idle = 0 := by
  have he : Escaping 0 (fun s => s.igt.idle = 0) (fun _ => False) := by
    refine ⟨fun s u hs hu => ?_, fun _ _ h _ => h, fun s u hs hu => .inl ?_, fun _ _ _ _ _ _ h => h.elim⟩
    · rcases hu.idle with hi | hi
      · exact hi.trans hs
      · exact hi
    · rcases hu.idle with hi | hi
      · exact hi
      · exact hi.trans hs.symm
  exact he.run

/-- In RUN, with nothing held, an evaluation ends, and what follows it is run. -/
theorem Ends.spuEval {a : SpuTrigger} (ha : a.writes = false) (hs : s.Runs)
    (h : ∀ t x, Ruled s t → (∀ y ∈ x, y = Signal.serve) → Ends k (l ++ x) t Q) : Ends (k + 240) (.spuEval a :: l) s Q := by
  have he : Escaping 60 (fun _ => True) (fun s => s.igt.idle = 0) := by
    refine ⟨fun _ _ _ _ => trivial, fun s u hs hu => ?_, fun s u _ hu => hu.idle, ruling_of_idle⟩
    rcases hu.idle with hi | hi
    · exact hi.trans hs
    · exact hi
  exact Ends.evaluated he ha hs trivial fun t x ht hx _ => h t x ht hx

end

end Sys2Proof.Machine
end

section
/-! PROOFS. The outcomes of an identification and of a recovery (O34). -/

namespace Sys2Proof.Machine
open Sys2Proof

section
variable {s t u v : State} {new : Dlc} {k : Nat} {l m x : List Signal} {Q : State → Prop} {b : Bool} {i : Ident} {c : Instr}

/-! ### A notification of the HAU -/

/-- A notification in RUN: the base vector is in use where the record gives one; a vector that is lost is followed by an
evaluation of the posture and a report at most. -/
theorem hauDockNotice_cases (b : Bool) (hp : s.psc.power = .run) :
    ∃ (h : Hau) (m : List Signal), hauDockNotice b s = ({ s with hau := h }, m) ∧ State.Heard s.dlc { s with hau := h } ∧
      (m = [] ∨ ∃ reps, m = .pclEval :: reps ∧ (∀ g ∈ reps, g.isUpstream = true) ∧ reps.length ≤ 4 ∧
        s.dlc.tiltAvailable = false ∧ s.hau.cond ≠ .absent) := by
  unfold hauDockNotice State.Heard
  rw [if_pos (awake_of_run hp)]
  by_cases ht : s.dlc.tiltAvailable = true
  · rw [if_pos ht]
    by_cases hc : s.hau.cond = .absent ∨ b = true
    · rw [if_pos hc]
      exact ⟨_, _, rfl, .inl ⟨ht, nofun⟩, .inl rfl⟩
    · rw [if_neg hc]
      exact ⟨s.hau, [], rfl, .inl ⟨ht, fun h => hc (.inl h)⟩, .inl rfl⟩
  · rw [if_neg ht]
    have hf : s.dlc.tiltAvailable = false := Bool.eq_false_iff.mpr ht
    by_cases hc : s.hau.cond = .absent
    · rw [if_pos hc]
      exact ⟨s.hau, [], rfl, .inr ⟨hf, hc⟩, .inl rfl⟩
    · rw [if_neg hc]
      unfold baseLost hingeUpdate
      dsimp only
      split_ifs
      · exact ⟨_, _, rfl, .inr ⟨hf, rfl⟩, .inr ⟨_, rfl, by simp [angleReport, Signal.isUpstream], by simp, hf, hc⟩⟩
      · exact ⟨_, _, rfl, .inr ⟨hf, rfl⟩, .inr ⟨[], rfl, nofun, by simp, hf, hc⟩⟩
      · exact ⟨_, _, rfl, .inr ⟨hf, rfl⟩, .inl rfl⟩

/-- `t` is `s` after a notification of the HAU, and all that it has handed on. -/
structure Told (s t : State) : Prop where
  only : Only [.hau, .oru, .pcl, .igt, .fbf, .spu, .psc, .ulp] s t
  cond : t.pcl.cond = s.pcl.cond
  passdown : t.fbf.passdown = s.fbf.passdown
  power : t.psc.power = s.psc.power
  still : t.Still

theorem Told.trans (h : Told s t) (h' : Told t u) : Told s u :=
  ⟨h.only.trans h'.only, h'.cond.trans h.cond, h'.passdown.trans h.passdown, h'.power.trans h.power, h'.still⟩

theorem Told.of_upstream (hs : s.Still) (h : Upstream s t) : Told s t :=
  ⟨h.only.mono rfl, by rw [h.pcl], h.passdown, by rw [h.psc], h.still hs⟩

theorem Told.of_posed (hq : s.ulp.queue = []) (h : Posed s t) : Told s t :=
  ⟨h.only.mono rfl, h.cond, h.passdown, by rw [h.only.psc rfl], h.still hq⟩

theorem Told.of_ruled (hs : s.Runs) (h : Ruled s t) : Told s t :=
  ⟨h.only.mono rfl, by rw [h.only.pcl rfl], h.passdown, h.power, (hs.ruled h).still⟩

/-- An evaluation of the posture, with a dwell or over an empty Hold area. -/
theorem Ends.posturedOnward (hs : s.Still) (hp : s.psc.power = .run) (hd : 0 < s.par.postureDwell ∨ s.fbf.hold = [])
    (h : ∀ t x, Told s t → t.hau = s.hau → (∀ y ∈ x, y = Signal.serve) → Ends k (l ++ x) t Q) :
    Ends (k + 268) (.pclEval :: l) s Q := by
  have hnone : ∀ t, Told s t → t.hau = s.hau → Ends k l t Q := fun t ht hh => by
    have := h t [] ht hh nofun
    rwa [List.append_nil] at this
  rcases hd with hd | hold
  · obtain ⟨hq, hl⟩ := postureEvaluate_quietly hd
    have he : handle .pclEval s = ((postureEvaluate s).1, []) := Prod.ext rfl hl
    refine Ends.le (Ends.step (k := k) he (by simp) (hnone _ ⟨hq.only.mono rfl, hq.base, ?_, ?_, ?_⟩ (hq.only.hau rfl))) (by omega)
    · rw [hq.only.fbf rfl]
    · rw [hq.only.psc rfl]
    · refine ⟨hq.queue.trans hs.1, ?_⟩
      rw [hq.only.igt rfl, hq.hold]
      exact hs.2
  · refine Ends.posturedThen (k := k + 240) hold hs.1 (fun t ht => Ends.le (hnone t (.of_posed hs.1 ht) (ht.only.hau rfl)) (by omega))
      fun t ht => ?_
    have hruns : t.Runs := ⟨by rw [ht.only.psc rfl]; exact hp, ht.queue.trans hs.1, ht.hold⟩
    exact Ends.spuEval rfl hruns fun v x hv hx =>
      h v x ((Told.of_posed hs.1 ht).trans (.of_ruled hruns hv)) ((hv.only.hau rfl).trans (ht.only.hau rfl)) hx

/-- A notification of the HAU in RUN. -/
theorem Ends.hauTold (hs : s.Still) (hp : s.psc.power = .run)
    (hc : s.hau.cond = .absent ∨ s.dlc.tiltAvailable = true ∨ 0 < s.par.postureDwell ∨ s.fbf.hold = [])
    (h : ∀ t x, Told s t → State.Heard s.dlc t → (∀ y ∈ x, y = Signal.serve) → Ends k (l ++ x) t Q) :
    Ends (k + 320) (.hauDock b :: l) s Q := by
  obtain ⟨hau, m, he, hheard, hm⟩ := hauDockNotice_cases b hp
  have h1 : Told s { s with hau := hau } := ⟨rfl, rfl, rfl, rfl, hs⟩
  rcases hm with rfl | ⟨reps, rfl, hreps, hlen, htilt, hne⟩
  · have := h _ [] h1 hheard nofun
    rw [List.append_nil] at this
    exact Ends.le (Ends.step (k := k) he (by simp) this) (by omega)
  · have hd : 0 < s.par.postureDwell ∨ s.fbf.hold = [] :=
      (hc.resolve_left hne).resolve_left (by rw [htilt]; simp)
    refine Ends.le (Ends.step (k := k + 44 + 268) he (by simp) ?_) (by omega)
    refine Ends.posturedOnward (s := { s with hau := hau }) hs hp hd fun t x ht hh hx => ?_
    change Ends _ ((reps ++ l) ++ x) t Q
    rw [List.append_assoc]
    refine Ends.upstreams hreps hlen ht.still fun v hv => h v x ((h1.trans ht).trans (.of_upstream ht.still hv)) ?_ hx
    rw [State.Heard, hv.hau, hh]
    exact hheard

/-! ### A change of the dock state behind other handovers -/

/-- The handovers of a change of the dock state, run once others have left its record. -/
theorem Ends.dockResumed (hd : t.dlc = new) (he : new.state.empties = true → t.fbf.passdown = [])
    (hdel : s.dlc.state.delivers = false) (h : Ends k ((dockMove new t).2 ++ m) (dockMove new t).1 Q) :
    Ends k ((dockMove new s).2 ++ m) t Q := by
  have h1 : (dockMove new s).2 = (dockMove new t).2 := by
    rw [dockMove_signals, dockMove_signals, hdel, hd]
    cases new.state.delivers <;> rfl
  have h2 : (dockMove new t).1 = t := dockMove_self hd he
  rw [h1]
  rwa [h2] at h

/-- A fault, whatever at rest follows it. -/
theorem Ends.dockFaultedThen {d : DockCause} (hm : ∀ g ∈ m, g.kind ∈ [.walkNext, .servePower, .openDue] ++ anyKinds)
    (hq : s.ulp.queue = []) : Ends (k + 1) ((dockFault d b s).2 ++ m) (dockFault d b s).1 (DockRested (s.dlc.faulted d)) := by
  obtain ⟨he, r, hr, hl⟩ := dockFault_signals d b s
  rw [he, hl, List.append_assoc]
  refine Ends.dockMovedRest (s.dlc.faulted_rest d) (fun g hg => ?_) hq
  rcases List.mem_append.mp hg with h | h
  · rcases List.mem_cons.mp h with rfl | h
    · rw [hr]; decide
    · exact kinds_all (l := stepEnd) rfl g h
  · exact hm g h

/-- The service of the queue at the end, with no command waiting. -/
theorem Ends.served (hx : ∀ y ∈ x, y = Signal.serve) (hq : s.ulp.queue = []) (hp : s.psc.power = .run) :
    Ends k x s fun t => Only [.igt, .fbf, .spu, .psc, .ulp] s t ∧ t.fbf.passdown = s.fbf.passdown := by
  refine Ends.mono (Ends.runKeeps headKinds (fun t => Only [.igt, .fbf, .spu, .psc, .ulp] s t ∧ t.fbf.passdown = s.fbf.passdown)
    (by decide) ?_ (fun g t hg _ _ _ => .inl ?_) (fun g hg => ?_) hq hp ⟨Only.refl _ _, rfl⟩) fun t ht => ht.1
  · rintro g t hg hw hqt hpt ⟨h1, h2⟩
    have hb := (handle_run (calm := false) hqt hpt hw nofun).2.mono (U := [.igt, .fbf, .spu, .psc, .ulp]) (by
      rw [← runBlocks_kind]
      exact List.all_eq_true.mp (show (headKinds.all fun k => (k.runBlocks false).all
        [Block.igt, .fbf, .spu, .psc, .ulp].contains) = true by decide) _ hg)
    have hnotice := (show ∀ k ∈ headKinds, k ∈ noticeKinds by decide) _ hg
    obtain ⟨-, hpass, -⟩ := stands_handle (List.mem_append_right _ hnotice) hqt hpt hw (rests_of_notice hnotice)
    exact ⟨h1.trans hb, hpass.trans h2⟩
  · rw [← runFollows_kind]
    exact List.all_eq_true.mp (show (headKinds.all fun k => (k.runFollows false).all headKinds.contains) = true by decide) _ hg
  · rw [hx g hg]
    exact ⟨by decide, wakes_of_kind (by decide)⟩

/-! ### The close of an attempt -/

/-- The slot of an attempt closed, its outcome noted. -/
def State.attempted (o : Outcome) (s : State) : State :=
  { s with dlc := { s.dlc with slot := none, attempts := min (s.dlc.attempts + 1) 3, outcomes := s.dlc.outcomes ++ [o] } }

/-- The record of a base that has told its IDENT. -/
def State.based (i : Ident) (s : State) : State := { s with dlc := { s.dlc with base := some (.keyboard i) } }

theorem identClose_ident (o : Outcome) (s : State) :
    identClose (some (.ident i)) o s.slotClosed =
      if s.dlc.recov then recovered i (s.attempted .valid) else identified i (s.attempted .valid) := rfl

/-- An attempt without an IDENT. -/
theorem identClose_other {a : Option Answer} {o : Outcome} (h : a.any Answer.isIdent = false) (s : State) :
    identClose a o s.slotClosed =
      if (s.dlc.outcomes ++ [if o = .valid then .garbled else o]).length < 3 then
        (s.attempted (if o = .valid then .garbled else o), [.openDue])
      else if s.dlc.recov then dockFault .link false (s.attempted (if o = .valid then .garbled else o))
      else identificationFailed (s.attempted (if o = .valid then .garbled else o)) := by
  match a, h with
  | none, _ | some (.key _ _), _ | some (.point _), _ | some (.tilt _ _ _), _ | some (.stat _ _), _ | some .nil, _ => rfl

/-- What a command that closes the slot without an IDENT notes. -/
theorem closer_attempt {bytes : List Byte} {f : DockFrame} (hc : c ∈ closers bytes) (hn : (parseAnswer bytes).any Answer.isIdent = false)
    (hst : s.dlc.state = .identifying) (hs : s.dlc.slot = some f) (n : Outcome)
    (hnote : n = if c = .answerWindowExpiry then .missing else .garbled) :
    ∃ a : Act, exec c s = finish a ∧ c.core s = a ∧ isPlainEvent c = true ∧ c.blocks.contains .sib = false ∧
      c.blocks.contains .ms = false ∧
      a = if (s.dlc.outcomes ++ [n]).length < 3 then (s.attempted n, [.openDue])
        else if s.dlc.recov then dockFault .link false (s.attempted n) else identificationFailed (s.attempted n) := by
  have hclose : ∀ (ans : Option Answer) (o : Outcome), ans.any Answer.isIdent = false → n = (if o = .valid then .garbled else o) →
      closeSlot gateArrival ans o s = if (s.dlc.outcomes ++ [n]).length < 3 then (s.attempted n, [.openDue])
        else if s.dlc.recov then dockFault .link false (s.attempted n) else identificationFailed (s.attempted n) := by
    rintro ans o hans rfl
    rw [closeSlot_ident hs hst, identClose_other hans]
  simp only [List.mem_cons, List.not_mem_nil, or_false] at hc
  rcases hc with rfl | rfl | rfl
  · exact ⟨closeSlot gateArrival none .missing s, rfl, rfl, rfl, rfl, rfl, hclose _ _ rfl (hnote.trans (if_pos rfl))⟩
  · exact ⟨closeSlot gateArrival none .garbled s, rfl, rfl, rfl, rfl, rfl, hclose _ _ rfl (hnote.trans (if_neg nofun))⟩
  · refine ⟨closeSlot gateArrival (parseAnswer bytes) (if (parseAnswer bytes).isSome then .valid else .garbled) s, rfl, rfl, rfl, rfl,
      rfl, hclose _ _ hn (hnote.trans ((if_neg nofun).trans ?_))⟩
    cases (parseAnswer bytes).isSome <;> rfl

/-- The record of a first identification. -/
def Dlc.identified (d : Dlc) : Dlc :=
  { d.moved .identified with step := none, walk := d.walk.filter fun w => w.target == .attach }

/-- The record of a cover. -/
def Dlc.covered (d : Dlc) : Dlc :=
  { d.moved .covered with step := none, walk := none, base := some .cover, basePower := false }

theorem identified_signals (i : Ident) (s : State) :
    ∃ f, identified i s =
      ((Machine.dockMove (s.based i).dlc.identified (s.based i)).1,
        .report .base f :: ((Machine.dockMove (s.based i).dlc.identified (s.based i)).2 ++
          (dockReport (s.based i).dlc.identified .stepDone (some .identify) (s.based i).dlc.origin none :: stepEnd))) := by
  refine ⟨baseRecordFields s.sbu.grant (.keyboard i), Prod.ext rfl ?_⟩
  change baseReport s.sbu.grant (.keyboard i) ::
    (stepDone .identify (s.based i).dlc.identified (s.based i).dlc.origin (s.based i)).2 = _
  rw [stepDone_signals.2]
  rfl

theorem covered_signals (h : s.dlc.outcomes.all (· == .missing) = true) :
    ∃ f, identificationFailed s =
      ((Machine.dockMove s.dlc.covered s).1,
        .report .base f :: ((Machine.dockMove s.dlc.covered s).2 ++
          (dockReport s.dlc.covered .stepDone (some .identify) s.dlc.origin none :: stepEnd))) := by
  refine ⟨baseRecordFields 0 .cover, (if_pos h).trans (Prod.ext rfl ?_)⟩
  change baseReport 0 .cover :: (stepDone .identify s.dlc.covered s.dlc.origin s).2 = _
  rw [stepDone_signals.2]
  rfl

/-- A report, then the change of the dock state whose record stands already. -/
theorem Ends.reportedMove {r : ReportKind} {f : List Byte} (hr : r ≠ .forceCut) (hs : s.Still) (hdel : s.dlc.state.delivers = false)
    (h : ∀ u, Upstream (dockMove new s).1 u → Ends k ((dockMove new u).2 ++ m) (dockMove new u).1 Q) :
    Ends (k + 11) (.report r f :: ((dockMove new s).2 ++ m)) (dockMove new s).1 Q := by
  have hstill : (dockMove new s).1.Still := by
    refine ⟨hs.1, hs.2.imp id fun hh => ?_⟩
    unfold dockMove
    dsimp only
    split <;> exact hh
  refine Ends.upstream (by simpa [Signal.isUpstream] using hr) hstill fun u hu => ?_
  refine Ends.dockResumed hu.dlc (fun he => ?_) hdel (h u hu)
  rw [hu.passdown, dockMove_passdown, if_pos he]

/-! ### A first identification -/

theorem not_delivers (h : s.dlc.state = .identifying) : s.dlc.state.delivers = false := by
  rw [h]
  rfl

/-- Without a walk the identification ends in IDENTIFIED. -/
theorem Ends.identifiedRests (hs : s.Still) (hp : s.psc.power = .run) (hst : s.dlc.state = .identifying) (hw : s.dlc.walk = none) :
    Ends 1000 (identified i s).2 (identified i s).1 fun t =>
      (s.based i).dlc.identified.Stands t.dlc ∧ t.sbu.requested = 50 := by
  obtain ⟨f, he⟩ := identified_signals i s
  rw [he]
  refine Ends.reportedMove (k := 989) (s := s.based i) (by decide) hs (not_delivers hst) fun u hu => ?_
  refine Ends.mono (Ends.dockMoved (k := 988) (s := u) (fun g hg => ?_) (hu.queue.trans hs.1) ?_) fun t ht =>
    ⟨ht.1.dlc, ht.1.requested⟩
  · rcases List.mem_cons.mp hg with rfl | hg
    · exact quiets_dockReport
    · exact quiets_stepEnd (new := (s.based i).dlc.identified) (congrArg (Option.filter _) hw) (.inr (.inr ⟨nofun, nofun⟩)) g hg
  · rw [hu.psc]
    exact hp

/-- Within an ATTACH walk the POWER step follows. -/
theorem Ends.identifiedWalks {w : Walk} (hs : s.Still) (hp : s.psc.power = .run) (hst : s.dlc.state = .identifying)
    (hw : s.dlc.walk = some w) (hat : w.target = .attach) (hcond : s.hau.cond = .absent) (hbase : s.pcl.cond = .detached)
    (h : ∀ t, (s.based i).dlc.identified.Stands t.dlc → t.dlc.walk = some w → t.ulp.queue = [] → t.psc.power = .run → t.par = s.par →
      Ends k [.dlcBegin .power, .pscDeferred, .servePower] t Q) :
    Ends (k + 140) (identified i s).2 (identified i s).1 Q := by
  obtain ⟨f, he⟩ := identified_signals i s
  rw [he]
  have hstill : ∀ u, Upstream (dockMove (s.based i).dlc.identified (s.based i)).1 u → u.Still := fun u hu => hu.still hs
  have hwalk : (s.based i).dlc.identified.walk = some w := by
    change s.dlc.walk.filter _ = _
    rw [hw]
    simp [Option.filter, hat]
  refine Ends.le (Ends.reportedMove (k := k + 117) (s := s.based i) (by decide) hs (not_delivers hst) fun u hu => ?_) (by omega)
  have hpu : u.psc.power = .run := by rw [hu.psc]; exact hp
  refine Ends.le (Ends.dockMovedStill (k := k + 12) (hstill u hu) hpu ?_ ?_ ?_ fun t ht => ?_) (by omega)
  · simp [Dlc.tiltAvailable, Dlc.identified, Dlc.moved]
  · rw [hu.hau]; exact hcond
  · rw [hu.pcl]; exact hbase.symm
  have hpt : t.psc.power = .run := by rw [ht.only.psc rfl]; exact hpu
  refine Ends.upstream (k := k + 1) (g := dockReport _ _ _ _ _) (by simp [dockReport, Signal.isUpstream]) ht.still fun v hv => ?_
  have hdlc : (s.based i).dlc.identified.Stands v.dlc := by rw [hv.dlc]; exact ht.dlc
  have hpv : v.psc.power = .run := by rw [hv.psc]; exact hpt
  have hnext : walkNext v = (v, [.dlcBegin .power]) :=
    walkNext_begins (hdlc.walk.trans hwalk) (awake_of_run hpv) hdlc.step (by rw [hat, hdlc.state]; rfl)
  refine Ends.step hnext (by simp) (h v hdlc (hdlc.walk.trans hwalk) (hv.still ht.still).1 hpv ?_)
  rw [hv.par, ht.only.par rfl, hu.par]
  rfl

theorem demand_of_based {d : Dlc} (h : (s.based i).dlc.identified.Stands d) : d.activeDemand = i.active := by
  rw [Dlc.activeDemand, h.base]
  rfl

/-- The POWER step of an ATTACH walk, with the budget for it. -/
theorem Ends.identifiedPowers {w : Walk} (hs : s.Still) (hp : s.psc.power = .run) (hst : s.dlc.state = .identifying)
    (hw : s.dlc.walk = some w) (hat : w.target = .attach) (hcond : s.hau.cond = .absent) (hbase : s.pcl.cond = .detached)
    (hb : i.active ≤ s.par.bTotal) :
    Ends 1000 (identified i s).2 (identified i s).1 fun t =>
      t.dlc.state = .powering ∧ t.dlc.base = some (.keyboard i) ∧ t.dlc.step = some .power ∧ t.dlc.walk = some w ∧
        t.sbu.requested = i.active := by
  refine Ends.identifiedWalks (k := 860) hs hp hst hw hat hcond hbase fun t ht hwt hqt hpt hpar => ?_
  have hstep := beginStep_power (s := t) (.inl ht.state) (by rw [demand_of_based ht, hpar]; exact hb)
  refine Ends.mono (Ends.begun (k := 858) hstep (fun g hg => ?_) hqt hpt) fun v hv => ?_
  · simp only [List.mem_cons, List.not_mem_nil, or_false] at hg
    rcases hg with rfl | rfl
    · exact quiets_of_notice (by decide) (by decide)
    · exact ⟨by decide, wakes_of_kind (by decide), .inr (.inl nofun)⟩
  · obtain ⟨hm, -⟩ := hv
    refine ⟨hm.dlc.state, hm.dlc.base.trans ht.base, hm.dlc.step, hm.dlc.walk.trans hwt, hm.requested.trans ?_⟩
    rw [level_demand (.inl rfl)]
    exact (demand_of_based ht :)

/-- The POWER step of an ATTACH walk fails for the budget. -/
theorem Ends.identifiedFaults {w : Walk} (hs : s.Still) (hp : s.psc.power = .run) (hst : s.dlc.state = .identifying)
    (hw : s.dlc.walk = some w) (hat : w.target = .attach) (hcond : s.hau.cond = .absent) (hbase : s.pcl.cond = .detached)
    (hb : s.par.bTotal < i.active) :
    Ends 1000 (identified i s).2 (identified i s).1 fun t =>
      t.dlc.state = .faulted ∧ t.dlc.cause = some .budget ∧ t.dlc.base = some (.keyboard i) ∧ t.dlc.step = none ∧
        t.dlc.walk = none ∧ t.dlc.basePower = false ∧ t.sbu.grant = 0 := by
  refine Ends.identifiedWalks (k := 860) hs hp hst hw hat hcond hbase fun t ht hwt hqt hpt hpar => ?_
  have hstep := beginStep_power_fault (s := t) (.inl ht.state) (by rw [demand_of_based ht, hpar]; exact hb)
  refine Ends.step (k := 859) hstep (by simp) (Ends.mono (Ends.dockFaultedThen (k := 858) (s := t.started .power) ?_ hqt) fun v hv => ?_)
  · exact kinds_all (l := [.pscDeferred, .servePower]) rfl
  · exact ⟨hv.dlc.state, hv.dlc.cause, hv.dlc.base.trans ht.base, hv.dlc.step, hv.dlc.walk, hv.dlc.basePower, hv.grant⟩

/-- Three silent attempts are a cover. -/
theorem Ends.coverFound (hs : s.Still) (hp : s.psc.power = .run) (hst : s.dlc.state = .identifying)
    (h : s.dlc.outcomes.all (· == .missing) = true) :
    Ends 1000 (identificationFailed s).2 (identificationFailed s).1 fun t =>
      s.dlc.covered.Stands t.dlc ∧ t.sbu.grant = 0 ∧ t.fbf.passdown = [] := by
  obtain ⟨f, he⟩ := covered_signals h
  rw [he]
  refine Ends.reportedMove (k := 989) (s := s) (by decide) hs (not_delivers hst) fun u hu => ?_
  refine Ends.mono (Ends.dockMoved (k := 988) (s := u) (fun g hg => ?_) (hu.queue.trans hs.1) ?_) fun t ht =>
    ⟨ht.1.dlc, ht.1.grant rfl, ht.1.passdown⟩
  · rcases List.mem_cons.mp hg with rfl | hg
    · exact quiets_dockReport
    · exact quiets_stepEnd (new := s.dlc.covered) rfl (.inr (.inr ⟨nofun, nofun⟩)) g hg
  · rw [hu.psc]
    exact hp

/-! ### A recovery -/

theorem based_tiltAvailable (hst : s.dlc.state = .identifying) (hrec : s.dlc.recov = true) :
    (s.based i).dlc.tiltAvailable = i.tilt.isSome := by
  simp [Dlc.tiltAvailable, Dlc.tilt, State.based, hst, hrec]

/-- The record of a base that has recovered. -/
def Dlc.reactivated (left : Timer) (d : Dlc) : Dlc :=
  { d.moved .active with recov := false, step := none, missed := 0, overdraw := 0, slotTimer := left }

/-- The record of the base that answers a recovery in RUN. -/
def State.reactive (i : Ident) (s : State) : Dlc := (s.based i).dlc.reactivated (some (s.par.pollPeriod - s.dlc.sinceOpen))

theorem reactive_tiltAvailable (i : Ident) (s : State) : (s.reactive i).tiltAvailable = i.tilt.isSome := Bool.and_true _

theorem slotLeft_based (hp : s.psc.power = .run) :
    slotLeft s.par.pollPeriod (s.based i) = some (s.par.pollPeriod - s.dlc.sinceOpen) :=
  if_pos (awake_of_run (s := s.based i) hp)

/-- The base that answers a recovery is the one before. -/
theorem recovered_same (hp : s.psc.power = .run) (h : s.dlc.sameBase i = true) (hb : i.active ≤ s.par.bTotal) :
    ∃ f, recovered i s =
      ((Machine.dockMove (s.reactive i) (s.based i)).1,
        .report .base f :: .hauDock false :: ((Machine.dockMove (s.reactive i) (s.based i)).2 ++
          (dockReport (s.reactive i) .recovered none none none :: (stepEnd ++ [.openDue])))) := by
  refine ⟨baseRecordFields s.sbu.grant (.keyboard i),
    (if_pos (c := s.dlc.sameBase i = true) h).trans ((if_neg (Nat.not_lt.mpr hb)).trans ?_)⟩
  rw [State.reactive, ← slotLeft_based (i := i) hp]
  refine Prod.ext rfl ?_
  change _ :: Signal.hauDock (!s.dlc.sameBase i) :: (((Machine.dockMove _ _).2 ++ [_]) ++ (stepEnd ++ [.openDue])) = _
  rw [h, List.append_assoc]
  rfl

/-- The base that answers a recovery is the one before, over the budget. -/
theorem recovered_over (h : s.dlc.sameBase i = true) (hb : s.par.bTotal < i.active) :
    ∃ f, recovered i s =
      ((Machine.dockFault .budget false (s.based i)).1,
        .report .base f :: .hauDock false :: (Machine.dockFault .budget false (s.based i)).2) := by
  refine ⟨baseRecordFields s.sbu.grant (.keyboard i),
    (if_pos (c := s.dlc.sameBase i = true) h).trans ((if_pos hb).trans (Prod.ext rfl ?_))⟩
  change _ :: Signal.hauDock (!s.dlc.sameBase i) :: _ = _
  rw [h]
  rfl

/-- Another base: the Passdown area is emptied, and POWER begins. -/
def State.replaced (i : Ident) (s : State) : State := { s.based i with fbf := { s.fbf with passdown := [] } }

theorem recovered_new (h : s.dlc.sameBase i = false) :
    ∃ f f', recovered i s = (s.replaced i, [.report .base f, .hauDock true, .report .dock f', .dlcBegin .power]) := by
  refine ⟨baseRecordFields s.sbu.grant (.keyboard i), dockFields (s.based i).dlc .newBase none none none,
    (if_neg (c := s.dlc.sameBase i = true) (by simp [h])).trans (Prod.ext rfl ?_)⟩
  change _ :: Signal.hauDock (!s.dlc.sameBase i) :: _ = _
  rw [h]
  rfl

/-- A base report and a notification of the HAU in front of what follows. -/
theorem Ends.baseTold {f : List Byte} (hs : s.Still) (hp : s.psc.power = .run)
    (hc : s.hau.cond = .absent ∨ s.dlc.tiltAvailable = true ∨ 0 < s.par.postureDwell ∨ s.fbf.hold = [])
    (h : ∀ t x, Told s t → State.Heard s.dlc t → (∀ y ∈ x, y = Signal.serve) → Ends k (l ++ x) t Q) :
    Ends (k + 331) (.report .base f :: .hauDock b :: l) s Q := by
  refine Ends.upstream (k := k + 320) rfl hs fun u hu => ?_
  have hpu : u.psc.power = .run := by rw [hu.psc]; exact hp
  refine Ends.hauTold (hu.still hs) hpu ?_ fun t x ht hh hx => h t x (.trans (.of_upstream hs hu) ht) (by rwa [← hu.dlc]) hx
  rw [hu.hau, hu.dlc, hu.par, hu.hold]
  exact hc

theorem Noticed.requested (h : Noticed new s t) : t.sbu.requested = new.level := by
  rw [h.sbu]
  exact (dockRequest_sbu new.level (dockMove new s).1).1

/-- The base that answers a recovery is active again, and its first slot is to open. -/
structure Reactivated (i : Ident) (s t : State) : Prop where
  dlc : t.dlc = s.reactive i
  passdown : t.fbf.passdown = s.fbf.passdown
  requested : t.sbu.requested = i.active
  cond : t.pcl.cond = .keyboard
  par : t.par = s.par
  power : t.psc.power = .run

/-- A fixed record with no request and no overdraw run stands as it is. -/
theorem Dlc.Stands.eq {d e : Dlc} (h : d.Stands e) (hf : d.Fixed) (ho : d.overdraw = 0) (hr : d.powerReq = none) : e = d := by
  rw [h.same hf, h.run.elim (·.trans ho.symm) id, h.request.elim (·.trans hr.symm) id]

theorem openDue_quiet (s : State) : openDue s = quiet (openDue s).1 := by
  unfold openDue
  split_ifs <;> rfl

/-- The first slot of a base that has recovered before its poll period has passed. -/
theorem Reactivated.waits (h : Reactivated i s t) (hs : s.dlc.sinceOpen < s.par.pollPeriod) : openDue t = quiet t := by
  refine openDue_of_notDue (.inr ?_)
  rw [h.dlc, if_neg nofun]
  simp [State.reactive, Dlc.reactivated]
  omega

/-- The first slot of a base that has recovered after its poll period has passed. -/
theorem Reactivated.opens (h : Reactivated i s t) (hs : s.par.pollPeriod ≤ s.dlc.sinceOpen) :
    (openDue t).1 = openNextSlot t := by
  have hslot : t.dlc.slot = none := by rw [h.dlc]; rfl
  have hstate : t.dlc.state ≠ .identifying := by rw [h.dlc]; nofun
  have htimer : t.dlc.slotTimer = some 0 := by
    rw [h.dlc]
    exact congrArg some (Nat.sub_eq_zero_of_le hs)
  rw [openDue, hslot, if_neg nofun, if_neg hstate, if_pos htimer]
  rfl

/-- What the first slot after a recovery, or the wait for it, leaves of the record. -/
theorem Reactivated.slotted (h : Reactivated i s t) :
    ∃ slot timer since, (openDue t).1.dlc = { s.reactive i with slot := slot, slotTimer := timer, sinceOpen := since } ∧
      (s.dlc.sinceOpen < s.par.pollPeriod → slot = none ∧ timer = some (s.par.pollPeriod - s.dlc.sinceOpen) ∧
        (openDue t).1.fbf.passdown = s.fbf.passdown) ∧
      (s.par.pollPeriod ≤ s.dlc.sinceOpen → timer = some s.par.pollPeriod ∧ since = 0 ∧
        (s.fbf.passdown = [] → slot = some ⟨headPoll, []⟩) ∧
        (∀ m rest, s.fbf.passdown = m :: rest →
          slot = some ⟨headPassdown, m.payload⟩ ∧ (openDue t).1.fbf.passdown = rest)) := by
  rcases Nat.lt_or_ge s.dlc.sinceOpen s.par.pollPeriod with hlt | hge
  · rw [h.waits hlt]
    refine ⟨_, _, _, h.dlc, fun _ => ⟨rfl, rfl, h.passdown⟩, fun hge => ?_⟩
    omega
  · have hstate : t.dlc.state = .active := by rw [h.dlc]; rfl
    have hstep : t.dlc.step ≠ some .quiesce := by rw [h.dlc]; nofun
    have ha : t.awake = true := awake_of_run h.power
    rw [h.opens hge]
    cases hp : s.fbf.passdown with
    | nil =>
      rw [openNextSlot_of_poll hstate ha hstep (h.passdown.trans hp), h.dlc, h.par]
      exact ⟨_, _, _, rfl, fun hlt => by omega, fun _ => ⟨rfl, rfl, fun _ => rfl, nofun⟩⟩
    | cons m rest =>
      rw [openNextSlot_of_passdown hstate ha hstep (h.passdown.trans hp), h.dlc, h.par]
      refine ⟨_, _, _, rfl, fun hlt => by omega, fun _ => ⟨rfl, rfl, nofun, fun m' rest' he => ?_⟩⟩
      obtain ⟨rfl, rfl⟩ := List.cons.inj he
      exact ⟨rfl, rfl⟩

/-- The same base answers the recovery, within the budget. -/
theorem Ends.recoveredSame (hs : s.Still) (hp : s.psc.power = .run) (hst : s.dlc.state = .identifying)
    (hreq : s.dlc.powerReq = none) (hw : s.dlc.walk = none) (hcond : s.pcl.cond = .keyboard)
    (hc : s.hau.cond = .absent ∨ i.tilt.isSome = true ∨ 0 < s.par.postureDwell ∨ s.fbf.hold = [])
    (h : s.dlc.sameBase i = true) (hb : i.active ≤ s.par.bTotal) :
    Ends 1000 (recovered i s).2 (recovered i s).1 fun t => ∃ v, Reactivated i s v ∧ t.dlc = (openDue v).1.dlc ∧
      t.fbf.passdown = (openDue v).1.fbf.passdown ∧ t.sbu = v.sbu ∧ t.pcl = v.pcl := by
  obtain ⟨f, he⟩ := recovered_same hp h hb
  rw [he]
  refine Ends.le (Ends.baseTold (k := 600) (s := (dockMove (s.reactive i) (s.based i)).1) hs hp ?_ fun t x ht hh hx => ?_) (by omega)
  · change _ ∨ (s.reactive i).tiltAvailable = true ∨ _
    rwa [reactive_tiltAvailable]
  have hdlc : t.dlc = s.reactive i := ht.only.dlc rfl
  have hpt : t.psc.power = .run := ht.power.trans hp
  rw [List.append_assoc]
  refine Ends.dockResumed hdlc nofun (not_delivers hst) ?_
  refine Ends.le (Ends.dockMovedHeard (k := 400) ht.still hpt hh ?_ fun u hu => ?_) (by omega)
  · exact (ht.cond.trans hcond).symm
  have hud : u.dlc = s.reactive i := hu.dlc.eq ⟨rfl, nofun⟩ rfl hreq
  have hpu : u.psc.power = .run := by rw [hu.only.psc rfl]; exact hpt
  refine Ends.upstream (k := 389) (g := dockReport _ _ _ _ _) (by simp [dockReport, Signal.isUpstream]) hu.still fun v hv => ?_
  have hpv : v.psc.power = .run := by rw [hv.psc]; exact hpu
  have hvd : v.dlc = s.reactive i := hv.dlc.trans hud
  have hr : Reactivated i s v := by
    refine ⟨hvd, ?_, ?_, ?_, ?_, hpv⟩
    · rw [hv.passdown, hu.passdown]; exact ht.passdown
    · rw [hv.sbu, hu.requested]; rfl
    · rw [hv.pcl, hu.only.pcl rfl, ht.cond]; exact hcond
    · rw [hv.par, hu.only.par rfl]; exact ht.only.par rfl
  refine Ends.skip (k := 388) (walkNext_of_rests (.inl (by rw [hvd]; exact hw))) (by simp) ?_
  refine Ends.skip (k := 387) (deferredRecheck_of_run hpv) (by simp) ?_
  refine Ends.skip (k := 386) (servePower_of_none (by rw [hvd]; exact hreq)) (by simp) ?_
  refine Ends.step (k := 385) (openDue_quiet v) (by simp) ?_
  have hopen : Only [.dlc, .fbf] v (openDue v).1 := openDue_only v rfl
  refine Ends.mono (Ends.served hx ?_ ?_) fun w hw => ⟨v, hr, hw.1.dlc rfl, hw.2, ?_, ?_⟩
  · rw [hopen.ulp rfl]; exact (hv.still hu.still).1
  · rw [hopen.psc rfl]; exact hpv
  · rw [hw.1.sbu rfl, hopen.sbu rfl]
  · rw [hw.1.pcl rfl, hopen.pcl rfl]

/-- Another base answers the recovery: its record stands when POWER begins. -/
theorem Ends.recoveredNew (hs : s.Still) (hp : s.psc.power = .run) (hst : s.dlc.state = .identifying) (hrec : s.dlc.recov = true)
    (hc : s.hau.cond = .absent ∨ i.tilt.isSome = true ∨ 0 < s.par.postureDwell ∨ s.fbf.hold = [])
    (h : s.dlc.sameBase i = false)
    (hk : ∀ v x, Told (s.replaced i) v → State.Heard (s.replaced i).dlc v → (∀ y ∈ x, y = Signal.serve) →
      Ends k (.dlcBegin .power :: x) v Q) : Ends (k + 342) (recovered i s).2 (recovered i s).1 Q := by
  obtain ⟨f, f', he⟩ := recovered_new h
  rw [he]
  refine Ends.baseTold (k := k + 11) (s := s.replaced i) hs hp ?_ fun t x ht hh hx => ?_
  · change _ ∨ (s.based i).dlc.tiltAvailable = true ∨ _
    rwa [based_tiltAvailable hst hrec]
  · refine Ends.upstream rfl ht.still fun v hv => hk v x (ht.trans (.of_upstream ht.still hv)) ?_ hx
    rw [State.Heard, hv.hau]
    exact hh

theorem replaced_demand (h : Told (s.replaced i) t) : t.dlc.activeDemand = i.active := by
  rw [h.only.dlc rfl]
  rfl

/-- The POWER step of another base, within the budget. -/
theorem Ends.recoveredPowers (hs : s.Still) (hp : s.psc.power = .run) (hst : s.dlc.state = .identifying) (hrec : s.dlc.recov = true)
    (hw : s.dlc.walk = none) (hcond : s.pcl.cond = .keyboard)
    (hc : s.hau.cond = .absent ∨ i.tilt.isSome = true ∨ 0 < s.par.postureDwell ∨ s.fbf.hold = [])
    (h : s.dlc.sameBase i = false) (hb : i.active ≤ s.par.bTotal) :
    Ends 1000 (recovered i s).2 (recovered i s).1 fun t =>
      t.dlc.state = .powering ∧ t.dlc.recov = false ∧ t.dlc.base = some (.keyboard i) ∧ t.dlc.step = some .power ∧
        t.dlc.walk = none ∧ t.fbf.passdown = [] ∧ t.sbu.requested = i.active ∧ t.pcl.cond = .keyboard := by
  refine Ends.le (Ends.recoveredNew (k := 500) hs hp hst hrec hc h fun v x hv hh hx => ?_) (by omega)
  have hdlc : v.dlc = (s.replaced i).dlc := hv.only.dlc rfl
  have hpv : v.psc.power = .run := hv.power.trans hp
  have hstep := beginStep_power (s := v) (.inr (by rw [hdlc]; exact ⟨hst, hrec⟩))
    (by rw [replaced_demand hv, hv.only.par rfl]; exact hb)
  refine Ends.step (k := 499) hstep (by simp) ?_
  refine Ends.le (Ends.dockMovedHeard (k := 300) (s := v.started .power) hv.still hpv ?_ ?_ fun u hu => ?_) (by omega)
  · have htilt : v.dlc.powers.tiltAvailable = (s.replaced i).dlc.tiltAvailable := by
      rw [hdlc]
      exact (Bool.and_true _).trans (based_tiltAvailable hst hrec).symm
    rw [State.Heard, htilt]
    exact hh
  · exact (hv.cond.trans hcond).symm
  · refine Ends.mono (Ends.served hx hu.still.1 ?_) fun w ⟨how, hpw⟩ => ?_
    · rw [hu.only.psc rfl]; exact hpv
    have hbase : v.dlc.base = some (.keyboard i) := by rw [hdlc]; rfl
    have hwalk : v.dlc.walk = none := by rw [hdlc]; exact hw
    rw [how.dlc rfl, how.sbu rfl, how.pcl rfl, hpw]
    refine ⟨hu.dlc.state, hu.dlc.recov, hu.dlc.base.trans hbase, hu.dlc.step, hu.dlc.walk.trans hwalk, ?_, ?_, ?_⟩
    · exact hu.passdown.trans hv.passdown
    · rw [hu.requested, level_demand (.inl rfl)]
      exact replaced_demand hv
    · rw [hu.only.pcl rfl]
      exact hv.cond.trans hcond

/-- What a recovery that faults leaves. -/
structure RecoveryFaulted (d : DockCause) (base : Option BaseRecord) (t : State) : Prop where
  state : t.dlc.state = .faulted
  cause : t.dlc.cause = some d
  recov : t.dlc.recov = false
  base : t.dlc.base = base
  step : t.dlc.step = none
  basePower : t.dlc.basePower = false
  passdown : t.fbf.passdown = []
  grant : t.sbu.grant = 0

theorem DockRested.recoveryFaulted {d : DockCause} (h : DockRested (s.dlc.faulted d) t) : RecoveryFaulted d s.dlc.base t :=
  ⟨h.dlc.state, h.dlc.cause, h.dlc.recov, h.dlc.base, h.dlc.step, h.dlc.basePower, h.passdown, h.grant⟩

/-- The demand of the base that answers a recovery is above the budget. -/
theorem Ends.recoveredFaults (hs : s.Still) (hp : s.psc.power = .run) (hst : s.dlc.state = .identifying) (hrec : s.dlc.recov = true)
    (hc : s.hau.cond = .absent ∨ 0 < s.par.postureDwell ∨ s.fbf.hold = []) (hb : s.par.bTotal < i.active) :
    Ends 1000 (recovered i s).2 (recovered i s).1 (RecoveryFaulted .budget (some (.keyboard i))) := by
  cases h : s.dlc.sameBase i with
  | false =>
    refine Ends.le (Ends.recoveredNew (k := 500) hs hp hst hrec (hc.imp id .inr) h fun v x hv hh hx => ?_) (by omega)
    have hdlc : v.dlc = (s.replaced i).dlc := hv.only.dlc rfl
    have hstep := beginStep_power_fault (s := v) (.inr (by rw [hdlc]; exact ⟨hst, hrec⟩))
      (by rw [replaced_demand hv, hv.only.par rfl]; exact hb)
    refine Ends.step (k := 499) hstep (by simp) (Ends.mono (Ends.dockFaultedThen (k := 498) (s := v.started .power) ?_ hv.still.1) fun u hu => ?_)
    · intro g hg
      rw [hx g hg]
      decide
    · have hbase : (v.started .power).dlc.base = some (.keyboard i) := by
        change v.dlc.base = _
        rw [hdlc]
        rfl
      rw [← hbase]
      exact hu.recoveryFaulted
  | true =>
    obtain ⟨f, he⟩ := recovered_over h hb
    obtain ⟨hstate, r, hr, hl⟩ := dockFault_signals .budget false (s.based i)
    rw [he, hstate, hl]
    have hstill : (dockMove ((s.based i).dlc.faulted .budget) (s.based i)).1.Still := hs
    refine Ends.le (Ends.baseTold (k := 600) hstill hp (hc.imp id .inr) fun t x ht hh hx => ?_) (by omega)
    rw [List.append_assoc]
    refine Ends.dockResumed (ht.only.dlc rfl) (fun _ => ht.passdown) (not_delivers hst) ?_
    refine Ends.mono (Ends.dockMovedRest (k := 599) ((s.based i).dlc.faulted_rest .budget) (fun g hg => ?_) ht.still.1) fun u hu =>
      DockRested.recoveryFaulted (s := s.based i) hu
    simp only [List.mem_append, List.mem_singleton] at hg
    rcases hg with (rfl | hg) | hg
    · rw [hr]; decide
    · exact kinds_all (l := stepEnd) rfl g hg
    · rw [hx g hg]; decide

/-! ### Attempts without an IDENT -/

/-- Three attempts with a garbled one among them are a fault. -/
theorem identificationFailed_garbled (h : s.dlc.outcomes.all (· == .missing) = false) :
    identificationFailed s = dockFault .ident true { s with dlc := { s.dlc with base := none } } :=
  if_neg (by simp [h])

/-- A close of a slot is an event of the dock that settles from what it leaves. -/
theorem exec_closed {a : Act} (hq : s.ulp.queue = []) (he : exec c s = finish a) (hcore : c.core s = a) (hplain : isPlainEvent c = true)
    (hsib : c.blocks.contains .sib = false) (hms : c.blocks.contains .ms = false) (h : Ends 1000 a.2 a.1 Q) :
    ∃ t, exec c s = .next t ∧ Q t ∧ s.SameConfig t ∧ t.sib = s.sib := by
  obtain ⟨t, ht, hQ, hcf, hsb, -⟩ := exec_event hplain (State.SameConfig.refl s) hq he hcore hsib hms h
  exact ⟨t, ht, hQ, hcf, hsb⟩

/-- A VALID IDENT to an attempt. -/
theorem exec_ident {bytes : List Byte} {f : DockFrame} (ha : parseAnswer bytes = some (.ident i)) (hst : s.dlc.state = .identifying)
    (hs : s.dlc.slot = some f) (hq : s.ulp.queue = [])
    (h : Ends 1000 (if s.dlc.recov then recovered i (s.attempted .valid) else identified i (s.attempted .valid)).2
      (if s.dlc.recov then recovered i (s.attempted .valid) else identified i (s.attempted .valid)).1 Q) :
    ∃ t, exec (.dockAnswer bytes) s = .next t ∧ Q t ∧ s.SameConfig t ∧ t.sib = s.sib := by
  have hclose := (closeSlot_ident (gate := gateArrival) (ans := some (.ident i)) (o := .valid) hs hst).trans (identClose_ident _ s)
  exact exec_closed hq ((exec_answer ha).trans (congrArg finish hclose)) ((dockAnswer_core ha).trans hclose) rfl rfl rfl h

/-- An attempt before the third, without an IDENT. -/
theorem exec_attempt {bytes : List Byte} {f : DockFrame} (hc : c ∈ closers bytes) (hn : (parseAnswer bytes).any Answer.isIdent = false)
    (hst : s.dlc.state = .identifying) (hs : s.dlc.slot = some f) (hlen : s.dlc.outcomes.length < 2)
    (ht : s.dlc.attemptTimer ≠ some 0) :
    exec c s = .next (s.attempted (if c = .answerWindowExpiry then .missing else .garbled)) := by
  obtain ⟨a, he, -, -, -, -, ha⟩ := closer_attempt hc hn hst hs _ rfl
  rw [if_pos (by rw [List.length_append]; exact Nat.succ_lt_succ hlen)] at ha
  rw [he, ha]
  refine finish_openDue (.inr ?_)
  rw [if_pos (by exact hst)]
  exact ht

/-- The third attempt without an IDENT. -/
theorem exec_third {bytes : List Byte} {f : DockFrame} {n : Outcome} (hc : c ∈ closers bytes)
    (hn : (parseAnswer bytes).any Answer.isIdent = false) (hst : s.dlc.state = .identifying) (hs : s.dlc.slot = some f)
    (hlen : s.dlc.outcomes.length = 2) (hq : s.ulp.queue = []) (hnote : n = if c = .answerWindowExpiry then .missing else .garbled)
    (h : Ends 1000 (if s.dlc.recov then dockFault .link false (s.attempted n) else identificationFailed (s.attempted n)).2
      (if s.dlc.recov then dockFault .link false (s.attempted n) else identificationFailed (s.attempted n)).1 Q) :
    ∃ t, exec c s = .next t ∧ Q t ∧ s.SameConfig t ∧ t.sib = s.sib := by
  obtain ⟨a, he, hcore, hplain, hsib, hms, ha⟩ := closer_attempt hc hn hst hs n hnote
  rw [if_neg (by simp [hlen])] at ha
  subst ha
  exact exec_closed hq he hcore hplain hsib hms h

/-- Settles O34: every close of an attempt goes by its outcome. An identification is a change of the dock state behind a
base report, whose walk, where there is one, begins POWER; a recovery notifies the HAU first, and what that sets off is run to
its end before the dock's own handovers. -/
theorem identificationOutcomes : Obligations.IdentificationOutcomes := by
  refine ⟨fun bytes f i s hst hrec hs hp hh hq => ⟨fun ha => ⟨fun hw => ?rests, fun w hw hat hcond hbase => ⟨fun hb => ?powers, fun hb => ?faults⟩⟩,
      fun hout => ?cover, fun c hc hn => ⟨fun hlen hg => ?garbled, fun hlen ht => exec_attempt hc hn hst hs hlen ht⟩⟩,
    fun bytes f i s hst hrec hs hw hreq hp hcond hh hq => ⟨fun ha hd => ⟨fun hsame hb => ?same, fun hother hb => ?other, fun hb hd' => ?above⟩,
      fun c hc hn hlen => ?link⟩⟩
  all_goals have hstill : ∀ o, (s.attempted o).Still := fun _ => ⟨hq, .inl hh⟩
  case rests =>
    obtain ⟨t, ht, ⟨hd, hr⟩, hcf, hsb⟩ := exec_ident ha hst hs hq (by
      rw [hrec]
      exact Ends.identifiedRests (hstill _) hp hst hw)
    exact ⟨t, ht, hd.state, hd.base, hd.step, hd.walk.trans (congrArg (Option.filter _) hw), hd.basePower, hr, hcf, hsb⟩
  case powers =>
    obtain ⟨t, ht, ⟨h1, h2, h3, h4, h5⟩, hcf, hsb⟩ := exec_ident ha hst hs hq (by
      rw [hrec]
      exact Ends.identifiedPowers (hstill _) hp hst hw hat hcond hbase hb)
    exact ⟨t, ht, h1, h2, h3, h4, h5, hcf, hsb⟩
  case faults =>
    obtain ⟨t, ht, ⟨h1, h2, h3, h4, h5, h6, h7⟩, hcf, hsb⟩ := exec_ident ha hst hs hq (by
      rw [hrec]
      exact Ends.identifiedFaults (hstill _) hp hst hw hat hcond hbase hb)
    exact ⟨t, ht, h1, h2, h3, h4, h5, h6, h7, hcf, hsb⟩
  case cover =>
    obtain ⟨t, ht, ⟨hd, hg, hpd⟩, hcf, hsb⟩ := exec_third (c := .answerWindowExpiry) (bytes := []) (n := .missing) (by simp) rfl hst hs
      (by rw [hout]; rfl) hq rfl (by
      rw [hrec]
      exact Ends.coverFound (hstill _) hp hst (by simp [State.attempted, hout]))
    exact ⟨t, ht, hd.state, hd.base, hd.step, hd.walk, hd.basePower, hg, hpd, hcf, hsb⟩
  case garbled =>
    have hmix : (s.dlc.outcomes ++ [if c = .answerWindowExpiry then Outcome.missing else .garbled]).all (· == .missing) = false := by
      rcases hg with hg | hg
      · simp [hg]
      · simp only [List.all_append, Bool.and_eq_false_iff, List.all_eq_false]
        exact .inl ⟨.garbled, hg, by decide⟩
    obtain ⟨t, ht, hd, hcf, hsb⟩ := exec_third hc hn hst hs hlen hq rfl (by
      rw [hrec, if_neg nofun, identificationFailed_garbled hmix, ← List.append_nil (dockFault _ _ _).2]
      exact Ends.dockFaulted (k := 999) nofun hq)
    exact ⟨t, ht, hd.dlc.state, hd.dlc.cause, hd.dlc.base, hd.dlc.step, hd.dlc.walk, hd.dlc.basePower, hd.grant, hcf, hsb⟩
  case same =>
    obtain ⟨t, ht, ⟨v, hv, hd', hpd, hsbu, hpcl⟩, hcf, hsb⟩ := exec_ident ha hst hs hq (by
      rw [hrec]
      exact Ends.recoveredSame (hstill _) hp hst hreq hw hcond hd hsame hb)
    obtain ⟨slot, timer, since, hrecord, hwait, hopen⟩ := hv.slotted
    rw [← hd'] at hrecord
    rw [← hpd] at hwait hopen
    refine ⟨t, ht, ?_⟩
    rw [hsbu, hpcl, hrecord]
    exact ⟨rfl, rfl, rfl, rfl, hw, rfl, rfl, hv.requested, hv.cond, hwait, hopen, hcf, hsb⟩
  case other =>
    obtain ⟨t, ht, ⟨h1, h2, h3, h4, h5, h6, h7, h8⟩, hcf, hsb⟩ := exec_ident ha hst hs hq (by
      rw [hrec]
      exact Ends.recoveredPowers (hstill _) hp hst hrec hw hcond hd hother hb)
    exact ⟨t, ht, h1, h2, h3, h4, h5, h6, h7, h8, hcf, hsb⟩
  case above =>
    obtain ⟨t, ht, h, hcf, hsb⟩ := exec_ident ha hst hs hq (by
      rw [hrec]
      exact Ends.recoveredFaults (hstill _) hp hst hrec hd' hb)
    exact ⟨t, ht, h.state, h.cause, h.recov, h.base, h.step, h.basePower, h.passdown, h.grant, hcf, hsb⟩
  case link =>
    obtain ⟨t, ht, hd, hcf, hsb⟩ := exec_third hc hn hst hs hlen hq rfl (by
      rw [hrec, if_pos rfl, ← List.append_nil (dockFault _ _ _).2]
      exact Ends.dockFaulted (k := 999) nofun hq)
    have h := hd.recoveryFaulted
    exact ⟨t, ht, h.state, h.cause, h.recov, h.base, h.step, h.basePower, h.grant, hcf, hsb⟩

end

end Sys2Proof.Machine
end
